-- ==== Sys2Proof/Word.lean ====
section
/-!
DEFINITION. Words, lanes and the names of places of the Solandone S8: the widths of R6, the eight
lanes of R5, the element operand codes' widths of R28, and the positions of R7 and R16.
-/

namespace Sys2Proof

/-- A byte is 8 bits (R6). -/
abbrev Byte := BitVec 8

/-- A word is 32 bits (R6). -/
abbrev Word := BitVec 32

/-- Eight lanes of a 256-bit register, token or constant; lane `i` holds bits `[32i+31:32i]` (R5). -/
structure Lanes (α : Type) where
  l0 : α
  l1 : α
  l2 : α
  l3 : α
  l4 : α
  l5 : α
  l6 : α
  l7 : α
  deriving DecidableEq, Repr, Inhabited

/-- Lane `i` of a value. -/
def Lanes.get {α : Type} (v : Lanes α) (i : Fin 8) : α :=
  match i with
  | 0 => v.l0
  | 1 => v.l1
  | 2 => v.l2
  | 3 => v.l3
  | 4 => v.l4
  | 5 => v.l5
  | 6 => v.l6
  | 7 => v.l7

/-- The value whose lane `i` is `f i`. -/
def Lanes.ofFn {α : Type} (f : Fin 8 → α) : Lanes α :=
  ⟨f 0, f 1, f 2, f 3, f 4, f 5, f 6, f 7⟩

/-- One value in every lane. -/
def Lanes.fill {α : Type} (x : α) : Lanes α := ⟨x, x, x, x, x, x, x, x⟩

/-- The lanes in ascending order. -/
def Lanes.toList {α : Type} (v : Lanes α) : List α :=
  [v.l0, v.l1, v.l2, v.l3, v.l4, v.l5, v.l6, v.l7]

/-- Eight lanes of 32 bits: the contents of a register, a constant or a token (R5, R24). -/
abbrev Vec := Lanes Word

/-- Eight bits, one per lane: a predicate or a guard (R36). -/
abbrev Mask := Lanes Bool

/-- The lane indices in ascending order. -/
def laneIdx : List (Fin 8) := [0, 1, 2, 3, 4, 5, 6, 7]

/-- The kinds of element (R16). -/
inductive Kind where
  | v
  | s
  | a
  | m
  deriving DecidableEq, Repr, Inhabited

/-- A tile by its die 0-7, row 0-19 and column 0-39 (R7). -/
structure TileId where
  die : Nat
  row : Nat
  col : Nat
  deriving DecidableEq, Repr, Inhabited

/-- An element by its compute tile and its position 0-127 (R7). -/
structure ElemId where
  tile : TileId
  pos : Nat
  deriving DecidableEq, Repr, Inhabited

/-- A block in package coordinates: BR 0-19, BC 0-79 (R14, R371). -/
structure BlockId where
  br : Nat
  bc : Nat
  deriving DecidableEq, Repr, Inhabited

/-- The ownership tag: context number and request tag (R23). -/
structure Owner where
  ctxno : BitVec 14
  reqtag : BitVec 16
  deriving DecidableEq, Repr, Inhabited

end Sys2Proof
end

