-- ==== Sys2Proof/Syntax.lean ====
section
/-!
DEFINITION. The instructions and whole steps of the Solandone S8: one constructor for each row of
spec/opcode_table.json. The 300 rows that have a 32-bit slot word carry that word's fields, named as
the table names them (`t` the trigger index, `d` `a` `b` the operand codes of Table 2.3, `i` an
immediate, `r` a rounding code, `n` `s` `y` `c` `f` the fields of the function or literal). The 106
rows that have no word are the whole steps of the device's other agents; their operands name the
agent that acts (a die, a region, a tile, an element, a request), and DESIGN CHOICE entry 1 gives them.
-/

namespace Sys2Proof

/-- One instruction or whole step of the opcode table. -/
inductive Instr where
  /-- `POWER_UP` (R447). -/
  | powerUp
  /-- `BOOT` (R447). -/
  | boot (die : Nat)
  /-- `BOOT_VERIFY_END` (R448). -/
  | bootVerifyEnd
  /-- `SET_POINT` (R450). -/
  | setPoint (die : Nat)
  /-- `INVALIDATE` (R219). -/
  | invalidate (die : Nat)
  /-- `BIND_WINDOW` (R446). -/
  | bindWindow (die : Nat)
  /-- `CONTEXT` (R442). -/
  | context (die : Nat)
  /-- `SPACE_TABLE` (R216). -/
  | spaceTable (die : Nat)
  /-- `TRANSLATION_QUEUE` (R442). -/
  | translationQueue (die : Nat)
  /-- `REUSE_STORE` (R402). -/
  | reuseStore (die : Nat)
  /-- `REUSE_QUOTA` (R407). -/
  | reuseQuota (die : Nat)
  /-- `REUSE_FLUSH` (R408). -/
  | reuseFlush (die : Nat)
  /-- `SAVE` (R442). -/
  | save (die : Nat)
  /-- `PURGE` (R429). -/
  | purge (die : Nat)
  /-- `INJECT` (R312). -/
  | inject (die : Nat)
  /-- `MONITOR` (R454). -/
  | monitor (die : Nat)
  /-- `ATTEST` (R449). -/
  | attest (die : Nat)
  /-- `IDENTITY_KEY` (R442). -/
  | identityKey (die : Nat)
  /-- `THRESHOLD` (R452). -/
  | threshold (die : Nat)
  /-- `CLEAR_ERRORS` (R452). -/
  | clearErrors (die : Nat)
  /-- `RETRAIN` (R444). -/
  | retrain (die : Nat)
  /-- `CHANNEL_TABLE` (R445). -/
  | channelTable (die : Nat)
  /-- `COMMAND_DONE` (R441). -/
  | commandDone (die : Nat)
  /-- `TRANSLATION_DOORBELL` (R222). -/
  | translationDoorbell (die : Nat)
  /-- `NOTIFICATION_CLEAR` (R440). -/
  | notificationClear (die : Nat) (ntf : BitVec 5) (isl : BitVec 16)
  /-- `MANAGEMENT_WRITE` (R440). -/
  | managementWrite (die : Nat) (off : Nat) (value : Byte)
  /-- `LAUNCH_WORD_STORE` (R332). -/
  | launchWordStore (die : Nat) (value : BitVec 64)
  /-- `LAUNCH_CAPTURE` (R328). -/
  | launchCapture (die : Nat) (req : Option Nat)
  /-- `LINK_LOST` (R444). -/
  | linkLost (port : Nat)
  /-- `CORRECTED_ERROR` (R433). -/
  | correctedError (island : Nat)
  /-- `STRUCTURE_ERROR` (R434). -/
  | structureError (code : Nat) (place : ElemId) (index : Nat)
  /-- `M_ELEMENT_SOFT_ERROR` (R311). -/
  | mElementSoftError (elem : ElemId) (what : Nat) (index : Nat) (flip : BitVec 64)
  /-- `SCHEDULER_CYCLE` (R370). -/
  | schedulerCycle
  /-- `REUSE_HIT` (R405). -/
  | reuseHit (acc : Nat)
  /-- `IMAGE_REJECTED` (R42). -/
  | imageRejected (region : Nat)
  /-- `LOAD_TAKES_EFFECT` (R296). -/
  | loadTakesEffect (region : Nat)
  /-- `REGION_IDLE` (R335). -/
  | regionIdle (region : Nat)
  /-- `REUSE_INSERTION` (R406). -/
  | reuseInsertion (region : Nat)
  /-- `FOLD_DRAINED` (R379). -/
  | foldDrained (region : Nat)
  /-- `FOLD_ABANDON` (R380). -/
  | foldAbandon (region : Nat)
  /-- `SAVE_WRITTEN` (R381). -/
  | saveWritten (region : Nat)
  /-- `RESTORE_WRITTEN` (R382). -/
  | restoreWritten (region : Nat)
  /-- `SWITCH_REQUEST_ARRIVAL` (R64). -/
  | switchRequestArrival (elem : ElemId)
  /-- `SWITCH_STATUS_ARRIVAL` (R303). -/
  | switchStatusArrival (elem : ElemId)
  /-- `REGION_DRAINED` (R301). -/
  | regionDrained (region : Nat)
  /-- `SETTLING_END` (R301). -/
  | settlingEnd (region : Nat)
  /-- `SWITCH_DRAIN_TIMEOUT` (R301). -/
  | switchDrainTimeout (region : Nat)
  /-- `STAGE_DRY` (R304). -/
  | stageDry (region : Nat)
  /-- `STILLNESS` (R385). -/
  | stillness (region : Nat)
  /-- `SWITCH_CYCLE` (R131). -/
  | switchCycle (elem : ElemId)
  /-- `SPILL_RECORD_OFFER` (R457). -/
  | spillRecordOffer (elem : ElemId)
  /-- `SPILL_END` (R139). -/
  | spillEnd (elem : ElemId) (bank : BitVec 2)
  /-- `REINSTATEMENT_START` (R141). -/
  | reinstatementStart (elem : ElemId) (rec : Nat)
  /-- `REINSTATEMENT_END` (R141). -/
  | reinstatementEnd (elem : ElemId) (rec : Nat)
  /-- `NEIGHBOUR_TRANSFER` (R133). -/
  | neighbourTransfer (elem : ElemId) (dir : BitVec 2)
  /-- `ROUTE_CLASS_ENTRY` (R288). -/
  | routeClassEntry (elem : ElemId)
  /-- `TOKEN_DELIVERY` (R289). -/
  | tokenDelivery (tile : TileId) (cls : BitVec 6)
  /-- `GATEWAY_REJECT` (R22). -/
  | gatewayReject (tile : TileId) (cls : BitVec 6)
  /-- `CONTROL_TOKEN_ARRIVAL` (R65). -/
  | controlTokenArrival (elem : ElemId) (chan : BitVec 4)
  /-- `LOOP_LEVEL_CHANGE` (R147). -/
  | loopLevelChange (elem : ElemId)
  /-- `RELEASE_SEND` (R92). -/
  | releaseSend (req : Nat)
  /-- `TRANSLATION_LOOKUP` (R217). -/
  | translationLookup (req : Nat) (useTlb : Bool)
  /-- `HOME_ACCESS` (R90). -/
  | homeAccess (req : Nat) (part : Nat)
  /-- `RESPONSE_ARRIVAL` (R85). -/
  | responseArrival (req : Nat)
  /-- `IO_MESSAGE_AVAILABLE` (R119). -/
  | ioMessageAvailable (queue : Nat) (msg : List Byte)
  /-- `IOREAD_COMPLETION` (R119). -/
  | ioreadCompletion (req : Nat)
  /-- `SEAL_MARK` (R342). -/
  | sealMark (req : Nat)
  /-- `SEAL_HASH_END` (R342). -/
  | sealHashEnd (die : Nat)
  /-- `RANGE_UNIT_REQUEST` (R340). -/
  | rangeUnitRequest (req : Nat)
  /-- `HASH_ENGINE_REQUEST` (R352). -/
  | hashEngineRequest (req : Nat)
  /-- `FRAME_REQUEST` (R109). -/
  | frameRequest (req : Nat)
  /-- `FRAME_EMIT` (R145). -/
  | frameEmit (elem : ElemId)
  /-- `STREAM_START` (R250). -/
  | streamStart (tile : TileId) (port : BitVec 4)
  /-- `STREAM_TOKEN` (R253). -/
  | streamToken (tile : TileId) (port : BitVec 4)
  /-- `STREAM_COMPLETE` (R253). -/
  | streamComplete (tile : TileId) (port : BitVec 4)
  /-- `COPY_CAPTURE` (R261). -/
  | copyCapture (elem : ElemId) (sb : BitVec 3)
  /-- `COPY_CHUNK` (R259). -/
  | copyChunk (elem : ElemId) (sb : BitVec 3)
  /-- `COPY_COMPLETE` (R261). -/
  | copyComplete (elem : ElemId) (sb : BitVec 3)
  /-- `RMW_APPLY` (R391). -/
  | rmwApply (req : Nat)
  /-- `INTAKE_BURST` (R270). -/
  | intakeBurst (elem : ElemId)
  /-- `ACCUMULATOR_WRITE` (R309). -/
  | accumulatorWrite (elem : ElemId)
  /-- `DRAIN_TOKEN` (R272). -/
  | drainToken (elem : ElemId)
  /-- `THRESHOLD_MASK` (R347). -/
  | thresholdMask (elem : ElemId)
  /-- `PAGE_SCORE` (R349). -/
  | pageScore (elem : ElemId) (sb : BitVec 3)
  /-- `PAGE_LIST_WRITE` (R401). -/
  | pageListWrite (elem : ElemId) (sb : BitVec 3)
  /-- `PAGE_START_HANDOVER` (R400). -/
  | pageStartHandover (elem : ElemId) (sb : BitVec 3)
  /-- `QUARTER_ACCEPT` (R202). -/
  | quarterAccept (tile : TileId) (q : BitVec 2)
  /-- `FIFO_EMIT` (R202). -/
  | fifoEmit (tile : TileId) (q : BitVec 2)
  /-- `LINE_BUFFER_EMIT` (R203). -/
  | lineBufferEmit (tile : TileId) (q : BitVec 2)
  /-- `TILE_STORE_WRITE` (R201). -/
  | tileStoreWrite (tile : TileId) (q : BitVec 2)
  /-- `TILE_STORE_READ` (R201). -/
  | tileStoreRead (tile : TileId) (q : BitVec 2)
  /-- `RETIRE_HEAD` (R419). -/
  | retireHead (region : Nat)
  /-- `FAULT_TAKEN` (R422). -/
  | faultTaken (region : Nat)
  /-- `HANDLER_ENTRY` (R422). -/
  | handlerEntry (region : Nat)
  /-- `HANDLER_EXIT` (R423). -/
  | handlerExit (region : Nat)
  /-- `PURGE_MARKING` (R429). -/
  | purgeMarking (die : Nat)
  /-- `PURGE_SWEEP_DONE` (R429). -/
  | purgeSweepDone (die : Nat)
  /-- `PURGE_RECORDING` (R432). -/
  | purgeRecording (die : Nat)
  /-- `EXIT_COMPARE` (R435). -/
  | exitCompare (req0 : Nat) (req1 : Nat)
  /-- `TWIN_PARTNER_TIMEOUT` (R436). -/
  | twinPartnerTimeout (req : Nat)
  /-- `nop` (R58). -/
  | nop (t : BitVec 6)
  /-- `sete` (R58). -/
  | sete (t : BitVec 6) (a : BitVec 5)
  /-- `clre` (R58). -/
  | clre (t : BitVec 6) (a : BitVec 5)
  /-- `fwd` (R61). -/
  | fwd (t : BitVec 6) (d : BitVec 5) (a : BitVec 5)
  /-- `fwd.t` (R61). -/
  | fwdT (t : BitVec 6) (d : BitVec 5) (a : BitVec 5)
  /-- `deq` (R60). -/
  | deq (t : BitVec 6) (a : BitVec 5)
  /-- `sel.qn` (R62). -/
  | selQn (t : BitVec 6) (d : BitVec 5) (a : BitVec 5) (b : BitVec 5) (n : BitVec 3)
  /-- `cfgsw` (R63). -/
  | cfgsw (t : BitVec 6) (d : BitVec 5) (a : BitVec 5)
  /-- `cfgsw.ccN` (R63). -/
  | cfgswCc (t : BitVec 6) (d : BitVec 5) (c : BitVec 2)
  /-- `ctok` (R66). -/
  | ctok (t : BitVec 6) (b : BitVec 5)
  /-- `cwait` (R66). -/
  | cwait (t : BitVec 6) (b : BitVec 5)
  /-- `mov` (R67). -/
  | mov (t : BitVec 6) (d : BitVec 5) (a : BitVec 5)
  /-- `movp` (R67). -/
  | movp (t : BitVec 6) (d : BitVec 5) (a : BitVec 5)
  /-- `mvse` (R67). -/
  | mvse (t : BitVec 6) (d : BitVec 5)
  /-- `mvsb` (R68). -/
  | mvsb (t : BitVec 6) (d : BitVec 5) (a : BitVec 5)
  /-- `movi` (R69). -/
  | movi (t : BitVec 6) (d : BitVec 5) (i : BitVec 10)
  /-- `movl` (R69). -/
  | movl (t : BitVec 6) (d : BitVec 5) (i : BitVec 15)
  /-- `add` (R70). -/
  | add (t : BitVec 6) (d : BitVec 5) (a : BitVec 5) (b : BitVec 5)
  /-- `sub` (R70). -/
  | sub (t : BitVec 6) (d : BitVec 5) (a : BitVec 5) (b : BitVec 5)
  /-- `adds.s32` (R70). -/
  | addsS32 (t : BitVec 6) (d : BitVec 5) (a : BitVec 5) (b : BitVec 5)
  /-- `adds.n32` (R70). -/
  | addsN32 (t : BitVec 6) (d : BitVec 5) (a : BitVec 5) (b : BitVec 5)
  /-- `subs.s32` (R70). -/
  | subsS32 (t : BitVec 6) (d : BitVec 5) (a : BitVec 5) (b : BitVec 5)
  /-- `subs.n32` (R70). -/
  | subsN32 (t : BitVec 6) (d : BitVec 5) (a : BitVec 5) (b : BitVec 5)
  /-- `and` (R70). -/
  | and (t : BitVec 6) (d : BitVec 5) (a : BitVec 5) (b : BitVec 5)
  /-- `or` (R70). -/
  | or (t : BitVec 6) (d : BitVec 5) (a : BitVec 5) (b : BitVec 5)
  /-- `xor` (R70). -/
  | xor (t : BitVec 6) (d : BitVec 5) (a : BitVec 5) (b : BitVec 5)
  /-- `andn` (R70). -/
  | andn (t : BitVec 6) (d : BitVec 5) (a : BitVec 5) (b : BitVec 5)
  /-- `shl` (R70). -/
  | shl (t : BitVec 6) (d : BitVec 5) (a : BitVec 5) (b : BitVec 5)
  /-- `shr` (R70). -/
  | shr (t : BitVec 6) (d : BitVec 5) (a : BitVec 5) (b : BitVec 5)
  /-- `sra` (R70). -/
  | sra (t : BitVec 6) (d : BitVec 5) (a : BitVec 5) (b : BitVec 5)
  /-- `rotl` (R70). -/
  | rotl (t : BitVec 6) (d : BitVec 5) (a : BitVec 5) (b : BitVec 5)
  /-- `min.s32` (R70). -/
  | minS32 (t : BitVec 6) (d : BitVec 5) (a : BitVec 5) (b : BitVec 5)
  /-- `min.n32` (R70). -/
  | minN32 (t : BitVec 6) (d : BitVec 5) (a : BitVec 5) (b : BitVec 5)
  /-- `max.s32` (R70). -/
  | maxS32 (t : BitVec 6) (d : BitVec 5) (a : BitVec 5) (b : BitVec 5)
  /-- `max.n32` (R70). -/
  | maxN32 (t : BitVec 6) (d : BitVec 5) (a : BitVec 5) (b : BitVec 5)
  /-- `abs.s32` (R70). -/
  | absS32 (t : BitVec 6) (d : BitVec 5) (a : BitVec 5)
  /-- `neg` (R70). -/
  | neg (t : BitVec 6) (d : BitVec 5) (a : BitVec 5)
  /-- `not` (R70). -/
  | not (t : BitVec 6) (d : BitVec 5) (a : BitVec 5)
  /-- `addi` (R71). -/
  | addi (t : BitVec 6) (d : BitVec 5) (a : BitVec 5) (i : BitVec 10)
  /-- `andi` (R71). -/
  | andi (t : BitVec 6) (d : BitVec 5) (a : BitVec 5) (i : BitVec 10)
  /-- `mul` (R72). -/
  | mul (t : BitVec 6) (d : BitVec 5) (a : BitVec 5) (b : BitVec 5)
  /-- `mulh.s32` (R72). -/
  | mulhS32 (t : BitVec 6) (d : BitVec 5) (a : BitVec 5) (b : BitVec 5)
  /-- `mulh.n32` (R72). -/
  | mulhN32 (t : BitVec 6) (d : BitVec 5) (a : BitVec 5) (b : BitVec 5)
  /-- `mulw.s16` (R72). -/
  | mulwS16 (t : BitVec 6) (d : BitVec 5) (a : BitVec 5) (b : BitVec 5)
  /-- `mulw.n16` (R72). -/
  | mulwN16 (t : BitVec 6) (d : BitVec 5) (a : BitVec 5) (b : BitVec 5)
  /-- `ceq` (R73). -/
  | ceq (t : BitVec 6) (d : BitVec 5) (a : BitVec 5) (b : BitVec 5)
  /-- `cne` (R73). -/
  | cne (t : BitVec 6) (d : BitVec 5) (a : BitVec 5) (b : BitVec 5)
  /-- `clt.s32` (R73). -/
  | cltS32 (t : BitVec 6) (d : BitVec 5) (a : BitVec 5) (b : BitVec 5)
  /-- `cle.s32` (R73). -/
  | cleS32 (t : BitVec 6) (d : BitVec 5) (a : BitVec 5) (b : BitVec 5)
  /-- `cgt.s32` (R73). -/
  | cgtS32 (t : BitVec 6) (d : BitVec 5) (a : BitVec 5) (b : BitVec 5)
  /-- `cge.s32` (R73). -/
  | cgeS32 (t : BitVec 6) (d : BitVec 5) (a : BitVec 5) (b : BitVec 5)
  /-- `clt.n32` (R73). -/
  | cltN32 (t : BitVec 6) (d : BitVec 5) (a : BitVec 5) (b : BitVec 5)
  /-- `cle.n32` (R73). -/
  | cleN32 (t : BitVec 6) (d : BitVec 5) (a : BitVec 5) (b : BitVec 5)
  /-- `cgt.n32` (R73). -/
  | cgtN32 (t : BitVec 6) (d : BitVec 5) (a : BitVec 5) (b : BitVec 5)
  /-- `cge.n32` (R73). -/
  | cgeN32 (t : BitVec 6) (d : BitVec 5) (a : BitVec 5) (b : BitVec 5)
  /-- `pand` (R74). -/
  | pand (t : BitVec 6) (d : BitVec 5) (a : BitVec 5) (b : BitVec 5)
  /-- `por` (R74). -/
  | por (t : BitVec 6) (d : BitVec 5) (a : BitVec 5) (b : BitVec 5)
  /-- `pxor` (R74). -/
  | pxor (t : BitVec 6) (d : BitVec 5) (a : BitVec 5) (b : BitVec 5)
  /-- `pandn` (R74). -/
  | pandn (t : BitVec 6) (d : BitVec 5) (a : BitVec 5) (b : BitVec 5)
  /-- `pnot` (R74). -/
  | pnot (t : BitVec 6) (d : BitVec 5) (a : BitVec 5)
  /-- `pany` (R74). -/
  | pany (t : BitVec 6) (d : BitVec 5) (a : BitVec 5)
  /-- `pall` (R74). -/
  | pall (t : BitVec 6) (d : BitVec 5) (a : BitVec 5)
  /-- `bcast` (R75). -/
  | bcast (t : BitVec 6) (d : BitVec 5) (a : BitVec 5) (b : BitVec 5)
  /-- `perm` (R75). -/
  | perm (t : BitVec 6) (d : BitVec 5) (a : BitVec 5) (b : BitVec 5)
  /-- `lrot` (R75). -/
  | lrot (t : BitVec 6) (d : BitVec 5) (a : BitVec 5) (b : BitVec 5)
  /-- `lshd` (R75). -/
  | lshd (t : BitVec 6) (d : BitVec 5) (a : BitVec 5) (b : BitVec 5)
  /-- `pack` (R76). -/
  | pack (t : BitVec 6) (d : BitVec 5) (a : BitVec 5)
  /-- `cset` (R78). -/
  | cset (t : BitVec 6) (d : BitVec 5) (a : BitVec 5)
  /-- `cstep` (R78). -/
  | cstep (t : BitVec 6) (d : BitVec 5) (b : BitVec 5)
  /-- `crd` (R78). -/
  | crd (t : BitVec 6) (d : BitVec 5)
  /-- `popc` (R79). -/
  | popc (t : BitVec 6) (d : BitVec 5) (a : BitVec 5)
  /-- `clz` (R79). -/
  | clz (t : BitVec 6) (d : BitVec 5) (a : BitVec 5)
  /-- `ctz` (R79). -/
  | ctz (t : BitVec 6) (d : BitVec 5) (a : BitVec 5)
  /-- `brev` (R79). -/
  | brev (t : BitVec 6) (d : BitVec 5) (a : BitVec 5)
  /-- `bswap` (R79). -/
  | bswap (t : BitVec 6) (d : BitVec 5) (a : BitVec 5)
  /-- `bfx.n32` (R79). -/
  | bfxN32 (t : BitVec 6) (d : BitVec 5) (a : BitVec 5) (b : BitVec 5)
  /-- `bfx.s32` (R79). -/
  | bfxS32 (t : BitVec 6) (d : BitVec 5) (a : BitVec 5) (b : BitVec 5)
  /-- `fadd.f32` (R172). -/
  | faddF32 (t : BitVec 6) (d : BitVec 5) (a : BitVec 5) (b : BitVec 5) (r : BitVec 2)
  /-- `fsub.f32` (R172). -/
  | fsubF32 (t : BitVec 6) (d : BitVec 5) (a : BitVec 5) (b : BitVec 5) (r : BitVec 2)
  /-- `fmul.f32` (R172). -/
  | fmulF32 (t : BitVec 6) (d : BitVec 5) (a : BitVec 5) (b : BitVec 5) (r : BitVec 2)
  /-- `fdiv.f32` (R172). -/
  | fdivF32 (t : BitVec 6) (d : BitVec 5) (a : BitVec 5) (b : BitVec 5) (r : BitVec 2)
  /-- `fsqrt.f32` (R172). -/
  | fsqrtF32 (t : BitVec 6) (d : BitVec 5) (a : BitVec 5) (r : BitVec 2)
  /-- `ffma.f32` (R172). -/
  | ffmaF32 (t : BitVec 6) (d : BitVec 5) (a : BitVec 5) (b : BitVec 5) (r : BitVec 2)
  /-- `ffms.f32` (R172). -/
  | ffmsF32 (t : BitVec 6) (d : BitVec 5) (a : BitVec 5) (b : BitVec 5) (r : BitVec 2)
  /-- `ffnma.f32` (R172). -/
  | ffnmaF32 (t : BitVec 6) (d : BitVec 5) (a : BitVec 5) (b : BitVec 5) (r : BitVec 2)
  /-- `ffnms.f32` (R172). -/
  | ffnmsF32 (t : BitVec 6) (d : BitVec 5) (a : BitVec 5) (b : BitVec 5) (r : BitVec 2)
  /-- `fmin.f32` (R174). -/
  | fminF32 (t : BitVec 6) (d : BitVec 5) (a : BitVec 5) (b : BitVec 5)
  /-- `fmax.f32` (R174). -/
  | fmaxF32 (t : BitVec 6) (d : BitVec 5) (a : BitVec 5) (b : BitVec 5)
  /-- `fabs.f32` (R174). -/
  | fabsF32 (t : BitVec 6) (d : BitVec 5) (a : BitVec 5)
  /-- `fneg.f32` (R174). -/
  | fnegF32 (t : BitVec 6) (d : BitVec 5) (a : BitVec 5)
  /-- `fsgn.f32` (R174). -/
  | fsgnF32 (t : BitVec 6) (d : BitVec 5) (a : BitVec 5) (b : BitVec 5)
  /-- `fmin.bf16x2` (R174). -/
  | fminBf16x2 (t : BitVec 6) (d : BitVec 5) (a : BitVec 5) (b : BitVec 5)
  /-- `fmax.bf16x2` (R174). -/
  | fmaxBf16x2 (t : BitVec 6) (d : BitVec 5) (a : BitVec 5) (b : BitVec 5)
  /-- `fmin.f16x2` (R174). -/
  | fminF16x2 (t : BitVec 6) (d : BitVec 5) (a : BitVec 5) (b : BitVec 5)
  /-- `fmax.f16x2` (R174). -/
  | fmaxF16x2 (t : BitVec 6) (d : BitVec 5) (a : BitVec 5) (b : BitVec 5)
  /-- `fabs.bf16x2` (R174). -/
  | fabsBf16x2 (t : BitVec 6) (d : BitVec 5) (a : BitVec 5)
  /-- `fneg.bf16x2` (R174). -/
  | fnegBf16x2 (t : BitVec 6) (d : BitVec 5) (a : BitVec 5)
  /-- `fsgn.bf16x2` (R174). -/
  | fsgnBf16x2 (t : BitVec 6) (d : BitVec 5) (a : BitVec 5) (b : BitVec 5)
  /-- `fabs.f16x2` (R174). -/
  | fabsF16x2 (t : BitVec 6) (d : BitVec 5) (a : BitVec 5)
  /-- `fneg.f16x2` (R174). -/
  | fnegF16x2 (t : BitVec 6) (d : BitVec 5) (a : BitVec 5)
  /-- `fsgn.f16x2` (R174). -/
  | fsgnF16x2 (t : BitVec 6) (d : BitVec 5) (a : BitVec 5) (b : BitVec 5)
  /-- `fadd.bf16x2` (R172). -/
  | faddBf16x2 (t : BitVec 6) (d : BitVec 5) (a : BitVec 5) (b : BitVec 5) (r : BitVec 2)
  /-- `fsub.bf16x2` (R172). -/
  | fsubBf16x2 (t : BitVec 6) (d : BitVec 5) (a : BitVec 5) (b : BitVec 5) (r : BitVec 2)
  /-- `fmul.bf16x2` (R172). -/
  | fmulBf16x2 (t : BitVec 6) (d : BitVec 5) (a : BitVec 5) (b : BitVec 5) (r : BitVec 2)
  /-- `ffma.bf16x2` (R172). -/
  | ffmaBf16x2 (t : BitVec 6) (d : BitVec 5) (a : BitVec 5) (b : BitVec 5) (r : BitVec 2)
  /-- `fadd.f16x2` (R172). -/
  | faddF16x2 (t : BitVec 6) (d : BitVec 5) (a : BitVec 5) (b : BitVec 5) (r : BitVec 2)
  /-- `fsub.f16x2` (R172). -/
  | fsubF16x2 (t : BitVec 6) (d : BitVec 5) (a : BitVec 5) (b : BitVec 5) (r : BitVec 2)
  /-- `fmul.f16x2` (R172). -/
  | fmulF16x2 (t : BitVec 6) (d : BitVec 5) (a : BitVec 5) (b : BitVec 5) (r : BitVec 2)
  /-- `ffma.f16x2` (R172). -/
  | ffmaF16x2 (t : BitVec 6) (d : BitVec 5) (a : BitVec 5) (b : BitVec 5) (r : BitVec 2)
  /-- `fdot2.bf16` (R175). -/
  | fdot2Bf16 (t : BitVec 6) (d : BitVec 5) (a : BitVec 5) (b : BitVec 5) (r : BitVec 2)
  /-- `fdot2.f16` (R175). -/
  | fdot2F16 (t : BitVec 6) (d : BitVec 5) (a : BitVec 5) (b : BitVec 5) (r : BitVec 2)
  /-- `fdot4.e4m3` (R175). -/
  | fdot4E4m3 (t : BitVec 6) (d : BitVec 5) (a : BitVec 5) (b : BitVec 5) (r : BitVec 2)
  /-- `fdot4.e5m2` (R175). -/
  | fdot4E5m2 (t : BitVec 6) (d : BitVec 5) (a : BitVec 5) (b : BitVec 5) (r : BitVec 2)
  /-- `idot4.s8` (R175). -/
  | idot4S8 (t : BitVec 6) (d : BitVec 5) (a : BitVec 5) (b : BitVec 5)
  /-- `idot4.n8` (R175). -/
  | idot4N8 (t : BitVec 6) (d : BitVec 5) (a : BitVec 5) (b : BitVec 5)
  /-- `fceq.f32` (R176). -/
  | fceqF32 (t : BitVec 6) (d : BitVec 5) (a : BitVec 5) (b : BitVec 5)
  /-- `fcne.f32` (R176). -/
  | fcneF32 (t : BitVec 6) (d : BitVec 5) (a : BitVec 5) (b : BitVec 5)
  /-- `fclt.f32` (R176). -/
  | fcltF32 (t : BitVec 6) (d : BitVec 5) (a : BitVec 5) (b : BitVec 5)
  /-- `fcle.f32` (R176). -/
  | fcleF32 (t : BitVec 6) (d : BitVec 5) (a : BitVec 5) (b : BitVec 5)
  /-- `fcgt.f32` (R176). -/
  | fcgtF32 (t : BitVec 6) (d : BitVec 5) (a : BitVec 5) (b : BitVec 5)
  /-- `fcge.f32` (R176). -/
  | fcgeF32 (t : BitVec 6) (d : BitVec 5) (a : BitVec 5) (b : BitVec 5)
  /-- `fcun.f32` (R176). -/
  | fcunF32 (t : BitVec 6) (d : BitVec 5) (a : BitVec 5) (b : BitVec 5)
  /-- `fclass.f32` (R177). -/
  | fclassF32 (t : BitVec 6) (d : BitVec 5) (a : BitVec 5)
  /-- `fclass.bf16x2` (R177). -/
  | fclassBf16x2 (t : BitVec 6) (d : BitVec 5) (a : BitVec 5)
  /-- `fclass.f16x2` (R177). -/
  | fclassF16x2 (t : BitVec 6) (d : BitVec 5) (a : BitVec 5)
  /-- `ftest.f32` (R177). -/
  | ftestF32 (t : BitVec 6) (d : BitVec 5) (a : BitVec 5) (b : BitVec 5)
  /-- `cvt.f32.bf16` (R178). -/
  | cvtF32Bf16 (t : BitVec 6) (d : BitVec 5) (a : BitVec 5) (b : BitVec 5)
  /-- `cvt.f32.f16` (R178). -/
  | cvtF32F16 (t : BitVec 6) (d : BitVec 5) (a : BitVec 5) (b : BitVec 5)
  /-- `cvt.bf16x2.f32` (R178). -/
  | cvtBf16x2F32 (t : BitVec 6) (d : BitVec 5) (a : BitVec 5) (b : BitVec 5) (r : BitVec 2)
  /-- `cvt.f16x2.f32` (R178). -/
  | cvtF16x2F32 (t : BitVec 6) (d : BitVec 5) (a : BitVec 5) (b : BitVec 5) (r : BitVec 2)
  /-- `cvt.bf16x2.f16x2` (R178). -/
  | cvtBf16x2F16x2 (t : BitVec 6) (d : BitVec 5) (a : BitVec 5) (r : BitVec 2)
  /-- `cvt.f16x2.bf16x2` (R178). -/
  | cvtF16x2Bf16x2 (t : BitVec 6) (d : BitVec 5) (a : BitVec 5) (r : BitVec 2)
  /-- `cvt.s32.f32` (R179). -/
  | cvtS32F32 (t : BitVec 6) (d : BitVec 5) (a : BitVec 5) (r : BitVec 2)
  /-- `cvt.n32.f32` (R179). -/
  | cvtN32F32 (t : BitVec 6) (d : BitVec 5) (a : BitVec 5) (r : BitVec 2)
  /-- `cvt.f32.s32` (R179). -/
  | cvtF32S32 (t : BitVec 6) (d : BitVec 5) (a : BitVec 5) (r : BitVec 2)
  /-- `cvt.f32.n32` (R179). -/
  | cvtF32N32 (t : BitVec 6) (d : BitVec 5) (a : BitVec 5) (r : BitVec 2)
  /-- `cvt.stoch.bf16x2.f32` (R180). -/
  | cvtStochBf16x2F32 (t : BitVec 6) (d : BitVec 5) (a : BitVec 5) (b : BitVec 5)
  /-- `cvt.stoch.f16x2.f32` (R180). -/
  | cvtStochF16x2F32 (t : BitVec 6) (d : BitVec 5) (a : BitVec 5) (b : BitVec 5)
  /-- `cvt.stoch.e4m3x2.f32` (R180). -/
  | cvtStochE4m3x2F32 (t : BitVec 6) (d : BitVec 5) (a : BitVec 5) (b : BitVec 5)
  /-- `cvt.stoch.e5m2x2.f32` (R180). -/
  | cvtStochE5m2x2F32 (t : BitVec 6) (d : BitVec 5) (a : BitVec 5) (b : BitVec 5)
  /-- `mxsc.e4m3` (R182). -/
  | mxscE4m3 (t : BitVec 6) (d : BitVec 5) (a : BitVec 5)
  /-- `mxsc.e5m2` (R182). -/
  | mxscE5m2 (t : BitVec 6) (d : BitVec 5) (a : BitVec 5)
  /-- `mxsc.e3m2` (R182). -/
  | mxscE3m2 (t : BitVec 6) (d : BitVec 5) (a : BitVec 5)
  /-- `mxsc.e2m3` (R182). -/
  | mxscE2m3 (t : BitVec 6) (d : BitVec 5) (a : BitVec 5)
  /-- `mxsc.e2m1` (R182). -/
  | mxscE2m1 (t : BitVec 6) (d : BitVec 5) (a : BitVec 5)
  /-- `mxdq.e4m3` (R182). -/
  | mxdqE4m3 (t : BitVec 6) (d : BitVec 5) (a : BitVec 5) (b : BitVec 5)
  /-- `mxdq.e5m2` (R182). -/
  | mxdqE5m2 (t : BitVec 6) (d : BitVec 5) (a : BitVec 5) (b : BitVec 5)
  /-- `mxdq.e3m2` (R182). -/
  | mxdqE3m2 (t : BitVec 6) (d : BitVec 5) (a : BitVec 5) (b : BitVec 5)
  /-- `mxdq.e2m3` (R182). -/
  | mxdqE2m3 (t : BitVec 6) (d : BitVec 5) (a : BitVec 5) (b : BitVec 5)
  /-- `mxdq.e2m1` (R182). -/
  | mxdqE2m1 (t : BitVec 6) (d : BitVec 5) (a : BitVec 5) (b : BitVec 5)
  /-- `mxq.e4m3` (R182). -/
  | mxqE4m3 (t : BitVec 6) (d : BitVec 5) (a : BitVec 5) (b : BitVec 5) (r : BitVec 2)
  /-- `mxq.e5m2` (R182). -/
  | mxqE5m2 (t : BitVec 6) (d : BitVec 5) (a : BitVec 5) (b : BitVec 5) (r : BitVec 2)
  /-- `mxq.e3m2` (R182). -/
  | mxqE3m2 (t : BitVec 6) (d : BitVec 5) (a : BitVec 5) (b : BitVec 5) (r : BitVec 2)
  /-- `mxq.e2m3` (R182). -/
  | mxqE2m3 (t : BitVec 6) (d : BitVec 5) (a : BitVec 5) (b : BitVec 5) (r : BitVec 2)
  /-- `mxq.e2m1` (R182). -/
  | mxqE2m1 (t : BitVec 6) (d : BitVec 5) (a : BitVec 5) (b : BitVec 5) (r : BitVec 2)
  /-- `frcp.f32` (R183). -/
  | frcpF32 (t : BitVec 6) (d : BitVec 5) (a : BitVec 5)
  /-- `frsqrt.f32` (R183). -/
  | frsqrtF32 (t : BitVec 6) (d : BitVec 5) (a : BitVec 5)
  /-- `fexp2.f32` (R183). -/
  | fexp2F32 (t : BitVec 6) (d : BitVec 5) (a : BitVec 5)
  /-- `fexp.f32` (R183). -/
  | fexpF32 (t : BitVec 6) (d : BitVec 5) (a : BitVec 5)
  /-- `flog2.f32` (R183). -/
  | flog2F32 (t : BitVec 6) (d : BitVec 5) (a : BitVec 5)
  /-- `fsinpi.f32` (R183). -/
  | fsinpiF32 (t : BitVec 6) (d : BitVec 5) (a : BitVec 5)
  /-- `fcospi.f32` (R183). -/
  | fcospiF32 (t : BitVec 6) (d : BitVec 5) (a : BitVec 5)
  /-- `ftanh.f32` (R183). -/
  | ftanhF32 (t : BitVec 6) (d : BitVec 5) (a : BitVec 5)
  /-- `fsig.f32` (R183). -/
  | fsigF32 (t : BitVec 6) (d : BitVec 5) (a : BitVec 5)
  /-- `frmax.f32` (R185). -/
  | frmaxF32 (t : BitVec 6) (d : BitVec 5) (a : BitVec 5)
  /-- `frmin.f32` (R185). -/
  | frminF32 (t : BitVec 6) (d : BitVec 5) (a : BitVec 5)
  /-- `frmaxa.f32` (R185). -/
  | frmaxaF32 (t : BitVec 6) (d : BitVec 5) (a : BitVec 5)
  /-- `fradd.f32` (R185). -/
  | fraddF32 (t : BitVec 6) (d : BitVec 5) (a : BitVec 5) (r : BitVec 2)
  /-- `iradd` (R186). -/
  | iradd (t : BitVec 6) (d : BitVec 5) (a : BitVec 5)
  /-- `iradds.s32` (R186). -/
  | iraddsS32 (t : BitVec 6) (d : BitVec 5) (a : BitVec 5)
  /-- `iradds.n32` (R186). -/
  | iraddsN32 (t : BitVec 6) (d : BitVec 5) (a : BitVec 5)
  /-- `irmin.s32` (R186). -/
  | irminS32 (t : BitVec 6) (d : BitVec 5) (a : BitVec 5)
  /-- `irmax.s32` (R186). -/
  | irmaxS32 (t : BitVec 6) (d : BitVec 5) (a : BitVec 5)
  /-- `irmin.n32` (R186). -/
  | irminN32 (t : BitVec 6) (d : BitVec 5) (a : BitVec 5)
  /-- `irmax.n32` (R186). -/
  | irmaxN32 (t : BitVec 6) (d : BitVec 5) (a : BitVec 5)
  /-- `irand` (R186). -/
  | irand (t : BitVec 6) (d : BitVec 5) (a : BitVec 5)
  /-- `iror` (R186). -/
  | iror (t : BitVec 6) (d : BitVec 5) (a : BitVec 5)
  /-- `irxor` (R186). -/
  | irxor (t : BitVec 6) (d : BitVec 5) (a : BitVec 5)
  /-- `ircnt` (R186). -/
  | ircnt (t : BitVec 6) (d : BitVec 5) (a : BitVec 5)
  /-- `fgetexp.f32` (R187). -/
  | fgetexpF32 (t : BitVec 6) (d : BitVec 5) (a : BitVec 5)
  /-- `fmant.f32` (R187). -/
  | fmantF32 (t : BitVec 6) (d : BitVec 5) (a : BitVec 5)
  /-- `rdflg` (R187). -/
  | rdflg (t : BitVec 6) (d : BitVec 5)
  /-- `fscl.f32` (R187). -/
  | fsclF32 (t : BitVec 6) (d : BitVec 5) (a : BitVec 5) (b : BitVec 5) (r : BitVec 2)
  /-- `clrflg` (R187). -/
  | clrflg (t : BitVec 6) (a : BitVec 5)
  /-- `ld` (R95). -/
  | ld (t : BitVec 6) (d : BitVec 5) (a : BitVec 5) (b : BitVec 5) (s : BitVec 1) (y : BitVec 3)
  /-- `ldv` (R95). -/
  | ldv (t : BitVec 6) (d : BitVec 5) (a : BitVec 5) (b : BitVec 5) (s : BitVec 1)
  /-- `st` (R95). -/
  | st (t : BitVec 6) (a : BitVec 5) (b : BitVec 5) (s : BitVec 1) (y : BitVec 3)
  /-- `stv` (R95). -/
  | stv (t : BitVec 6) (a : BitVec 5) (b : BitVec 5) (s : BitVec 1)
  /-- `ldg` (R95). -/
  | ldg (t : BitVec 6) (d : BitVec 5) (a : BitVec 5) (b : BitVec 5) (y : BitVec 3)
  /-- `ldg.v` (R95). -/
  | ldgV (t : BitVec 6) (d : BitVec 5) (a : BitVec 5) (b : BitVec 5)
  /-- `stg` (R95). -/
  | stg (t : BitVec 6) (a : BitVec 5) (b : BitVec 5) (y : BitVec 3)
  /-- `ldf`, with its space and its scope as R99 codes them (R100). -/
  | ldf (t : BitVec 6) (d : BitVec 5) (a : BitVec 5) (b : BitVec 5) (s : BitVec 1) (c : BitVec 3)
  /-- `stf`, with its space and its scope as R99 codes them (R100). -/
  | stf (t : BitVec 6) (a : BitVec 5) (b : BitVec 5) (s : BitVec 1) (c : BitVec 3)
  /-- `touch.x` (R98). -/
  | touchX (t : BitVec 6) (a : BitVec 5) (b : BitVec 5)
  /-- `touch.m` (R98). -/
  | touchM (t : BitVec 6) (a : BitVec 5) (b : BitVec 5)
  /-- `touch.g` (R98). -/
  | touchG (t : BitVec 6) (a : BitVec 5) (b : BitVec 5)
  /-- `aadd.x` (R103). -/
  | aaddX (t : BitVec 6) (d : BitVec 5) (a : BitVec 5) (b : BitVec 5)
  /-- `aadd.m` (R103). -/
  | aaddM (t : BitVec 6) (d : BitVec 5) (a : BitVec 5) (b : BitVec 5)
  /-- `aadd.g` (R103). -/
  | aaddG (t : BitVec 6) (d : BitVec 5) (a : BitVec 5) (b : BitVec 5)
  /-- `amin.s32.x` (R103). -/
  | aminS32X (t : BitVec 6) (d : BitVec 5) (a : BitVec 5) (b : BitVec 5)
  /-- `amin.s32.m` (R103). -/
  | aminS32M (t : BitVec 6) (d : BitVec 5) (a : BitVec 5) (b : BitVec 5)
  /-- `amin.s32.g` (R103). -/
  | aminS32G (t : BitVec 6) (d : BitVec 5) (a : BitVec 5) (b : BitVec 5)
  /-- `amin.n32.x` (R103). -/
  | aminN32X (t : BitVec 6) (d : BitVec 5) (a : BitVec 5) (b : BitVec 5)
  /-- `amin.n32.m` (R103). -/
  | aminN32M (t : BitVec 6) (d : BitVec 5) (a : BitVec 5) (b : BitVec 5)
  /-- `amin.n32.g` (R103). -/
  | aminN32G (t : BitVec 6) (d : BitVec 5) (a : BitVec 5) (b : BitVec 5)
  /-- `amax.s32.x` (R103). -/
  | amaxS32X (t : BitVec 6) (d : BitVec 5) (a : BitVec 5) (b : BitVec 5)
  /-- `amax.s32.m` (R103). -/
  | amaxS32M (t : BitVec 6) (d : BitVec 5) (a : BitVec 5) (b : BitVec 5)
  /-- `amax.s32.g` (R103). -/
  | amaxS32G (t : BitVec 6) (d : BitVec 5) (a : BitVec 5) (b : BitVec 5)
  /-- `amax.n32.x` (R103). -/
  | amaxN32X (t : BitVec 6) (d : BitVec 5) (a : BitVec 5) (b : BitVec 5)
  /-- `amax.n32.m` (R103). -/
  | amaxN32M (t : BitVec 6) (d : BitVec 5) (a : BitVec 5) (b : BitVec 5)
  /-- `amax.n32.g` (R103). -/
  | amaxN32G (t : BitVec 6) (d : BitVec 5) (a : BitVec 5) (b : BitVec 5)
  /-- `aand.x` (R103). -/
  | aandX (t : BitVec 6) (d : BitVec 5) (a : BitVec 5) (b : BitVec 5)
  /-- `aand.m` (R103). -/
  | aandM (t : BitVec 6) (d : BitVec 5) (a : BitVec 5) (b : BitVec 5)
  /-- `aand.g` (R103). -/
  | aandG (t : BitVec 6) (d : BitVec 5) (a : BitVec 5) (b : BitVec 5)
  /-- `aor.x` (R103). -/
  | aorX (t : BitVec 6) (d : BitVec 5) (a : BitVec 5) (b : BitVec 5)
  /-- `aor.m` (R103). -/
  | aorM (t : BitVec 6) (d : BitVec 5) (a : BitVec 5) (b : BitVec 5)
  /-- `aor.g` (R103). -/
  | aorG (t : BitVec 6) (d : BitVec 5) (a : BitVec 5) (b : BitVec 5)
  /-- `axor.x` (R103). -/
  | axorX (t : BitVec 6) (d : BitVec 5) (a : BitVec 5) (b : BitVec 5)
  /-- `axor.m` (R103). -/
  | axorM (t : BitVec 6) (d : BitVec 5) (a : BitVec 5) (b : BitVec 5)
  /-- `axor.g` (R103). -/
  | axorG (t : BitVec 6) (d : BitVec 5) (a : BitVec 5) (b : BitVec 5)
  /-- `afadd.x` (R105). -/
  | afaddX (t : BitVec 6) (d : BitVec 5) (a : BitVec 5) (b : BitVec 5)
  /-- `afadd.m` (R105). -/
  | afaddM (t : BitVec 6) (d : BitVec 5) (a : BitVec 5) (b : BitVec 5)
  /-- `afadd.g` (R105). -/
  | afaddG (t : BitVec 6) (d : BitVec 5) (a : BitVec 5) (b : BitVec 5)
  /-- `axch.x` (R103). -/
  | axchX (t : BitVec 6) (d : BitVec 5) (a : BitVec 5) (b : BitVec 5)
  /-- `axch.m` (R103). -/
  | axchM (t : BitVec 6) (d : BitVec 5) (a : BitVec 5) (b : BitVec 5)
  /-- `axch.g` (R103). -/
  | axchG (t : BitVec 6) (d : BitVec 5) (a : BitVec 5) (b : BitVec 5)
  /-- `acas.x` (R104). -/
  | acasX (t : BitVec 6) (d : BitVec 5) (a : BitVec 5) (b : BitVec 5)
  /-- `acas.m` (R104). -/
  | acasM (t : BitVec 6) (d : BitVec 5) (a : BitVec 5) (b : BitVec 5)
  /-- `acas.g` (R104). -/
  | acasG (t : BitVec 6) (d : BitVec 5) (a : BitVec 5) (b : BitVec 5)
  /-- `falloc` (R108). -/
  | falloc (t : BitVec 6) (d : BitVec 5) (b : BitVec 5)
  /-- `fput` (R108). -/
  | fput (t : BitVec 6) (a : BitVec 5) (b : BitVec 5)
  /-- `ffree` (R108). -/
  | ffree (t : BitVec 6) (a : BitVec 5)
  /-- `otok.fork` (R111). -/
  | otokFork (t : BitVec 6)
  /-- `otok.join` (R111). -/
  | otokJoin (t : BitVec 6)
  /-- `fence` (R112). -/
  | fence (t : BitVec 6) (c : BitVec 3)
  /-- `arv.x` (R115). -/
  | arvX (t : BitVec 6) (d : BitVec 5) (a : BitVec 5) (b : BitVec 5)
  /-- `arv.m` (R115). -/
  | arvM (t : BitVec 6) (d : BitVec 5) (a : BitVec 5) (b : BitVec 5)
  /-- `arv.g` (R115). -/
  | arvG (t : BitVec 6) (d : BitVec 5) (a : BitVec 5) (b : BitVec 5)
  /-- `awt.x` (R115). -/
  | awtX (t : BitVec 6) (d : BitVec 5) (a : BitVec 5) (b : BitVec 5)
  /-- `awt.m` (R115). -/
  | awtM (t : BitVec 6) (d : BitVec 5) (a : BitVec 5) (b : BitVec 5)
  /-- `awt.g` (R115). -/
  | awtG (t : BitVec 6) (d : BitVec 5) (a : BitVec 5) (b : BitVec 5)
  /-- `arw.x` (R115). -/
  | arwX (t : BitVec 6) (d : BitVec 5) (a : BitVec 5) (b : BitVec 5)
  /-- `arw.m` (R115). -/
  | arwM (t : BitVec 6) (d : BitVec 5) (a : BitVec 5) (b : BitVec 5)
  /-- `arw.g` (R115). -/
  | arwG (t : BitVec 6) (d : BitVec 5) (a : BitVec 5) (b : BitVec 5)
  /-- `ioread` (R119). -/
  | ioread (t : BitVec 6) (a : BitVec 5)
  /-- `iowait.x` (R120). -/
  | iowaitX (t : BitVec 6) (d : BitVec 5) (a : BitVec 5)
  /-- `iowait.m` (R120). -/
  | iowaitM (t : BitVec 6) (d : BitVec 5) (a : BitVec 5)
  /-- `scfg` (R250). -/
  | scfg (t : BitVec 6) (a : BitVec 5) (b : BitVec 5)
  /-- `sbind` (R250). -/
  | sbind (t : BitVec 6) (a : BitVec 5) (b : BitVec 5)
  /-- `sgo` (R250). -/
  | sgo (t : BitVec 6) (a : BitVec 5) (b : BitVec 5)
  /-- `sstop` (R250). -/
  | sstop (t : BitVec 6) (b : BitVec 5)
  /-- `cpy` (R255). -/
  | cpy (t : BitVec 6) (a : BitVec 5) (b : BitVec 5)
  /-- `sbwait` (R249). -/
  | sbwait (t : BitVec 6) (d : BitVec 5) (a : BitVec 5)
  /-- `sbtest` (R249). -/
  | sbtest (t : BitVec 6) (d : BitVec 5)
  /-- `gsend.ent0` (R264). -/
  | gsendEnt0 (t : BitVec 6) (d : BitVec 5) (a : BitVec 5) (b : BitVec 5)
  /-- `gsend.ent1` (R264). -/
  | gsendEnt1 (t : BitVec 6) (d : BitVec 5) (a : BitVec 5) (b : BitVec 5)
  /-- `gsend.ent2` (R264). -/
  | gsendEnt2 (t : BitVec 6) (d : BitVec 5) (a : BitVec 5) (b : BitVec 5)
  /-- `gsend.ent3` (R264). -/
  | gsendEnt3 (t : BitVec 6) (d : BitVec 5) (a : BitVec 5) (b : BitVec 5)
  /-- `rmwcfg` (R263). -/
  | rmwcfg (t : BitVec 6) (a : BitVec 5) (b : BitVec 5)
  /-- `mma` (R268). -/
  | mma (t : BitVec 6) (n : BitVec 1) (a : BitVec 5) (b : BitVec 5) (f : BitVec 5)
  /-- `mmam` (R268). -/
  | mmam (t : BitVec 6) (n : BitVec 1) (a : BitVec 5) (b : BitVec 5) (f : BitVec 5)
  /-- `mmas` (R269). -/
  | mmas (t : BitVec 6) (n : BitVec 1) (a : BitVec 5) (b : BitVec 5) (f : BitVec 5)
  /-- `macl.clr` (R271). -/
  | maclClr (t : BitVec 6) (n : BitVec 1)
  /-- `macl.ld` (R271). -/
  | maclLd (t : BitVec 6) (n : BitVec 1) (a : BitVec 5)
  /-- `mld` (R271). -/
  | mld (t : BitVec 6) (a : BitVec 5)
  /-- `mdrn.f32` (R272). -/
  | mdrnF32 (t : BitVec 6) (n : BitVec 1) (a : BitVec 5)
  /-- `mdrn.bf16` (R272). -/
  | mdrnBf16 (t : BitVec 6) (n : BitVec 1) (a : BitVec 5) (r : BitVec 2)
  /-- `mdrn.f16` (R272). -/
  | mdrnF16 (t : BitVec 6) (n : BitVec 1) (a : BitVec 5) (r : BitVec 2)
  /-- `mchk` (R273). -/
  | mchk (t : BitVec 6) (n : BitVec 1) (a : BitVec 5)
  /-- `prune` (R273). -/
  | prune (t : BitVec 6) (n : BitVec 1) (a : BitVec 5)
  /-- `launch` (R333). -/
  | launch (t : BitVec 6) (a : BitVec 5)
  /-- `ptask` (R334). -/
  | ptask (t : BitVec 6) (d : BitVec 5)
  /-- `tdone` (R335). -/
  | tdone (t : BitVec 6) (a : BitVec 5)
  /-- `yield.f.x` (R336). -/
  | yieldFX (t : BitVec 6) (a : BitVec 5)
  /-- `yield.f.m` (R336). -/
  | yieldFM (t : BitVec 6) (a : BitVec 5)
  /-- `yield.sb` (R336). -/
  | yieldSb (t : BitVec 6) (a : BitVec 5)
  /-- `yield.rel` (R336). -/
  | yieldRel (t : BitVec 6)
  /-- `tagset` (R338). -/
  | tagset (t : BitVec 6) (a : BitVec 5)
  /-- `tagset.req` (R338). -/
  | tagsetReq (t : BitVec 6) (a : BitVec 5)
  /-- `tagset.iter` (R338). -/
  | tagsetIter (t : BitVec 6) (a : BitVec 5)
  /-- `rset` (R340). -/
  | rset (t : BitVec 6) (d : BitVec 5) (a : BitVec 5)
  /-- `rget` (R340). -/
  | rget (t : BitVec 6) (d : BitVec 5) (a : BitVec 5)
  /-- `rfree` (R340). -/
  | rfree (t : BitVec 6) (a : BitVec 5)
  /-- `seal` (R342). -/
  | sealR (t : BitVec 6) (d : BitVec 5) (a : BitVec 5)
  /-- `unseal` (R343). -/
  | unsealR (t : BitVec 6) (a : BitVec 5)
  /-- `trap` (R344). -/
  | trap (t : BitVec 6) (a : BitVec 5)
  /-- `hret` (R345). -/
  | hret (t : BitVec 6)
  /-- `hret.drop` (R345). -/
  | hretDrop (t : BitVec 6)
  /-- `hret.end` (R345). -/
  | hretEnd (t : BitVec 6)
  /-- `scout` (R346). -/
  | scout (t : BitVec 6) (n : BitVec 1) (a : BitVec 5) (b : BitVec 5)
  /-- `thresh.abs` (R347). -/
  | threshAbs (t : BitVec 6) (d : BitVec 5) (a : BitVec 5) (n : BitVec 1)
  /-- `thresh.top` (R347). -/
  | threshTop (t : BitVec 6) (d : BitVec 5) (a : BitVec 5) (n : BitVec 1)
  /-- `pgsel` (R348). -/
  | pgsel (t : BitVec 6) (a : BitVec 5) (b : BitVec 5)
  /-- `hrow` (R351). -/
  | hrow (t : BitVec 6) (d : BitVec 5) (a : BitVec 5)
  /-- `hins` (R352). -/
  | hins (t : BitVec 6) (d : BitVec 5) (a : BitVec 5) (b : BitVec 5)
  /-- `hspill` (R353). -/
  | hspill (t : BitVec 6) (d : BitVec 5) (a : BitVec 5)
  /-- `qprobe` (R354). -/
  | qprobe (t : BitVec 6) (d : BitVec 5)
  /-- `qprobe.clr` (R354). -/
  | qprobeClr (t : BitVec 6) (d : BitVec 5)
  /-- `mon.cfg` (R355). -/
  | monCfg (t : BitVec 6) (a : BitVec 5)
  /-- `mon.mark` (R355). -/
  | monMark (t : BitVec 6) (a : BitVec 5)
  /-- `LOAD_WAIT_EXPIRY` (R299). -/
  | loadWaitExpiry (region : Nat)
  /-- `TDONE_SETTLING_EXPIRY` (R335). -/
  | tdoneSettlingExpiry (region : Nat)
  /-- `UNSEAL_REQUEST` (R343). -/
  | unsealRequest (req : Nat)
  /-- `SPACE_DESCRIPTOR_CLEARED` (R408). -/
  | spaceDescriptorCleared (space : BitVec 14)
  /-- `MONITOR_OCCUPANCY_SAMPLE` (R355). -/
  | monitorOccupancySample (tile : TileId)
  /-- `UNASSIGNED_COMMAND` (R441). -/
  | unassignedCommand (die : Nat)
  deriving DecidableEq, Repr

end Sys2Proof
end

