-- ==== Sys2Proof/Machine/Form.lean ====
section
/-!
DEFINITION. The form of each slot instruction: its fields (Table 2.1), the operand set of each field
(Tables 3.1, 8.1 and the entries), the kinds that accept it (Table 2.5 and the entries), the path its
request takes (R84, R248, Table 16.1) and whether it reads its destination. The decoder, the encoder,
the loader's checks and the picker's readiness all read this one table.
-/

namespace Sys2Proof

/-- The six fields of a slot word (Table 2.1). -/
structure Fields where
  trig : BitVec 6
  major : BitVec 6
  d : BitVec 5
  a : BitVec 5
  b : BitVec 5
  fn : BitVec 5
  deriving DecidableEq, Repr, Inhabited

/-- The operand sets of Tables 3.1 and 8.1 and of the entries (R31). -/
inductive OpSet where
  /-- The field is not used and must be 0. -/
  | zero
  /-- Part of an immediate: every code. -/
  | imm
  /-- Any source. -/
  | s
  /-- Pops and peeks. -/
  | sq
  /-- Pops. -/
  | sp
  /-- Registers, discard, oq0-oq4, predicates, qt. -/
  | d
  /-- Queues oq0-oq4. -/
  | dq
  /-- Predicates and qt. -/
  | dp
  /-- Registers and discard. -/
  | dr
  /-- v0-v14, read and then written. -/
  | da
  /-- Loads: codes 0-21 and 29. -/
  | dl
  /-- Even register pairs 0-12. -/
  | ae
  /-- Code 30, the frame-out path. -/
  | fout
  /-- A predicate literal 0-7. -/
  | p
  /-- Literals 0-1, 0-3, 0-4, 0-5 (a scope), 0-7, 0-15. -/
  | lit1
  | lit2
  | lit0to4
  | scope
  | lit3
  | lit4
  /-- The accumulator and variant literal 0-5 of major 0x30. -/
  | acv
  deriving DecidableEq, Repr

/-- The codes a set allows. -/
def OpSet.allows (o : OpSet) (c : BitVec 5) : Bool :=
  match o with
  | .zero => c == 0
  | .imm | .s => true
  | .sq => 16 ≤ c && c ≤ 27
  | .sp => 16 ≤ c && c ≤ 21
  | .d => c ≤ 29 && c != 21
  | .dq => 16 ≤ c && c ≤ 20
  | .dp => 22 ≤ c && c ≤ 29
  | .dr => c ≤ 15
  | .da => c ≤ 14
  | .dl => c ≤ 21 || c == 29
  | .ae => c ≤ 12 && c &&& 1 == 0
  | .fout => c == 30
  | .p | .lit3 => c ≤ 7
  | .lit1 => c ≤ 1
  | .lit2 => c ≤ 3
  | .lit0to4 => c ≤ 4
  | .scope | .acv => c ≤ 5
  | .lit4 => c ≤ 15

/-- Whether a field of this set is read as a source operand. -/
def OpSet.isSrc : OpSet → Bool
  | .s | .sq | .sp | .ae => true
  | _ => false

/-- Whether a field of this set is written as a destination operand. -/
def OpSet.isDst : OpSet → Bool
  | .d | .dq | .dp | .dr | .da | .dl | .fout => true
  | _ => false

/-- How an instruction's work leaves the element (R84, R248, R324). -/
inductive Path where
  /-- It sends nothing. -/
  | none
  /-- A request placed in oq5, counted against the 32. -/
  | req
  /-- A frame request on the tile's frame path. -/
  | frame
  /-- An engine command. -/
  | cmd
  /-- A routed update: a command that uses oq4 and counts against the 32. -/
  | gsend
  /-- A drain: a command that uses oq4. -/
  | drain
  deriving DecidableEq, Repr

/-- The form of a slot instruction. -/
structure Form where
  fields : Fields
  dS : OpSet
  aS : OpSet
  bS : OpSet
  /-- The function code is assigned (check 0x2). -/
  fnOk : Bool
  kinds : List Kind
  path : Path
  /-- `d` is read at the fire (Da forms of R170, `acas` of R104). -/
  readsD : Bool
  /-- The queues named by `a` and `b` are taken by the intake, not by the fire (R265). -/
  intake : Bool
  deriving DecidableEq, Repr

/-- The form of an instruction; a whole step of another agent has none. -/
def Instr.form (i : Instr) : Option Form :=
  match i with
  | .powerUp => none
  | .boot _ => none
  | .bootVerifyEnd => none
  | .setPoint _ => none
  | .invalidate _ => none
  | .bindWindow _ => none
  | .context _ => none
  | .spaceTable _ => none
  | .translationQueue _ => none
  | .reuseStore _ => none
  | .reuseQuota _ => none
  | .reuseFlush _ => none
  | .save _ => none
  | .purge _ => none
  | .inject _ => none
  | .monitor _ => none
  | .attest _ => none
  | .identityKey _ => none
  | .threshold _ => none
  | .clearErrors _ => none
  | .retrain _ => none
  | .channelTable _ => none
  | .commandDone _ => none
  | .translationDoorbell _ => none
  | .notificationClear _ _ _ => none
  | .managementWrite _ _ _ => none
  | .launchWordStore _ _ => none
  | .launchCapture _ _ => none
  | .linkLost _ => none
  | .correctedError _ => none
  | .structureError _ _ _ => none
  | .mElementSoftError _ _ _ _ => none
  | .schedulerCycle => none
  | .reuseHit _ => none
  | .imageRejected _ => none
  | .loadTakesEffect _ => none
  | .regionIdle _ => none
  | .reuseInsertion _ => none
  | .foldDrained _ => none
  | .foldAbandon _ => none
  | .saveWritten _ => none
  | .restoreWritten _ => none
  | .switchRequestArrival _ => none
  | .switchStatusArrival _ => none
  | .regionDrained _ => none
  | .settlingEnd _ => none
  | .switchDrainTimeout _ => none
  | .stageDry _ => none
  | .stillness _ => none
  | .switchCycle _ => none
  | .spillRecordOffer _ => none
  | .spillEnd _ _ => none
  | .reinstatementStart _ _ => none
  | .reinstatementEnd _ _ => none
  | .neighbourTransfer _ _ => none
  | .routeClassEntry _ => none
  | .tokenDelivery _ _ => none
  | .gatewayReject _ _ => none
  | .controlTokenArrival _ _ => none
  | .loopLevelChange _ => none
  | .releaseSend _ => none
  | .translationLookup _ _ => none
  | .homeAccess _ _ => none
  | .responseArrival _ => none
  | .ioMessageAvailable _ _ => none
  | .ioreadCompletion _ => none
  | .sealMark _ => none
  | .sealHashEnd _ => none
  | .rangeUnitRequest _ => none
  | .hashEngineRequest _ => none
  | .frameRequest _ => none
  | .frameEmit _ => none
  | .streamStart _ _ => none
  | .streamToken _ _ => none
  | .streamComplete _ _ => none
  | .copyCapture _ _ => none
  | .copyChunk _ _ => none
  | .copyComplete _ _ => none
  | .rmwApply _ => none
  | .intakeBurst _ => none
  | .accumulatorWrite _ => none
  | .drainToken _ => none
  | .thresholdMask _ => none
  | .pageScore _ _ => none
  | .pageListWrite _ _ => none
  | .pageStartHandover _ _ => none
  | .quarterAccept _ _ => none
  | .fifoEmit _ _ => none
  | .lineBufferEmit _ _ => none
  | .tileStoreWrite _ _ => none
  | .tileStoreRead _ _ => none
  | .retireHead _ => none
  | .faultTaken _ => none
  | .handlerEntry _ => none
  | .handlerExit _ => none
  | .purgeMarking _ => none
  | .purgeSweepDone _ => none
  | .purgeRecording _ => none
  | .exitCompare _ _ => none
  | .twinPartnerTimeout _ => none
  | .nop t => some ⟨⟨t, 0x00, 0, 0, 0, 1⟩, .zero, .zero, .zero, true, [.v, .s, .a, .m], .none, false, false⟩
  | .sete t a => some ⟨⟨t, 0x00, 0, a, 0, 2⟩, .zero, .s, .zero, true, [.v, .s, .a, .m], .none, false, false⟩
  | .clre t a => some ⟨⟨t, 0x00, 0, a, 0, 3⟩, .zero, .s, .zero, true, [.v, .s, .a, .m], .none, false, false⟩
  | .fwd t d a => some ⟨⟨t, 0x01, d, a, 0, 1⟩, .dq, .sp, .zero, true, [.v, .s, .a, .m], .none, false, false⟩
  | .fwdT t d a => some ⟨⟨t, 0x01, d, a, 0, 2⟩, .dq, .sp, .zero, true, [.v, .s, .a, .m], .none, false, false⟩
  | .deq t a => some ⟨⟨t, 0x01, 0, a, 0, 3⟩, .zero, .sp, .zero, true, [.v, .s, .a, .m], .none, false, false⟩
  | .selQn t d a b n => some ⟨⟨t, 0x01, d, a, b, (1#2 ++ n)⟩, .d, .s, .s, n != 7, [.v, .s, .a, .m], .none, false, false⟩
  | .cfgsw t d a => some ⟨⟨t, 0x02, d, a, 0, 1⟩, .dp, .s, .zero, true, [.v, .s, .a, .m], .none, false, false⟩
  | .cfgswCc t d c => some ⟨⟨t, 0x02, d, 0, 0, (1#3 ++ c)⟩, .dp, .zero, .zero, true, [.v, .s, .a, .m], .none, false, false⟩
  | .ctok t b => some ⟨⟨t, 0x03, 0, 0, b, 1⟩, .zero, .zero, .lit4, true, [.v, .s, .a, .m], .none, false, false⟩
  | .cwait t b => some ⟨⟨t, 0x03, 0, 0, b, 2⟩, .zero, .zero, .lit4, true, [.v, .s, .a, .m], .none, false, false⟩
  | .mov t d a => some ⟨⟨t, 0x04, d, a, 0, 1⟩, .d, .s, .zero, true, [.v, .s, .a, .m], .none, false, false⟩
  | .movp t d a => some ⟨⟨t, 0x04, d, a, 0, 2⟩, .dr, .p, .zero, true, [.v, .s, .a, .m], .none, false, false⟩
  | .mvse t d => some ⟨⟨t, 0x04, d, 0, 0, 3⟩, .dr, .zero, .zero, true, [.v, .s, .a, .m], .none, false, false⟩
  | .mvsb t d a => some ⟨⟨t, 0x04, d, a, 0, 4⟩, .dr, .sq, .zero, true, [.v, .s, .a, .m], .none, false, false⟩
  | .movi t d i => some ⟨⟨t, 0x05, d, 0, (i.extractLsb' 5 5), (i.extractLsb' 0 5)⟩, .d, .zero, .imm, true, [.v, .s, .a, .m], .none, false, false⟩
  | .movl t d i => some ⟨⟨t, 0x06, d, (i.extractLsb' 10 5), (i.extractLsb' 5 5), (i.extractLsb' 0 5)⟩, .d, .imm, .imm, true, [.v, .s, .a, .m], .none, false, false⟩
  | .add t d a b => some ⟨⟨t, 0x07, d, a, b, 1⟩, .d, .s, .s, true, [.v, .s, .a], .none, false, false⟩
  | .sub t d a b => some ⟨⟨t, 0x07, d, a, b, 2⟩, .d, .s, .s, true, [.v, .s, .a], .none, false, false⟩
  | .addsS32 t d a b => some ⟨⟨t, 0x07, d, a, b, 3⟩, .d, .s, .s, true, [.v, .s, .a], .none, false, false⟩
  | .addsN32 t d a b => some ⟨⟨t, 0x07, d, a, b, 4⟩, .d, .s, .s, true, [.v, .s, .a], .none, false, false⟩
  | .subsS32 t d a b => some ⟨⟨t, 0x07, d, a, b, 5⟩, .d, .s, .s, true, [.v, .s, .a], .none, false, false⟩
  | .subsN32 t d a b => some ⟨⟨t, 0x07, d, a, b, 6⟩, .d, .s, .s, true, [.v, .s, .a], .none, false, false⟩
  | .and t d a b => some ⟨⟨t, 0x07, d, a, b, 7⟩, .d, .s, .s, true, [.v, .s, .a], .none, false, false⟩
  | .or t d a b => some ⟨⟨t, 0x07, d, a, b, 8⟩, .d, .s, .s, true, [.v, .s, .a], .none, false, false⟩
  | .xor t d a b => some ⟨⟨t, 0x07, d, a, b, 9⟩, .d, .s, .s, true, [.v, .s, .a], .none, false, false⟩
  | .andn t d a b => some ⟨⟨t, 0x07, d, a, b, 10⟩, .d, .s, .s, true, [.v, .s, .a], .none, false, false⟩
  | .shl t d a b => some ⟨⟨t, 0x07, d, a, b, 11⟩, .d, .s, .s, true, [.v, .s, .a], .none, false, false⟩
  | .shr t d a b => some ⟨⟨t, 0x07, d, a, b, 12⟩, .d, .s, .s, true, [.v, .s, .a], .none, false, false⟩
  | .sra t d a b => some ⟨⟨t, 0x07, d, a, b, 13⟩, .d, .s, .s, true, [.v, .s, .a], .none, false, false⟩
  | .rotl t d a b => some ⟨⟨t, 0x07, d, a, b, 14⟩, .d, .s, .s, true, [.v, .s, .a], .none, false, false⟩
  | .minS32 t d a b => some ⟨⟨t, 0x07, d, a, b, 15⟩, .d, .s, .s, true, [.v, .s, .a], .none, false, false⟩
  | .minN32 t d a b => some ⟨⟨t, 0x07, d, a, b, 16⟩, .d, .s, .s, true, [.v, .s, .a], .none, false, false⟩
  | .maxS32 t d a b => some ⟨⟨t, 0x07, d, a, b, 17⟩, .d, .s, .s, true, [.v, .s, .a], .none, false, false⟩
  | .maxN32 t d a b => some ⟨⟨t, 0x07, d, a, b, 18⟩, .d, .s, .s, true, [.v, .s, .a], .none, false, false⟩
  | .absS32 t d a => some ⟨⟨t, 0x07, d, a, 0, 19⟩, .d, .s, .zero, true, [.v, .s, .a], .none, false, false⟩
  | .neg t d a => some ⟨⟨t, 0x07, d, a, 0, 20⟩, .d, .s, .zero, true, [.v, .s, .a], .none, false, false⟩
  | .not t d a => some ⟨⟨t, 0x07, d, a, 0, 21⟩, .d, .s, .zero, true, [.v, .s, .a], .none, false, false⟩
  | .addi t d a i => some ⟨⟨t, 0x08, d, a, (i.extractLsb' 5 5), (i.extractLsb' 0 5)⟩, .d, .s, .imm, true, [.v, .s, .a], .none, false, false⟩
  | .andi t d a i => some ⟨⟨t, 0x0B, d, a, (i.extractLsb' 5 5), (i.extractLsb' 0 5)⟩, .d, .s, .imm, true, [.v, .s, .a], .none, false, false⟩
  | .mul t d a b => some ⟨⟨t, 0x09, d, a, b, 1⟩, .d, .s, .s, true, [.v, .a], .none, false, false⟩
  | .mulhS32 t d a b => some ⟨⟨t, 0x09, d, a, b, 2⟩, .d, .s, .s, true, [.v, .a], .none, false, false⟩
  | .mulhN32 t d a b => some ⟨⟨t, 0x09, d, a, b, 3⟩, .d, .s, .s, true, [.v, .a], .none, false, false⟩
  | .mulwS16 t d a b => some ⟨⟨t, 0x09, d, a, b, 4⟩, .d, .s, .s, true, [.v, .a], .none, false, false⟩
  | .mulwN16 t d a b => some ⟨⟨t, 0x09, d, a, b, 5⟩, .d, .s, .s, true, [.v, .a], .none, false, false⟩
  | .ceq t d a b => some ⟨⟨t, 0x0A, d, a, b, 1⟩, .dp, .s, .s, true, [.v, .s, .a], .none, false, false⟩
  | .cne t d a b => some ⟨⟨t, 0x0A, d, a, b, 2⟩, .dp, .s, .s, true, [.v, .s, .a], .none, false, false⟩
  | .cltS32 t d a b => some ⟨⟨t, 0x0A, d, a, b, 3⟩, .dp, .s, .s, true, [.v, .s, .a], .none, false, false⟩
  | .cleS32 t d a b => some ⟨⟨t, 0x0A, d, a, b, 4⟩, .dp, .s, .s, true, [.v, .s, .a], .none, false, false⟩
  | .cgtS32 t d a b => some ⟨⟨t, 0x0A, d, a, b, 5⟩, .dp, .s, .s, true, [.v, .s, .a], .none, false, false⟩
  | .cgeS32 t d a b => some ⟨⟨t, 0x0A, d, a, b, 6⟩, .dp, .s, .s, true, [.v, .s, .a], .none, false, false⟩
  | .cltN32 t d a b => some ⟨⟨t, 0x0A, d, a, b, 7⟩, .dp, .s, .s, true, [.v, .s, .a], .none, false, false⟩
  | .cleN32 t d a b => some ⟨⟨t, 0x0A, d, a, b, 8⟩, .dp, .s, .s, true, [.v, .s, .a], .none, false, false⟩
  | .cgtN32 t d a b => some ⟨⟨t, 0x0A, d, a, b, 9⟩, .dp, .s, .s, true, [.v, .s, .a], .none, false, false⟩
  | .cgeN32 t d a b => some ⟨⟨t, 0x0A, d, a, b, 10⟩, .dp, .s, .s, true, [.v, .s, .a], .none, false, false⟩
  | .pand t d a b => some ⟨⟨t, 0x0C, d, a, b, 1⟩, .dp, .p, .p, true, [.v, .s, .a], .none, false, false⟩
  | .por t d a b => some ⟨⟨t, 0x0C, d, a, b, 2⟩, .dp, .p, .p, true, [.v, .s, .a], .none, false, false⟩
  | .pxor t d a b => some ⟨⟨t, 0x0C, d, a, b, 3⟩, .dp, .p, .p, true, [.v, .s, .a], .none, false, false⟩
  | .pandn t d a b => some ⟨⟨t, 0x0C, d, a, b, 4⟩, .dp, .p, .p, true, [.v, .s, .a], .none, false, false⟩
  | .pnot t d a => some ⟨⟨t, 0x0C, d, a, 0, 5⟩, .dp, .p, .zero, true, [.v, .s, .a], .none, false, false⟩
  | .pany t d a => some ⟨⟨t, 0x0C, d, a, 0, 6⟩, .dp, .p, .zero, true, [.v, .s, .a], .none, false, false⟩
  | .pall t d a => some ⟨⟨t, 0x0C, d, a, 0, 7⟩, .dp, .p, .zero, true, [.v, .s, .a], .none, false, false⟩
  | .bcast t d a b => some ⟨⟨t, 0x0D, d, a, b, 1⟩, .d, .s, .lit3, true, [.v], .none, false, false⟩
  | .perm t d a b => some ⟨⟨t, 0x0D, d, a, b, 2⟩, .d, .s, .s, true, [.v], .none, false, false⟩
  | .lrot t d a b => some ⟨⟨t, 0x0D, d, a, b, 3⟩, .d, .s, .lit3, true, [.v], .none, false, false⟩
  | .lshd t d a b => some ⟨⟨t, 0x0D, d, a, b, 4⟩, .d, .s, .lit3, true, [.v], .none, false, false⟩
  | .pack t d a => some ⟨⟨t, 0x0D, d, a, 0, 5⟩, .d, .s, .zero, true, [.v], .none, false, false⟩
  | .cset t d a => some ⟨⟨t, 0x0E, d, a, 0, 1⟩, .lit2, .s, .zero, true, [.a], .none, false, false⟩
  | .cstep t d b => some ⟨⟨t, 0x0E, d, 0, b, 2⟩, .dp, .zero, .lit2, true, [.a], .none, false, false⟩
  | .crd t d => some ⟨⟨t, 0x0E, d, 0, 0, 3⟩, .dr, .zero, .zero, true, [.a], .none, false, false⟩
  | .popc t d a => some ⟨⟨t, 0x0F, d, a, 0, 1⟩, .d, .s, .zero, true, [.v, .s, .a], .none, false, false⟩
  | .clz t d a => some ⟨⟨t, 0x0F, d, a, 0, 2⟩, .d, .s, .zero, true, [.v, .s, .a], .none, false, false⟩
  | .ctz t d a => some ⟨⟨t, 0x0F, d, a, 0, 3⟩, .d, .s, .zero, true, [.v, .s, .a], .none, false, false⟩
  | .brev t d a => some ⟨⟨t, 0x0F, d, a, 0, 4⟩, .d, .s, .zero, true, [.v, .s, .a], .none, false, false⟩
  | .bswap t d a => some ⟨⟨t, 0x0F, d, a, 0, 5⟩, .d, .s, .zero, true, [.v, .s, .a], .none, false, false⟩
  | .bfxN32 t d a b => some ⟨⟨t, 0x0F, d, a, b, 6⟩, .d, .s, .s, true, [.v, .s, .a], .none, false, false⟩
  | .bfxS32 t d a b => some ⟨⟨t, 0x0F, d, a, b, 7⟩, .d, .s, .s, true, [.v, .s, .a], .none, false, false⟩
  | .faddF32 t d a b r => some ⟨⟨t, 0x10, d, a, b, (1#3 ++ r)⟩, .d, .s, .s, true, [.v], .none, false, false⟩
  | .fsubF32 t d a b r => some ⟨⟨t, 0x10, d, a, b, (2#3 ++ r)⟩, .d, .s, .s, true, [.v], .none, false, false⟩
  | .fmulF32 t d a b r => some ⟨⟨t, 0x10, d, a, b, (3#3 ++ r)⟩, .d, .s, .s, true, [.v], .none, false, false⟩
  | .fdivF32 t d a b r => some ⟨⟨t, 0x10, d, a, b, (4#3 ++ r)⟩, .d, .s, .s, true, [.v], .none, false, false⟩
  | .fsqrtF32 t d a r => some ⟨⟨t, 0x10, d, a, 0, (5#3 ++ r)⟩, .d, .s, .zero, true, [.v], .none, false, false⟩
  | .ffmaF32 t d a b r => some ⟨⟨t, 0x11, d, a, b, (1#3 ++ r)⟩, .da, .s, .s, true, [.v], .none, true, false⟩
  | .ffmsF32 t d a b r => some ⟨⟨t, 0x11, d, a, b, (2#3 ++ r)⟩, .da, .s, .s, true, [.v], .none, true, false⟩
  | .ffnmaF32 t d a b r => some ⟨⟨t, 0x11, d, a, b, (3#3 ++ r)⟩, .da, .s, .s, true, [.v], .none, true, false⟩
  | .ffnmsF32 t d a b r => some ⟨⟨t, 0x11, d, a, b, (4#3 ++ r)⟩, .da, .s, .s, true, [.v], .none, true, false⟩
  | .fminF32 t d a b => some ⟨⟨t, 0x12, d, a, b, 1⟩, .d, .s, .s, true, [.v], .none, false, false⟩
  | .fmaxF32 t d a b => some ⟨⟨t, 0x12, d, a, b, 2⟩, .d, .s, .s, true, [.v], .none, false, false⟩
  | .fabsF32 t d a => some ⟨⟨t, 0x12, d, a, 0, 3⟩, .d, .s, .zero, true, [.v], .none, false, false⟩
  | .fnegF32 t d a => some ⟨⟨t, 0x12, d, a, 0, 4⟩, .d, .s, .zero, true, [.v], .none, false, false⟩
  | .fsgnF32 t d a b => some ⟨⟨t, 0x12, d, a, b, 5⟩, .d, .s, .s, true, [.v], .none, false, false⟩
  | .fminBf16x2 t d a b => some ⟨⟨t, 0x12, d, a, b, 6⟩, .d, .s, .s, true, [.v], .none, false, false⟩
  | .fmaxBf16x2 t d a b => some ⟨⟨t, 0x12, d, a, b, 7⟩, .d, .s, .s, true, [.v], .none, false, false⟩
  | .fminF16x2 t d a b => some ⟨⟨t, 0x12, d, a, b, 8⟩, .d, .s, .s, true, [.v], .none, false, false⟩
  | .fmaxF16x2 t d a b => some ⟨⟨t, 0x12, d, a, b, 9⟩, .d, .s, .s, true, [.v], .none, false, false⟩
  | .fabsBf16x2 t d a => some ⟨⟨t, 0x12, d, a, 0, 10⟩, .d, .s, .zero, true, [.v], .none, false, false⟩
  | .fnegBf16x2 t d a => some ⟨⟨t, 0x12, d, a, 0, 11⟩, .d, .s, .zero, true, [.v], .none, false, false⟩
  | .fsgnBf16x2 t d a b => some ⟨⟨t, 0x12, d, a, b, 12⟩, .d, .s, .s, true, [.v], .none, false, false⟩
  | .fabsF16x2 t d a => some ⟨⟨t, 0x12, d, a, 0, 13⟩, .d, .s, .zero, true, [.v], .none, false, false⟩
  | .fnegF16x2 t d a => some ⟨⟨t, 0x12, d, a, 0, 14⟩, .d, .s, .zero, true, [.v], .none, false, false⟩
  | .fsgnF16x2 t d a b => some ⟨⟨t, 0x12, d, a, b, 15⟩, .d, .s, .s, true, [.v], .none, false, false⟩
  | .faddBf16x2 t d a b r => some ⟨⟨t, 0x13, d, a, b, (1#3 ++ r)⟩, .d, .s, .s, true, [.v], .none, false, false⟩
  | .fsubBf16x2 t d a b r => some ⟨⟨t, 0x13, d, a, b, (2#3 ++ r)⟩, .d, .s, .s, true, [.v], .none, false, false⟩
  | .fmulBf16x2 t d a b r => some ⟨⟨t, 0x13, d, a, b, (3#3 ++ r)⟩, .d, .s, .s, true, [.v], .none, false, false⟩
  | .ffmaBf16x2 t d a b r => some ⟨⟨t, 0x13, d, a, b, (4#3 ++ r)⟩, .da, .s, .s, true, [.v], .none, true, false⟩
  | .faddF16x2 t d a b r => some ⟨⟨t, 0x14, d, a, b, (1#3 ++ r)⟩, .d, .s, .s, true, [.v], .none, false, false⟩
  | .fsubF16x2 t d a b r => some ⟨⟨t, 0x14, d, a, b, (2#3 ++ r)⟩, .d, .s, .s, true, [.v], .none, false, false⟩
  | .fmulF16x2 t d a b r => some ⟨⟨t, 0x14, d, a, b, (3#3 ++ r)⟩, .d, .s, .s, true, [.v], .none, false, false⟩
  | .ffmaF16x2 t d a b r => some ⟨⟨t, 0x14, d, a, b, (4#3 ++ r)⟩, .da, .s, .s, true, [.v], .none, true, false⟩
  | .fdot2Bf16 t d a b r => some ⟨⟨t, 0x15, d, a, b, (1#3 ++ r)⟩, .da, .s, .s, true, [.v], .none, true, false⟩
  | .fdot2F16 t d a b r => some ⟨⟨t, 0x15, d, a, b, (2#3 ++ r)⟩, .da, .s, .s, true, [.v], .none, true, false⟩
  | .fdot4E4m3 t d a b r => some ⟨⟨t, 0x15, d, a, b, (3#3 ++ r)⟩, .da, .s, .s, true, [.v], .none, true, false⟩
  | .fdot4E5m2 t d a b r => some ⟨⟨t, 0x15, d, a, b, (4#3 ++ r)⟩, .da, .s, .s, true, [.v], .none, true, false⟩
  | .idot4S8 t d a b => some ⟨⟨t, 0x15, d, a, b, 20⟩, .da, .s, .s, true, [.v], .none, true, false⟩
  | .idot4N8 t d a b => some ⟨⟨t, 0x15, d, a, b, 21⟩, .da, .s, .s, true, [.v], .none, true, false⟩
  | .fceqF32 t d a b => some ⟨⟨t, 0x16, d, a, b, 1⟩, .dp, .s, .s, true, [.v], .none, false, false⟩
  | .fcneF32 t d a b => some ⟨⟨t, 0x16, d, a, b, 2⟩, .dp, .s, .s, true, [.v], .none, false, false⟩
  | .fcltF32 t d a b => some ⟨⟨t, 0x16, d, a, b, 3⟩, .dp, .s, .s, true, [.v], .none, false, false⟩
  | .fcleF32 t d a b => some ⟨⟨t, 0x16, d, a, b, 4⟩, .dp, .s, .s, true, [.v], .none, false, false⟩
  | .fcgtF32 t d a b => some ⟨⟨t, 0x16, d, a, b, 5⟩, .dp, .s, .s, true, [.v], .none, false, false⟩
  | .fcgeF32 t d a b => some ⟨⟨t, 0x16, d, a, b, 6⟩, .dp, .s, .s, true, [.v], .none, false, false⟩
  | .fcunF32 t d a b => some ⟨⟨t, 0x16, d, a, b, 7⟩, .dp, .s, .s, true, [.v], .none, false, false⟩
  | .fclassF32 t d a => some ⟨⟨t, 0x17, d, a, 0, 1⟩, .d, .s, .zero, true, [.v], .none, false, false⟩
  | .fclassBf16x2 t d a => some ⟨⟨t, 0x17, d, a, 0, 2⟩, .d, .s, .zero, true, [.v], .none, false, false⟩
  | .fclassF16x2 t d a => some ⟨⟨t, 0x17, d, a, 0, 3⟩, .d, .s, .zero, true, [.v], .none, false, false⟩
  | .ftestF32 t d a b => some ⟨⟨t, 0x17, d, a, b, 4⟩, .dp, .s, .s, true, [.v], .none, false, false⟩
  | .cvtF32Bf16 t d a b => some ⟨⟨t, 0x18, d, a, b, 1⟩, .d, .s, .lit1, true, [.v], .none, false, false⟩
  | .cvtF32F16 t d a b => some ⟨⟨t, 0x18, d, a, b, 2⟩, .d, .s, .lit1, true, [.v], .none, false, false⟩
  | .cvtBf16x2F32 t d a b r => some ⟨⟨t, 0x18, d, a, b, (1#3 ++ r)⟩, .d, .s, .s, true, [.v], .none, false, false⟩
  | .cvtF16x2F32 t d a b r => some ⟨⟨t, 0x18, d, a, b, (2#3 ++ r)⟩, .d, .s, .s, true, [.v], .none, false, false⟩
  | .cvtBf16x2F16x2 t d a r => some ⟨⟨t, 0x18, d, a, 0, (3#3 ++ r)⟩, .d, .s, .zero, true, [.v], .none, false, false⟩
  | .cvtF16x2Bf16x2 t d a r => some ⟨⟨t, 0x18, d, a, 0, (4#3 ++ r)⟩, .d, .s, .zero, true, [.v], .none, false, false⟩
  | .cvtS32F32 t d a r => some ⟨⟨t, 0x19, d, a, 0, (1#3 ++ r)⟩, .d, .s, .zero, true, [.v], .none, false, false⟩
  | .cvtN32F32 t d a r => some ⟨⟨t, 0x19, d, a, 0, (2#3 ++ r)⟩, .d, .s, .zero, true, [.v], .none, false, false⟩
  | .cvtF32S32 t d a r => some ⟨⟨t, 0x19, d, a, 0, (3#3 ++ r)⟩, .d, .s, .zero, true, [.v], .none, false, false⟩
  | .cvtF32N32 t d a r => some ⟨⟨t, 0x19, d, a, 0, (4#3 ++ r)⟩, .d, .s, .zero, true, [.v], .none, false, false⟩
  | .cvtStochBf16x2F32 t d a b => some ⟨⟨t, 0x1A, d, a, b, 1⟩, .d, .ae, .s, true, [.v], .none, false, false⟩
  | .cvtStochF16x2F32 t d a b => some ⟨⟨t, 0x1A, d, a, b, 2⟩, .d, .ae, .s, true, [.v], .none, false, false⟩
  | .cvtStochE4m3x2F32 t d a b => some ⟨⟨t, 0x1A, d, a, b, 3⟩, .d, .ae, .s, true, [.v], .none, false, false⟩
  | .cvtStochE5m2x2F32 t d a b => some ⟨⟨t, 0x1A, d, a, b, 4⟩, .d, .ae, .s, true, [.v], .none, false, false⟩
  | .mxscE4m3 t d a => some ⟨⟨t, 0x1B, d, a, 0, 1⟩, .d, .s, .zero, true, [.v], .none, false, false⟩
  | .mxscE5m2 t d a => some ⟨⟨t, 0x1B, d, a, 0, 2⟩, .d, .s, .zero, true, [.v], .none, false, false⟩
  | .mxscE3m2 t d a => some ⟨⟨t, 0x1B, d, a, 0, 3⟩, .d, .s, .zero, true, [.v], .none, false, false⟩
  | .mxscE2m3 t d a => some ⟨⟨t, 0x1B, d, a, 0, 4⟩, .d, .s, .zero, true, [.v], .none, false, false⟩
  | .mxscE2m1 t d a => some ⟨⟨t, 0x1B, d, a, 0, 5⟩, .d, .s, .zero, true, [.v], .none, false, false⟩
  | .mxdqE4m3 t d a b => some ⟨⟨t, 0x1B, d, a, b, 6⟩, .d, .s, .s, true, [.v], .none, false, false⟩
  | .mxdqE5m2 t d a b => some ⟨⟨t, 0x1B, d, a, b, 7⟩, .d, .s, .s, true, [.v], .none, false, false⟩
  | .mxdqE3m2 t d a b => some ⟨⟨t, 0x1B, d, a, b, 8⟩, .d, .s, .s, true, [.v], .none, false, false⟩
  | .mxdqE2m3 t d a b => some ⟨⟨t, 0x1B, d, a, b, 9⟩, .d, .s, .s, true, [.v], .none, false, false⟩
  | .mxdqE2m1 t d a b => some ⟨⟨t, 0x1B, d, a, b, 10⟩, .d, .s, .s, true, [.v], .none, false, false⟩
  | .mxqE4m3 t d a b r => some ⟨⟨t, 0x1B, d, a, b, (3#3 ++ r)⟩, .da, .s, .s, true, [.v], .none, true, false⟩
  | .mxqE5m2 t d a b r => some ⟨⟨t, 0x1B, d, a, b, (4#3 ++ r)⟩, .da, .s, .s, true, [.v], .none, true, false⟩
  | .mxqE3m2 t d a b r => some ⟨⟨t, 0x1B, d, a, b, (5#3 ++ r)⟩, .da, .s, .s, true, [.v], .none, true, false⟩
  | .mxqE2m3 t d a b r => some ⟨⟨t, 0x1B, d, a, b, (6#3 ++ r)⟩, .da, .s, .s, true, [.v], .none, true, false⟩
  | .mxqE2m1 t d a b r => some ⟨⟨t, 0x1B, d, a, b, (7#3 ++ r)⟩, .da, .s, .s, true, [.v], .none, true, false⟩
  | .frcpF32 t d a => some ⟨⟨t, 0x1C, d, a, 0, 1⟩, .d, .s, .zero, true, [.v], .none, false, false⟩
  | .frsqrtF32 t d a => some ⟨⟨t, 0x1C, d, a, 0, 2⟩, .d, .s, .zero, true, [.v], .none, false, false⟩
  | .fexp2F32 t d a => some ⟨⟨t, 0x1C, d, a, 0, 3⟩, .d, .s, .zero, true, [.v], .none, false, false⟩
  | .fexpF32 t d a => some ⟨⟨t, 0x1C, d, a, 0, 4⟩, .d, .s, .zero, true, [.v], .none, false, false⟩
  | .flog2F32 t d a => some ⟨⟨t, 0x1C, d, a, 0, 5⟩, .d, .s, .zero, true, [.v], .none, false, false⟩
  | .fsinpiF32 t d a => some ⟨⟨t, 0x1C, d, a, 0, 6⟩, .d, .s, .zero, true, [.v], .none, false, false⟩
  | .fcospiF32 t d a => some ⟨⟨t, 0x1C, d, a, 0, 7⟩, .d, .s, .zero, true, [.v], .none, false, false⟩
  | .ftanhF32 t d a => some ⟨⟨t, 0x1C, d, a, 0, 8⟩, .d, .s, .zero, true, [.v], .none, false, false⟩
  | .fsigF32 t d a => some ⟨⟨t, 0x1C, d, a, 0, 9⟩, .d, .s, .zero, true, [.v], .none, false, false⟩
  | .frmaxF32 t d a => some ⟨⟨t, 0x1D, d, a, 0, 1⟩, .d, .s, .zero, true, [.v], .none, false, false⟩
  | .frminF32 t d a => some ⟨⟨t, 0x1D, d, a, 0, 2⟩, .d, .s, .zero, true, [.v], .none, false, false⟩
  | .frmaxaF32 t d a => some ⟨⟨t, 0x1D, d, a, 0, 3⟩, .d, .s, .zero, true, [.v], .none, false, false⟩
  | .fraddF32 t d a r => some ⟨⟨t, 0x1D, d, a, 0, (1#3 ++ r)⟩, .d, .s, .zero, true, [.v], .none, false, false⟩
  | .iradd t d a => some ⟨⟨t, 0x1E, d, a, 0, 1⟩, .d, .s, .zero, true, [.v], .none, false, false⟩
  | .iraddsS32 t d a => some ⟨⟨t, 0x1E, d, a, 0, 2⟩, .d, .s, .zero, true, [.v], .none, false, false⟩
  | .iraddsN32 t d a => some ⟨⟨t, 0x1E, d, a, 0, 3⟩, .d, .s, .zero, true, [.v], .none, false, false⟩
  | .irminS32 t d a => some ⟨⟨t, 0x1E, d, a, 0, 4⟩, .d, .s, .zero, true, [.v], .none, false, false⟩
  | .irmaxS32 t d a => some ⟨⟨t, 0x1E, d, a, 0, 5⟩, .d, .s, .zero, true, [.v], .none, false, false⟩
  | .irminN32 t d a => some ⟨⟨t, 0x1E, d, a, 0, 6⟩, .d, .s, .zero, true, [.v], .none, false, false⟩
  | .irmaxN32 t d a => some ⟨⟨t, 0x1E, d, a, 0, 7⟩, .d, .s, .zero, true, [.v], .none, false, false⟩
  | .irand t d a => some ⟨⟨t, 0x1E, d, a, 0, 8⟩, .d, .s, .zero, true, [.v], .none, false, false⟩
  | .iror t d a => some ⟨⟨t, 0x1E, d, a, 0, 9⟩, .d, .s, .zero, true, [.v], .none, false, false⟩
  | .irxor t d a => some ⟨⟨t, 0x1E, d, a, 0, 10⟩, .d, .s, .zero, true, [.v], .none, false, false⟩
  | .ircnt t d a => some ⟨⟨t, 0x1E, d, a, 0, 11⟩, .d, .p, .zero, true, [.v], .none, false, false⟩
  | .fgetexpF32 t d a => some ⟨⟨t, 0x1F, d, a, 0, 1⟩, .d, .s, .zero, true, [.v], .none, false, false⟩
  | .fmantF32 t d a => some ⟨⟨t, 0x1F, d, a, 0, 2⟩, .d, .s, .zero, true, [.v], .none, false, false⟩
  | .rdflg t d => some ⟨⟨t, 0x1F, d, 0, 0, 3⟩, .dr, .zero, .zero, true, [.v], .none, false, false⟩
  | .fsclF32 t d a b r => some ⟨⟨t, 0x1F, d, a, b, (1#3 ++ r)⟩, .d, .s, .s, true, [.v], .none, false, false⟩
  | .clrflg t a => some ⟨⟨t, 0x1F, 0, a, 0, 8⟩, .zero, .s, .zero, true, [.v], .none, false, false⟩
  | .ld t d a b s y => some ⟨⟨t, 0x20, d, a, b, (0#1 ++ s ++ y)⟩, .dl, .s, .s, 1 ≤ y && y ≤ 5, [.v, .s, .a], .req, false, false⟩
  | .ldv t d a b s => some ⟨⟨t, 0x20, d, a, b, (8#4 ++ s)⟩, .dl, .s, .s, true, [.v, .s, .a], .req, false, false⟩
  | .st t a b s y => some ⟨⟨t, 0x21, 0, a, b, (0#1 ++ s ++ y)⟩, .zero, .s, .s, y == 1 || y == 3 || y == 5, [.v, .s, .a], .req, false, false⟩
  | .stv t a b s => some ⟨⟨t, 0x21, 0, a, b, (8#4 ++ s)⟩, .zero, .s, .s, true, [.v, .s, .a], .req, false, false⟩
  | .ldg t d a b y => some ⟨⟨t, 0x22, d, a, b, (0#2 ++ y)⟩, .dl, .s, .s, 1 ≤ y && y ≤ 5, [.v, .a], .req, false, false⟩
  | .ldgV t d a b => some ⟨⟨t, 0x22, d, a, b, 16⟩, .dl, .s, .s, true, [.v, .a], .req, false, false⟩
  | .stg t a b y => some ⟨⟨t, 0x23, 0, a, b, (0#2 ++ y)⟩, .zero, .s, .s, y == 1 || y == 3 || y == 5, [.v, .a], .req, false, false⟩
  | .ldf t d a b s c => some ⟨⟨t, 0x24, d, a, b, (0#1 ++ s ++ (c + 1))⟩, .dl, .s, .s, c ≤ 5, [.v, .s, .a], .req, false, false⟩
  | .stf t a b s c => some ⟨⟨t, 0x24, 0, a, b, (1#1 ++ s ++ (c + 1))⟩, .zero, .s, .s, c ≤ 5, [.v, .s, .a], .req, false, false⟩
  | .touchX t a b => some ⟨⟨t, 0x25, 0, a, b, 1⟩, .zero, .s, .s, true, [.v, .s, .a], .req, false, false⟩
  | .touchM t a b => some ⟨⟨t, 0x25, 0, a, b, 2⟩, .zero, .s, .s, true, [.v, .s, .a], .req, false, false⟩
  | .touchG t a b => some ⟨⟨t, 0x25, 0, a, b, 3⟩, .zero, .s, .s, true, [.v, .a], .req, false, false⟩
  | .aaddX t d a b => some ⟨⟨t, 0x26, d, a, b, 1⟩, .dr, .s, .s, true, [.v, .s, .a], .req, false, false⟩
  | .aaddM t d a b => some ⟨⟨t, 0x26, d, a, b, 2⟩, .dr, .s, .s, true, [.v, .s, .a], .req, false, false⟩
  | .aaddG t d a b => some ⟨⟨t, 0x26, d, a, b, 3⟩, .dr, .s, .s, true, [.v, .a], .req, false, false⟩
  | .aminS32X t d a b => some ⟨⟨t, 0x26, d, a, b, 4⟩, .dr, .s, .s, true, [.v, .s, .a], .req, false, false⟩
  | .aminS32M t d a b => some ⟨⟨t, 0x26, d, a, b, 5⟩, .dr, .s, .s, true, [.v, .s, .a], .req, false, false⟩
  | .aminS32G t d a b => some ⟨⟨t, 0x26, d, a, b, 6⟩, .dr, .s, .s, true, [.v, .a], .req, false, false⟩
  | .aminN32X t d a b => some ⟨⟨t, 0x26, d, a, b, 7⟩, .dr, .s, .s, true, [.v, .s, .a], .req, false, false⟩
  | .aminN32M t d a b => some ⟨⟨t, 0x26, d, a, b, 8⟩, .dr, .s, .s, true, [.v, .s, .a], .req, false, false⟩
  | .aminN32G t d a b => some ⟨⟨t, 0x26, d, a, b, 9⟩, .dr, .s, .s, true, [.v, .a], .req, false, false⟩
  | .amaxS32X t d a b => some ⟨⟨t, 0x26, d, a, b, 10⟩, .dr, .s, .s, true, [.v, .s, .a], .req, false, false⟩
  | .amaxS32M t d a b => some ⟨⟨t, 0x26, d, a, b, 11⟩, .dr, .s, .s, true, [.v, .s, .a], .req, false, false⟩
  | .amaxS32G t d a b => some ⟨⟨t, 0x26, d, a, b, 12⟩, .dr, .s, .s, true, [.v, .a], .req, false, false⟩
  | .amaxN32X t d a b => some ⟨⟨t, 0x26, d, a, b, 13⟩, .dr, .s, .s, true, [.v, .s, .a], .req, false, false⟩
  | .amaxN32M t d a b => some ⟨⟨t, 0x26, d, a, b, 14⟩, .dr, .s, .s, true, [.v, .s, .a], .req, false, false⟩
  | .amaxN32G t d a b => some ⟨⟨t, 0x26, d, a, b, 15⟩, .dr, .s, .s, true, [.v, .a], .req, false, false⟩
  | .aandX t d a b => some ⟨⟨t, 0x26, d, a, b, 16⟩, .dr, .s, .s, true, [.v, .s, .a], .req, false, false⟩
  | .aandM t d a b => some ⟨⟨t, 0x26, d, a, b, 17⟩, .dr, .s, .s, true, [.v, .s, .a], .req, false, false⟩
  | .aandG t d a b => some ⟨⟨t, 0x26, d, a, b, 18⟩, .dr, .s, .s, true, [.v, .a], .req, false, false⟩
  | .aorX t d a b => some ⟨⟨t, 0x26, d, a, b, 19⟩, .dr, .s, .s, true, [.v, .s, .a], .req, false, false⟩
  | .aorM t d a b => some ⟨⟨t, 0x26, d, a, b, 20⟩, .dr, .s, .s, true, [.v, .s, .a], .req, false, false⟩
  | .aorG t d a b => some ⟨⟨t, 0x26, d, a, b, 21⟩, .dr, .s, .s, true, [.v, .a], .req, false, false⟩
  | .axorX t d a b => some ⟨⟨t, 0x26, d, a, b, 22⟩, .dr, .s, .s, true, [.v, .s, .a], .req, false, false⟩
  | .axorM t d a b => some ⟨⟨t, 0x26, d, a, b, 23⟩, .dr, .s, .s, true, [.v, .s, .a], .req, false, false⟩
  | .axorG t d a b => some ⟨⟨t, 0x26, d, a, b, 24⟩, .dr, .s, .s, true, [.v, .a], .req, false, false⟩
  | .afaddX t d a b => some ⟨⟨t, 0x26, d, a, b, 25⟩, .dr, .s, .s, true, [.v, .s, .a], .req, false, false⟩
  | .afaddM t d a b => some ⟨⟨t, 0x26, d, a, b, 26⟩, .dr, .s, .s, true, [.v, .s, .a], .req, false, false⟩
  | .afaddG t d a b => some ⟨⟨t, 0x26, d, a, b, 27⟩, .dr, .s, .s, true, [.v, .a], .req, false, false⟩
  | .axchX t d a b => some ⟨⟨t, 0x27, d, a, b, 1⟩, .dr, .s, .s, true, [.v, .s, .a], .req, false, false⟩
  | .axchM t d a b => some ⟨⟨t, 0x27, d, a, b, 2⟩, .dr, .s, .s, true, [.v, .s, .a], .req, false, false⟩
  | .axchG t d a b => some ⟨⟨t, 0x27, d, a, b, 3⟩, .dr, .s, .s, true, [.v, .a], .req, false, false⟩
  | .acasX t d a b => some ⟨⟨t, 0x27, d, a, b, 4⟩, .dr, .s, .s, true, [.v, .s, .a], .req, true, false⟩
  | .acasM t d a b => some ⟨⟨t, 0x27, d, a, b, 5⟩, .dr, .s, .s, true, [.v, .s, .a], .req, true, false⟩
  | .acasG t d a b => some ⟨⟨t, 0x27, d, a, b, 6⟩, .dr, .s, .s, true, [.v, .a], .req, true, false⟩
  | .falloc t d b => some ⟨⟨t, 0x28, d, 0, b, 1⟩, .dr, .zero, .lit3, true, [.v, .s], .frame, false, false⟩
  | .fput t a b => some ⟨⟨t, 0x28, 30, a, b, 2⟩, .fout, .s, .s, true, [.v, .s], .frame, false, false⟩
  | .ffree t a => some ⟨⟨t, 0x28, 0, a, 0, 3⟩, .zero, .s, .zero, true, [.v, .s], .frame, false, false⟩
  | .otokFork t => some ⟨⟨t, 0x29, 0, 0, 0, 1⟩, .zero, .zero, .zero, true, [.v, .s, .a, .m], .none, false, false⟩
  | .otokJoin t => some ⟨⟨t, 0x29, 0, 0, 0, 2⟩, .zero, .zero, .zero, true, [.v, .s, .a, .m], .none, false, false⟩
  | .fence t c => some ⟨⟨t, 0x29, 0, 0, 0, (1#2 ++ c)⟩, .zero, .zero, .zero, c ≤ 5, [.v, .s, .a, .m], .none, false, false⟩
  | .arvX t d a b => some ⟨⟨t, 0x2A, d, a, b, 1⟩, .dr, .s, .scope, true, [.v, .s, .a, .m], .req, false, false⟩
  | .arvM t d a b => some ⟨⟨t, 0x2A, d, a, b, 2⟩, .dr, .s, .scope, true, [.v, .s, .a, .m], .req, false, false⟩
  | .arvG t d a b => some ⟨⟨t, 0x2A, d, a, b, 3⟩, .dr, .s, .scope, true, [.v, .a], .req, false, false⟩
  | .awtX t d a b => some ⟨⟨t, 0x2A, d, a, b, 5⟩, .dr, .s, .scope, true, [.v, .s, .a, .m], .req, false, false⟩
  | .awtM t d a b => some ⟨⟨t, 0x2A, d, a, b, 6⟩, .dr, .s, .scope, true, [.v, .s, .a, .m], .req, false, false⟩
  | .awtG t d a b => some ⟨⟨t, 0x2A, d, a, b, 7⟩, .dr, .s, .scope, true, [.v, .a], .req, false, false⟩
  | .arwX t d a b => some ⟨⟨t, 0x2A, d, a, b, 9⟩, .dr, .s, .scope, true, [.v, .s, .a, .m], .req, false, false⟩
  | .arwM t d a b => some ⟨⟨t, 0x2A, d, a, b, 10⟩, .dr, .s, .scope, true, [.v, .s, .a, .m], .req, false, false⟩
  | .arwG t d a b => some ⟨⟨t, 0x2A, d, a, b, 11⟩, .dr, .s, .scope, true, [.v, .a], .req, false, false⟩
  | .ioread t a => some ⟨⟨t, 0x2B, 0, a, 0, 1⟩, .zero, .s, .zero, true, [.v, .a], .req, false, false⟩
  | .iowaitX t d a => some ⟨⟨t, 0x2B, d, a, 0, 2⟩, .dr, .s, .zero, true, [.v, .a], .req, false, false⟩
  | .iowaitM t d a => some ⟨⟨t, 0x2B, d, a, 0, 3⟩, .dr, .s, .zero, true, [.v, .a], .req, false, false⟩
  | .scfg t a b => some ⟨⟨t, 0x2C, 0, a, b, 1⟩, .zero, .s, .lit4, true, [.a], .none, false, false⟩
  | .sbind t a b => some ⟨⟨t, 0x2C, 0, a, b, 2⟩, .zero, .lit0to4, .lit4, true, [.a], .none, false, false⟩
  | .sgo t a b => some ⟨⟨t, 0x2C, 0, a, b, 3⟩, .zero, .lit3, .lit4, true, [.a], .cmd, false, false⟩
  | .sstop t b => some ⟨⟨t, 0x2C, 0, 0, b, 4⟩, .zero, .zero, .lit4, true, [.a], .none, false, false⟩
  | .cpy t a b => some ⟨⟨t, 0x2D, 0, a, b, 1⟩, .zero, .s, .lit3, true, [.a], .cmd, false, false⟩
  | .sbwait t d a => some ⟨⟨t, 0x2E, d, a, 0, 1⟩, .dr, .s, .zero, true, [.a], .none, false, false⟩
  | .sbtest t d => some ⟨⟨t, 0x2E, d, 0, 0, 2⟩, .dp, .zero, .zero, true, [.a], .none, false, false⟩
  | .gsendEnt0 t d a b => some ⟨⟨t, 0x2F, d, a, b, 1⟩, .dl, .s, .s, true, [.v, .a], .gsend, false, false⟩
  | .gsendEnt1 t d a b => some ⟨⟨t, 0x2F, d, a, b, 2⟩, .dl, .s, .s, true, [.v, .a], .gsend, false, false⟩
  | .gsendEnt2 t d a b => some ⟨⟨t, 0x2F, d, a, b, 3⟩, .dl, .s, .s, true, [.v, .a], .gsend, false, false⟩
  | .gsendEnt3 t d a b => some ⟨⟨t, 0x2F, d, a, b, 4⟩, .dl, .s, .s, true, [.v, .a], .gsend, false, false⟩
  | .rmwcfg t a b => some ⟨⟨t, 0x2F, 0, a, b, 5⟩, .zero, .s, .lit2, true, [.v, .a], .none, false, false⟩
  | .mma t n a b f => some ⟨⟨t, 0x30, (0#4 ++ n), a, b, f⟩, .acv, .sp, .sp, 1 ≤ f && f ≤ 11, [.m], .cmd, false, true⟩
  | .mmam t n a b f => some ⟨⟨t, 0x30, (1#4 ++ n), a, b, f⟩, .acv, .sp, .sp, 1 ≤ f && f ≤ 11, [.m], .cmd, false, true⟩
  | .mmas t n a b f => some ⟨⟨t, 0x30, (2#4 ++ n), a, b, f⟩, .acv, .sp, .sp, 1 ≤ f && f ≤ 11, [.m], .cmd, false, true⟩
  | .maclClr t n => some ⟨⟨t, 0x31, (0#4 ++ n), 0, 0, 1⟩, .lit1, .zero, .zero, true, [.m], .none, false, false⟩
  | .maclLd t n a => some ⟨⟨t, 0x31, (0#4 ++ n), a, 0, 2⟩, .lit1, .sp, .zero, true, [.m], .cmd, false, true⟩
  | .mld t a => some ⟨⟨t, 0x31, 0, a, 0, 3⟩, .zero, .s, .zero, true, [.m], .none, false, false⟩
  | .mdrnF32 t n a => some ⟨⟨t, 0x32, (0#4 ++ n), a, 0, 1⟩, .lit1, .sp, .zero, true, [.m], .drain, false, false⟩
  | .mdrnBf16 t n a r => some ⟨⟨t, 0x32, (0#4 ++ n), a, 0, (1#3 ++ r)⟩, .lit1, .sp, .zero, true, [.m], .drain, false, false⟩
  | .mdrnF16 t n a r => some ⟨⟨t, 0x32, (0#4 ++ n), a, 0, (2#3 ++ r)⟩, .lit1, .sp, .zero, true, [.m], .drain, false, false⟩
  | .mchk t n a => some ⟨⟨t, 0x33, (0#4 ++ n), a, 0, 1⟩, .lit1, .s, .zero, true, [.m], .none, false, false⟩
  | .prune t n a => some ⟨⟨t, 0x33, (0#4 ++ n), a, 0, 2⟩, .lit1, .s, .zero, true, [.m], .none, false, false⟩
  | .launch t a => some ⟨⟨t, 0x36, 0, a, 0, 1⟩, .zero, .s, .zero, true, [.v, .s, .a], .req, false, false⟩
  | .ptask t d => some ⟨⟨t, 0x36, d, 0, 0, 2⟩, .dr, .zero, .zero, true, [.v, .s, .a], .none, false, false⟩
  | .tdone t a => some ⟨⟨t, 0x36, 0, a, 0, 3⟩, .zero, .s, .zero, true, [.v, .s, .a], .none, false, false⟩
  | .yieldFX t a => some ⟨⟨t, 0x36, 0, a, 0, 4⟩, .zero, .s, .zero, true, [.v, .s, .a], .none, false, false⟩
  | .yieldFM t a => some ⟨⟨t, 0x36, 0, a, 0, 5⟩, .zero, .s, .zero, true, [.v, .s, .a], .none, false, false⟩
  | .yieldSb t a => some ⟨⟨t, 0x36, 0, a, 0, 6⟩, .zero, .s, .zero, true, [.a], .none, false, false⟩
  | .yieldRel t => some ⟨⟨t, 0x36, 0, 0, 0, 7⟩, .zero, .zero, .zero, true, [.v, .s, .a], .none, false, false⟩
  | .tagset t a => some ⟨⟨t, 0x37, 0, a, 0, 1⟩, .zero, .s, .zero, true, [.v, .s, .a, .m], .none, false, false⟩
  | .tagsetReq t a => some ⟨⟨t, 0x37, 0, a, 0, 2⟩, .zero, .s, .zero, true, [.v, .s, .a, .m], .none, false, false⟩
  | .tagsetIter t a => some ⟨⟨t, 0x37, 0, a, 0, 3⟩, .zero, .s, .zero, true, [.v, .s, .a, .m], .none, false, false⟩
  | .rset t d a => some ⟨⟨t, 0x37, d, a, 0, 4⟩, .dr, .s, .zero, true, [.v, .s, .a, .m], .req, false, false⟩
  | .rget t d a => some ⟨⟨t, 0x37, d, a, 0, 5⟩, .dr, .s, .zero, true, [.v, .s, .a, .m], .req, false, false⟩
  | .rfree t a => some ⟨⟨t, 0x37, 0, a, 0, 6⟩, .zero, .s, .zero, true, [.v, .s, .a, .m], .req, false, false⟩
  | .sealR t d a => some ⟨⟨t, 0x38, d, a, 0, 1⟩, .dr, .s, .zero, true, [.v, .a], .req, false, false⟩
  | .unsealR t a => some ⟨⟨t, 0x38, 0, a, 0, 2⟩, .zero, .s, .zero, true, [.v, .a], .req, false, false⟩
  | .trap t a => some ⟨⟨t, 0x39, 0, a, 0, 1⟩, .zero, .s, .zero, true, [.v, .s, .a, .m], .none, false, false⟩
  | .hret t => some ⟨⟨t, 0x39, 0, 0, 0, 2⟩, .zero, .zero, .zero, true, [.v, .s, .a, .m], .none, false, false⟩
  | .hretDrop t => some ⟨⟨t, 0x39, 0, 0, 0, 3⟩, .zero, .zero, .zero, true, [.v, .s, .a, .m], .none, false, false⟩
  | .hretEnd t => some ⟨⟨t, 0x39, 0, 0, 0, 4⟩, .zero, .zero, .zero, true, [.v, .s, .a, .m], .none, false, false⟩
  | .scout t n a b => some ⟨⟨t, 0x3A, (0#4 ++ n), a, b, 1⟩, .lit1, .sp, .sp, true, [.m], .cmd, false, true⟩
  | .threshAbs t d a n => some ⟨⟨t, 0x3A, d, a, (0#4 ++ n), 2⟩, .dr, .s, .lit1, true, [.m], .cmd, false, false⟩
  | .threshTop t d a n => some ⟨⟨t, 0x3A, d, a, (0#4 ++ n), 3⟩, .dr, .s, .lit1, true, [.m], .cmd, false, false⟩
  | .pgsel t a b => some ⟨⟨t, 0x3B, 0, a, b, 1⟩, .zero, .s, .lit3, true, [.a], .cmd, false, false⟩
  | .hrow t d a => some ⟨⟨t, 0x3C, d, a, 0, 1⟩, .dr, .s, .zero, true, [.v, .a], .req, false, false⟩
  | .hins t d a b => some ⟨⟨t, 0x3C, d, a, b, 2⟩, .dp, .s, .s, true, [.v, .a], .req, false, false⟩
  | .hspill t d a => some ⟨⟨t, 0x3C, d, a, 0, 3⟩, .dr, .s, .zero, true, [.v, .a], .req, false, false⟩
  | .qprobe t d => some ⟨⟨t, 0x3D, d, 0, 0, 1⟩, .dr, .zero, .zero, true, [.v, .s, .a, .m], .none, false, false⟩
  | .qprobeClr t d => some ⟨⟨t, 0x3D, d, 0, 0, 2⟩, .dr, .zero, .zero, true, [.v, .s, .a, .m], .none, false, false⟩
  | .monCfg t a => some ⟨⟨t, 0x3D, 0, a, 0, 3⟩, .zero, .s, .zero, true, [.v, .s, .a, .m], .none, false, false⟩
  | .monMark t a => some ⟨⟨t, 0x3D, 0, a, 0, 4⟩, .zero, .s, .zero, true, [.v, .s, .a, .m], .none, false, false⟩
  | .loadWaitExpiry _ => none
  | .tdoneSettlingExpiry _ => none
  | .unsealRequest _ => none
  | .spaceDescriptorCleared _ => none
  | .monitorOccupancySample _ => none
  | .unassignedCommand _ => none

end Sys2Proof
end

