-- ==== Sys2Proof/WellFormed.lean ====
section
/-!
DEFINITION. Well-formedness of instructions: the operand sets and literal ranges of check 0x4, the
assigned functions of check 0x2, the kinds of check 0x3, and for a whole step the ranges of R7.
-/

namespace Sys2Proof

/-- The operand fields hold codes of their sets, and the function is assigned (checks 0x2 and 0x4). -/
def Form.ok (f : Form) : Bool :=
  f.fnOk && f.dS.allows f.fields.d && f.aS.allows f.fields.a && f.bS.allows f.fields.b &&
    -- a = b fails check 0x4 in major 0x30 (R267)
    !(f.fields.major == 0x30 && f.fields.a == f.fields.b)

/-- A tile that the package has (R7). -/
def TileId.ok (t : TileId) : Bool := t.die < 8 && t.row < 20 && t.col < 40

/-- An element that the package has: a compute tile has row + col even (R7). -/
def ElemId.ok (e : ElemId) : Bool := e.tile.ok && (e.tile.row + e.tile.col) % 2 == 0 && e.pos < 128

/-- A memory tile that the package has (R7). -/
def TileId.isMem (t : TileId) : Bool := t.ok && (t.row + t.col) % 2 == 1

/-- The operands of a whole step name an agent that the package has. -/
def Instr.agentOk (i : Instr) : Bool :=
  match i with
  | .powerUp => true
  | .boot die => die < 8
  | .bootVerifyEnd => true
  | .setPoint die => die < 8
  | .invalidate die => die < 8
  | .bindWindow die => die < 8
  | .context die => die < 8
  | .spaceTable die => die < 8
  | .translationQueue die => die < 8
  | .reuseStore die => die < 8
  | .reuseQuota die => die < 8
  | .reuseFlush die => die < 8
  | .save die => die < 8
  | .purge die => die < 8
  | .inject die => die < 8
  | .monitor die => die < 8
  | .attest die => die < 8
  | .identityKey die => die < 8
  | .threshold die => die < 8
  | .clearErrors die => die < 8
  | .retrain die => die < 8
  | .channelTable die => die < 8
  | .commandDone die => die < 8
  | .translationDoorbell die => die < 8
  | .notificationClear die _ _ => die < 8
  | .managementWrite die _ _ => die < 8
  | .launchWordStore die _ => die < 8
  | .launchCapture die _ => die < 8
  | .linkLost port => (port < 4 || (16 ≤ port && port < 28))
  | .correctedError island => island < 128
  | .structureError code place _ => code < 9 && place.ok
  | .mElementSoftError elem _ _ _ => elem.ok
  | .schedulerCycle => true
  | .reuseHit _ => true
  | .imageRejected _ => true
  | .loadTakesEffect _ => true
  | .regionIdle _ => true
  | .reuseInsertion _ => true
  | .foldDrained _ => true
  | .foldAbandon _ => true
  | .saveWritten _ => true
  | .restoreWritten _ => true
  | .switchRequestArrival elem => elem.ok
  | .switchStatusArrival elem => elem.ok
  | .regionDrained _ => true
  | .settlingEnd _ => true
  | .switchDrainTimeout _ => true
  | .stageDry _ => true
  | .stillness _ => true
  | .switchCycle elem => elem.ok
  | .spillRecordOffer elem => elem.ok
  | .spillEnd elem _ => elem.ok
  | .reinstatementStart elem _ => elem.ok
  | .reinstatementEnd elem _ => elem.ok
  | .neighbourTransfer elem _ => elem.ok
  | .routeClassEntry elem => elem.ok
  | .tokenDelivery tile _ => tile.ok
  | .gatewayReject tile _ => tile.ok
  | .controlTokenArrival elem _ => elem.ok
  | .loopLevelChange elem => elem.ok
  | .releaseSend _ => true
  | .translationLookup _ _ => true
  | .homeAccess _ _ => true
  | .responseArrival _ => true
  | .ioMessageAvailable _ _ => true
  | .ioreadCompletion _ => true
  | .sealMark _ => true
  | .sealHashEnd die => die < 8
  | .rangeUnitRequest _ => true
  | .hashEngineRequest _ => true
  | .frameRequest _ => true
  | .frameEmit elem => elem.ok
  | .streamStart tile _ => tile.ok
  | .streamToken tile _ => tile.ok
  | .streamComplete tile _ => tile.ok
  | .copyCapture elem _ => elem.ok
  | .copyChunk elem _ => elem.ok
  | .copyComplete elem _ => elem.ok
  | .rmwApply _ => true
  | .intakeBurst elem => elem.ok
  | .accumulatorWrite elem => elem.ok
  | .drainToken elem => elem.ok
  | .thresholdMask elem => elem.ok
  | .pageScore elem _ => elem.ok
  | .pageListWrite elem _ => elem.ok
  | .pageStartHandover elem _ => elem.ok
  | .quarterAccept tile _ => tile.isMem
  | .fifoEmit tile _ => tile.isMem
  | .lineBufferEmit tile _ => tile.isMem
  | .tileStoreWrite tile _ => tile.isMem
  | .tileStoreRead tile _ => tile.isMem
  | .retireHead _ => true
  | .faultTaken _ => true
  | .handlerEntry _ => true
  | .handlerExit _ => true
  | .purgeMarking die => die < 8
  | .purgeSweepDone die => die < 8
  | .purgeRecording die => die < 8
  | .exitCompare _ _ => true
  | .twinPartnerTimeout _ => true
  | .loadWaitExpiry _ => true
  | .tdoneSettlingExpiry _ => true
  | .unsealRequest _ => true
  | .spaceDescriptorCleared _ => true
  | .monitorOccupancySample tile => tile.ok
  | .unassignedCommand die => die < 8
  | _ => true

/-- A well-formed instruction: a slot word whose fields pass checks 0x2 and 0x4, or a whole step of an
agent that the package has. -/
def Instr.wf (i : Instr) : Bool :=
  match i.form with
  | some f => f.ok
  | none => i.agentOk

/-- The instruction is a slot word that elements of kind `k` accept (check 0x3). -/
def Instr.acceptedBy (i : Instr) (k : Kind) : Bool :=
  match i.form with
  | some f => f.kinds.contains k
  | none => false

end Sys2Proof
end

