-- ==== Sys2Proof/Decode.lean ====
section
/-!
DEFINITION. The decoder of slot words, total on any word and rejecting by name, and after it the
encoder, both written from Tables 2.1, 2.2 and 2.5 and from the function tables of the instruction
chapters.
-/

namespace Sys2Proof

/-- Why a word is no instruction. -/
inductive DecodeError where
  /-- The empty slot, 0x0000_0000 (R30). -/
  | emptySlot
  /-- The major is unassigned or reserved (check 0x1, R40). -/
  | unassignedMajor
  /-- The function code is unassigned in its major (check 0x2). -/
  | unassignedFunction
  /-- A field the instruction does not use is not zero, or a fixed field holds another value (check 0x4). -/
  | badField
  /-- Fewer than four bytes. -/
  | tooShort
  deriving DecidableEq, Repr

/-- The fields of a slot word (Table 2.1). -/
def fieldsOf (w : Word) : Fields :=
  ⟨w.extractLsb' 26 6, w.extractLsb' 20 6, w.extractLsb' 15 5, w.extractLsb' 10 5, w.extractLsb' 5 5, w.extractLsb' 0 5⟩

/-- The slot word of six fields (Table 2.1). -/
def packFields (F : Fields) : Word := F.trig ++ F.major ++ F.d ++ F.a ++ F.b ++ F.fn

/-- An instruction whose fixed fields hold what they must. -/
def fixedFields (ok : Bool) (i : Instr) : Except DecodeError Instr :=
  if ok then .ok i else .error .badField

/-- Major 0x00. -/
def decodeMajor00 (F : Fields) : Except DecodeError Instr :=
  match F.fn.toNat with
  | 1 => fixedFields (F.d == 0 && F.a == 0 && F.b == 0) (.nop F.trig)
  | 2 => fixedFields (F.d == 0 && F.b == 0) (.sete F.trig F.a)
  | 3 => fixedFields (F.d == 0 && F.b == 0) (.clre F.trig F.a)
  | _ => .error .unassignedFunction

/-- Major 0x01. -/
def decodeMajor01 (F : Fields) : Except DecodeError Instr :=
  match F.fn.toNat with
  | 1 => fixedFields (F.b == 0) (.fwd F.trig F.d F.a)
  | 2 => fixedFields (F.b == 0) (.fwdT F.trig F.d F.a)
  | 3 => fixedFields (F.d == 0 && F.b == 0) (.deq F.trig F.a)
  | 8 | 9 | 10 | 11 | 12 | 13 | 14 => .ok (.selQn F.trig F.d F.a F.b (F.fn.extractLsb' 0 3))
  | _ => .error .unassignedFunction

/-- Major 0x02. -/
def decodeMajor02 (F : Fields) : Except DecodeError Instr :=
  match F.fn.toNat with
  | 1 => fixedFields (F.b == 0) (.cfgsw F.trig F.d F.a)
  | 4 | 5 | 6 | 7 => fixedFields (F.a == 0 && F.b == 0) (.cfgswCc F.trig F.d (F.fn.extractLsb' 0 2))
  | _ => .error .unassignedFunction

/-- Major 0x03. -/
def decodeMajor03 (F : Fields) : Except DecodeError Instr :=
  match F.fn.toNat with
  | 1 => fixedFields (F.d == 0 && F.a == 0) (.ctok F.trig F.b)
  | 2 => fixedFields (F.d == 0 && F.a == 0) (.cwait F.trig F.b)
  | _ => .error .unassignedFunction

/-- Major 0x04. -/
def decodeMajor04 (F : Fields) : Except DecodeError Instr :=
  match F.fn.toNat with
  | 1 => fixedFields (F.b == 0) (.mov F.trig F.d F.a)
  | 2 => fixedFields (F.b == 0) (.movp F.trig F.d F.a)
  | 3 => fixedFields (F.a == 0 && F.b == 0) (.mvse F.trig F.d)
  | 4 => fixedFields (F.b == 0) (.mvsb F.trig F.d F.a)
  | _ => .error .unassignedFunction

/-- Major 0x05. -/
def decodeMajor05 (F : Fields) : Except DecodeError Instr :=
  fixedFields (F.a == 0) (.movi F.trig F.d (F.b ++ F.fn))

/-- Major 0x06. -/
def decodeMajor06 (F : Fields) : Except DecodeError Instr :=
  .ok (.movl F.trig F.d (F.a ++ F.b ++ F.fn))

/-- Major 0x07. -/
def decodeMajor07 (F : Fields) : Except DecodeError Instr :=
  match F.fn.toNat with
  | 1 => .ok (.add F.trig F.d F.a F.b)
  | 2 => .ok (.sub F.trig F.d F.a F.b)
  | 3 => .ok (.addsS32 F.trig F.d F.a F.b)
  | 4 => .ok (.addsN32 F.trig F.d F.a F.b)
  | 5 => .ok (.subsS32 F.trig F.d F.a F.b)
  | 6 => .ok (.subsN32 F.trig F.d F.a F.b)
  | 7 => .ok (.and F.trig F.d F.a F.b)
  | 8 => .ok (.or F.trig F.d F.a F.b)
  | 9 => .ok (.xor F.trig F.d F.a F.b)
  | 10 => .ok (.andn F.trig F.d F.a F.b)
  | 11 => .ok (.shl F.trig F.d F.a F.b)
  | 12 => .ok (.shr F.trig F.d F.a F.b)
  | 13 => .ok (.sra F.trig F.d F.a F.b)
  | 14 => .ok (.rotl F.trig F.d F.a F.b)
  | 15 => .ok (.minS32 F.trig F.d F.a F.b)
  | 16 => .ok (.minN32 F.trig F.d F.a F.b)
  | 17 => .ok (.maxS32 F.trig F.d F.a F.b)
  | 18 => .ok (.maxN32 F.trig F.d F.a F.b)
  | 19 => fixedFields (F.b == 0) (.absS32 F.trig F.d F.a)
  | 20 => fixedFields (F.b == 0) (.neg F.trig F.d F.a)
  | 21 => fixedFields (F.b == 0) (.not F.trig F.d F.a)
  | _ => .error .unassignedFunction

/-- Major 0x08. -/
def decodeMajor08 (F : Fields) : Except DecodeError Instr :=
  .ok (.addi F.trig F.d F.a (F.b ++ F.fn))

/-- Major 0x09. -/
def decodeMajor09 (F : Fields) : Except DecodeError Instr :=
  match F.fn.toNat with
  | 1 => .ok (.mul F.trig F.d F.a F.b)
  | 2 => .ok (.mulhS32 F.trig F.d F.a F.b)
  | 3 => .ok (.mulhN32 F.trig F.d F.a F.b)
  | 4 => .ok (.mulwS16 F.trig F.d F.a F.b)
  | 5 => .ok (.mulwN16 F.trig F.d F.a F.b)
  | _ => .error .unassignedFunction

/-- Major 0x0A. -/
def decodeMajor0A (F : Fields) : Except DecodeError Instr :=
  match F.fn.toNat with
  | 1 => .ok (.ceq F.trig F.d F.a F.b)
  | 2 => .ok (.cne F.trig F.d F.a F.b)
  | 3 => .ok (.cltS32 F.trig F.d F.a F.b)
  | 4 => .ok (.cleS32 F.trig F.d F.a F.b)
  | 5 => .ok (.cgtS32 F.trig F.d F.a F.b)
  | 6 => .ok (.cgeS32 F.trig F.d F.a F.b)
  | 7 => .ok (.cltN32 F.trig F.d F.a F.b)
  | 8 => .ok (.cleN32 F.trig F.d F.a F.b)
  | 9 => .ok (.cgtN32 F.trig F.d F.a F.b)
  | 10 => .ok (.cgeN32 F.trig F.d F.a F.b)
  | _ => .error .unassignedFunction

/-- Major 0x0B. -/
def decodeMajor0B (F : Fields) : Except DecodeError Instr :=
  .ok (.andi F.trig F.d F.a (F.b ++ F.fn))

/-- Major 0x0C. -/
def decodeMajor0C (F : Fields) : Except DecodeError Instr :=
  match F.fn.toNat with
  | 1 => .ok (.pand F.trig F.d F.a F.b)
  | 2 => .ok (.por F.trig F.d F.a F.b)
  | 3 => .ok (.pxor F.trig F.d F.a F.b)
  | 4 => .ok (.pandn F.trig F.d F.a F.b)
  | 5 => fixedFields (F.b == 0) (.pnot F.trig F.d F.a)
  | 6 => fixedFields (F.b == 0) (.pany F.trig F.d F.a)
  | 7 => fixedFields (F.b == 0) (.pall F.trig F.d F.a)
  | _ => .error .unassignedFunction

/-- Major 0x0D. -/
def decodeMajor0D (F : Fields) : Except DecodeError Instr :=
  match F.fn.toNat with
  | 1 => .ok (.bcast F.trig F.d F.a F.b)
  | 2 => .ok (.perm F.trig F.d F.a F.b)
  | 3 => .ok (.lrot F.trig F.d F.a F.b)
  | 4 => .ok (.lshd F.trig F.d F.a F.b)
  | 5 => fixedFields (F.b == 0) (.pack F.trig F.d F.a)
  | _ => .error .unassignedFunction

/-- Major 0x0E. -/
def decodeMajor0E (F : Fields) : Except DecodeError Instr :=
  match F.fn.toNat with
  | 1 => fixedFields (F.b == 0) (.cset F.trig F.d F.a)
  | 2 => fixedFields (F.a == 0) (.cstep F.trig F.d F.b)
  | 3 => fixedFields (F.a == 0 && F.b == 0) (.crd F.trig F.d)
  | _ => .error .unassignedFunction

/-- Major 0x0F. -/
def decodeMajor0F (F : Fields) : Except DecodeError Instr :=
  match F.fn.toNat with
  | 1 => fixedFields (F.b == 0) (.popc F.trig F.d F.a)
  | 2 => fixedFields (F.b == 0) (.clz F.trig F.d F.a)
  | 3 => fixedFields (F.b == 0) (.ctz F.trig F.d F.a)
  | 4 => fixedFields (F.b == 0) (.brev F.trig F.d F.a)
  | 5 => fixedFields (F.b == 0) (.bswap F.trig F.d F.a)
  | 6 => .ok (.bfxN32 F.trig F.d F.a F.b)
  | 7 => .ok (.bfxS32 F.trig F.d F.a F.b)
  | _ => .error .unassignedFunction

/-- Major 0x10. -/
def decodeMajor10 (F : Fields) : Except DecodeError Instr :=
  match F.fn.toNat with
  | 4 | 5 | 6 | 7 => .ok (.faddF32 F.trig F.d F.a F.b (F.fn.extractLsb' 0 2))
  | 8 | 9 | 10 | 11 => .ok (.fsubF32 F.trig F.d F.a F.b (F.fn.extractLsb' 0 2))
  | 12 | 13 | 14 | 15 => .ok (.fmulF32 F.trig F.d F.a F.b (F.fn.extractLsb' 0 2))
  | 16 | 17 | 18 | 19 => .ok (.fdivF32 F.trig F.d F.a F.b (F.fn.extractLsb' 0 2))
  | 20 | 21 | 22 | 23 => fixedFields (F.b == 0) (.fsqrtF32 F.trig F.d F.a (F.fn.extractLsb' 0 2))
  | _ => .error .unassignedFunction

/-- Major 0x11. -/
def decodeMajor11 (F : Fields) : Except DecodeError Instr :=
  match F.fn.toNat with
  | 4 | 5 | 6 | 7 => .ok (.ffmaF32 F.trig F.d F.a F.b (F.fn.extractLsb' 0 2))
  | 8 | 9 | 10 | 11 => .ok (.ffmsF32 F.trig F.d F.a F.b (F.fn.extractLsb' 0 2))
  | 12 | 13 | 14 | 15 => .ok (.ffnmaF32 F.trig F.d F.a F.b (F.fn.extractLsb' 0 2))
  | 16 | 17 | 18 | 19 => .ok (.ffnmsF32 F.trig F.d F.a F.b (F.fn.extractLsb' 0 2))
  | _ => .error .unassignedFunction

/-- Major 0x12. -/
def decodeMajor12 (F : Fields) : Except DecodeError Instr :=
  match F.fn.toNat with
  | 1 => .ok (.fminF32 F.trig F.d F.a F.b)
  | 2 => .ok (.fmaxF32 F.trig F.d F.a F.b)
  | 3 => fixedFields (F.b == 0) (.fabsF32 F.trig F.d F.a)
  | 4 => fixedFields (F.b == 0) (.fnegF32 F.trig F.d F.a)
  | 5 => .ok (.fsgnF32 F.trig F.d F.a F.b)
  | 6 => .ok (.fminBf16x2 F.trig F.d F.a F.b)
  | 7 => .ok (.fmaxBf16x2 F.trig F.d F.a F.b)
  | 8 => .ok (.fminF16x2 F.trig F.d F.a F.b)
  | 9 => .ok (.fmaxF16x2 F.trig F.d F.a F.b)
  | 10 => fixedFields (F.b == 0) (.fabsBf16x2 F.trig F.d F.a)
  | 11 => fixedFields (F.b == 0) (.fnegBf16x2 F.trig F.d F.a)
  | 12 => .ok (.fsgnBf16x2 F.trig F.d F.a F.b)
  | 13 => fixedFields (F.b == 0) (.fabsF16x2 F.trig F.d F.a)
  | 14 => fixedFields (F.b == 0) (.fnegF16x2 F.trig F.d F.a)
  | 15 => .ok (.fsgnF16x2 F.trig F.d F.a F.b)
  | _ => .error .unassignedFunction

/-- Major 0x13. -/
def decodeMajor13 (F : Fields) : Except DecodeError Instr :=
  match F.fn.toNat with
  | 4 | 5 | 6 | 7 => .ok (.faddBf16x2 F.trig F.d F.a F.b (F.fn.extractLsb' 0 2))
  | 8 | 9 | 10 | 11 => .ok (.fsubBf16x2 F.trig F.d F.a F.b (F.fn.extractLsb' 0 2))
  | 12 | 13 | 14 | 15 => .ok (.fmulBf16x2 F.trig F.d F.a F.b (F.fn.extractLsb' 0 2))
  | 16 | 17 | 18 | 19 => .ok (.ffmaBf16x2 F.trig F.d F.a F.b (F.fn.extractLsb' 0 2))
  | _ => .error .unassignedFunction

/-- Major 0x14. -/
def decodeMajor14 (F : Fields) : Except DecodeError Instr :=
  match F.fn.toNat with
  | 4 | 5 | 6 | 7 => .ok (.faddF16x2 F.trig F.d F.a F.b (F.fn.extractLsb' 0 2))
  | 8 | 9 | 10 | 11 => .ok (.fsubF16x2 F.trig F.d F.a F.b (F.fn.extractLsb' 0 2))
  | 12 | 13 | 14 | 15 => .ok (.fmulF16x2 F.trig F.d F.a F.b (F.fn.extractLsb' 0 2))
  | 16 | 17 | 18 | 19 => .ok (.ffmaF16x2 F.trig F.d F.a F.b (F.fn.extractLsb' 0 2))
  | _ => .error .unassignedFunction

/-- Major 0x15. -/
def decodeMajor15 (F : Fields) : Except DecodeError Instr :=
  match F.fn.toNat with
  | 4 | 5 | 6 | 7 => .ok (.fdot2Bf16 F.trig F.d F.a F.b (F.fn.extractLsb' 0 2))
  | 8 | 9 | 10 | 11 => .ok (.fdot2F16 F.trig F.d F.a F.b (F.fn.extractLsb' 0 2))
  | 12 | 13 | 14 | 15 => .ok (.fdot4E4m3 F.trig F.d F.a F.b (F.fn.extractLsb' 0 2))
  | 16 | 17 | 18 | 19 => .ok (.fdot4E5m2 F.trig F.d F.a F.b (F.fn.extractLsb' 0 2))
  | 20 => .ok (.idot4S8 F.trig F.d F.a F.b)
  | 21 => .ok (.idot4N8 F.trig F.d F.a F.b)
  | _ => .error .unassignedFunction

/-- Major 0x16. -/
def decodeMajor16 (F : Fields) : Except DecodeError Instr :=
  match F.fn.toNat with
  | 1 => .ok (.fceqF32 F.trig F.d F.a F.b)
  | 2 => .ok (.fcneF32 F.trig F.d F.a F.b)
  | 3 => .ok (.fcltF32 F.trig F.d F.a F.b)
  | 4 => .ok (.fcleF32 F.trig F.d F.a F.b)
  | 5 => .ok (.fcgtF32 F.trig F.d F.a F.b)
  | 6 => .ok (.fcgeF32 F.trig F.d F.a F.b)
  | 7 => .ok (.fcunF32 F.trig F.d F.a F.b)
  | _ => .error .unassignedFunction

/-- Major 0x17. -/
def decodeMajor17 (F : Fields) : Except DecodeError Instr :=
  match F.fn.toNat with
  | 1 => fixedFields (F.b == 0) (.fclassF32 F.trig F.d F.a)
  | 2 => fixedFields (F.b == 0) (.fclassBf16x2 F.trig F.d F.a)
  | 3 => fixedFields (F.b == 0) (.fclassF16x2 F.trig F.d F.a)
  | 4 => .ok (.ftestF32 F.trig F.d F.a F.b)
  | _ => .error .unassignedFunction

/-- Major 0x18. -/
def decodeMajor18 (F : Fields) : Except DecodeError Instr :=
  match F.fn.toNat with
  | 1 => .ok (.cvtF32Bf16 F.trig F.d F.a F.b)
  | 2 => .ok (.cvtF32F16 F.trig F.d F.a F.b)
  | 4 | 5 | 6 | 7 => .ok (.cvtBf16x2F32 F.trig F.d F.a F.b (F.fn.extractLsb' 0 2))
  | 8 | 9 | 10 | 11 => .ok (.cvtF16x2F32 F.trig F.d F.a F.b (F.fn.extractLsb' 0 2))
  | 12 | 13 | 14 | 15 => fixedFields (F.b == 0) (.cvtBf16x2F16x2 F.trig F.d F.a (F.fn.extractLsb' 0 2))
  | 16 | 17 | 18 | 19 => fixedFields (F.b == 0) (.cvtF16x2Bf16x2 F.trig F.d F.a (F.fn.extractLsb' 0 2))
  | _ => .error .unassignedFunction

/-- Major 0x19. -/
def decodeMajor19 (F : Fields) : Except DecodeError Instr :=
  match F.fn.toNat with
  | 4 | 5 | 6 | 7 => fixedFields (F.b == 0) (.cvtS32F32 F.trig F.d F.a (F.fn.extractLsb' 0 2))
  | 8 | 9 | 10 | 11 => fixedFields (F.b == 0) (.cvtN32F32 F.trig F.d F.a (F.fn.extractLsb' 0 2))
  | 12 | 13 | 14 | 15 => fixedFields (F.b == 0) (.cvtF32S32 F.trig F.d F.a (F.fn.extractLsb' 0 2))
  | 16 | 17 | 18 | 19 => fixedFields (F.b == 0) (.cvtF32N32 F.trig F.d F.a (F.fn.extractLsb' 0 2))
  | _ => .error .unassignedFunction

/-- Major 0x1A. -/
def decodeMajor1A (F : Fields) : Except DecodeError Instr :=
  match F.fn.toNat with
  | 1 => .ok (.cvtStochBf16x2F32 F.trig F.d F.a F.b)
  | 2 => .ok (.cvtStochF16x2F32 F.trig F.d F.a F.b)
  | 3 => .ok (.cvtStochE4m3x2F32 F.trig F.d F.a F.b)
  | 4 => .ok (.cvtStochE5m2x2F32 F.trig F.d F.a F.b)
  | _ => .error .unassignedFunction

/-- Major 0x1B. -/
noncomputable def decodeMajor1B (F : Fields) : Except DecodeError Instr :=
  match F.fn.toNat with
  | 1 => fixedFields (F.b == 0) (.mxscE4m3 F.trig F.d F.a)
  | 2 => fixedFields (F.b == 0) (.mxscE5m2 F.trig F.d F.a)
  | 3 => fixedFields (F.b == 0) (.mxscE3m2 F.trig F.d F.a)
  | 4 => fixedFields (F.b == 0) (.mxscE2m3 F.trig F.d F.a)
  | 5 => fixedFields (F.b == 0) (.mxscE2m1 F.trig F.d F.a)
  | 6 => .ok (.mxdqE4m3 F.trig F.d F.a F.b)
  | 7 => .ok (.mxdqE5m2 F.trig F.d F.a F.b)
  | 8 => .ok (.mxdqE3m2 F.trig F.d F.a F.b)
  | 9 => .ok (.mxdqE2m3 F.trig F.d F.a F.b)
  | 10 => .ok (.mxdqE2m1 F.trig F.d F.a F.b)
  | 12 | 13 | 14 | 15 => .ok (.mxqE4m3 F.trig F.d F.a F.b (F.fn.extractLsb' 0 2))
  | 16 | 17 | 18 | 19 => .ok (.mxqE5m2 F.trig F.d F.a F.b (F.fn.extractLsb' 0 2))
  | 20 | 21 | 22 | 23 => .ok (.mxqE3m2 F.trig F.d F.a F.b (F.fn.extractLsb' 0 2))
  | 24 | 25 | 26 | 27 => .ok (.mxqE2m3 F.trig F.d F.a F.b (F.fn.extractLsb' 0 2))
  | 28 | 29 | 30 | 31 => .ok (.mxqE2m1 F.trig F.d F.a F.b (F.fn.extractLsb' 0 2))
  | _ => .error .unassignedFunction

/-- Major 0x1C. -/
noncomputable def decodeMajor1C (F : Fields) : Except DecodeError Instr :=
  match F.fn.toNat with
  | 1 => fixedFields (F.b == 0) (.frcpF32 F.trig F.d F.a)
  | 2 => fixedFields (F.b == 0) (.frsqrtF32 F.trig F.d F.a)
  | 3 => fixedFields (F.b == 0) (.fexp2F32 F.trig F.d F.a)
  | 4 => fixedFields (F.b == 0) (.fexpF32 F.trig F.d F.a)
  | 5 => fixedFields (F.b == 0) (.flog2F32 F.trig F.d F.a)
  | 6 => fixedFields (F.b == 0) (.fsinpiF32 F.trig F.d F.a)
  | 7 => fixedFields (F.b == 0) (.fcospiF32 F.trig F.d F.a)
  | 8 => fixedFields (F.b == 0) (.ftanhF32 F.trig F.d F.a)
  | 9 => fixedFields (F.b == 0) (.fsigF32 F.trig F.d F.a)
  | _ => .error .unassignedFunction

/-- Major 0x1D. -/
noncomputable def decodeMajor1D (F : Fields) : Except DecodeError Instr :=
  match F.fn.toNat with
  | 1 => fixedFields (F.b == 0) (.frmaxF32 F.trig F.d F.a)
  | 2 => fixedFields (F.b == 0) (.frminF32 F.trig F.d F.a)
  | 3 => fixedFields (F.b == 0) (.frmaxaF32 F.trig F.d F.a)
  | 4 | 5 | 6 | 7 => fixedFields (F.b == 0) (.fraddF32 F.trig F.d F.a (F.fn.extractLsb' 0 2))
  | _ => .error .unassignedFunction

/-- Major 0x1E. -/
noncomputable def decodeMajor1E (F : Fields) : Except DecodeError Instr :=
  match F.fn.toNat with
  | 1 => fixedFields (F.b == 0) (.iradd F.trig F.d F.a)
  | 2 => fixedFields (F.b == 0) (.iraddsS32 F.trig F.d F.a)
  | 3 => fixedFields (F.b == 0) (.iraddsN32 F.trig F.d F.a)
  | 4 => fixedFields (F.b == 0) (.irminS32 F.trig F.d F.a)
  | 5 => fixedFields (F.b == 0) (.irmaxS32 F.trig F.d F.a)
  | 6 => fixedFields (F.b == 0) (.irminN32 F.trig F.d F.a)
  | 7 => fixedFields (F.b == 0) (.irmaxN32 F.trig F.d F.a)
  | 8 => fixedFields (F.b == 0) (.irand F.trig F.d F.a)
  | 9 => fixedFields (F.b == 0) (.iror F.trig F.d F.a)
  | 10 => fixedFields (F.b == 0) (.irxor F.trig F.d F.a)
  | 11 => fixedFields (F.b == 0) (.ircnt F.trig F.d F.a)
  | _ => .error .unassignedFunction

/-- Major 0x1F. -/
noncomputable def decodeMajor1F (F : Fields) : Except DecodeError Instr :=
  match F.fn.toNat with
  | 1 => fixedFields (F.b == 0) (.fgetexpF32 F.trig F.d F.a)
  | 2 => fixedFields (F.b == 0) (.fmantF32 F.trig F.d F.a)
  | 3 => fixedFields (F.a == 0 && F.b == 0) (.rdflg F.trig F.d)
  | 4 | 5 | 6 | 7 => .ok (.fsclF32 F.trig F.d F.a F.b (F.fn.extractLsb' 0 2))
  | 8 => fixedFields (F.d == 0 && F.b == 0) (.clrflg F.trig F.a)
  | _ => .error .unassignedFunction

/-- Major 0x20. -/
noncomputable def decodeMajor20 (F : Fields) : Except DecodeError Instr :=
  match F.fn.toNat with
  | 1 | 2 | 3 | 4 | 5 | 9 | 10 | 11 | 12 | 13 => .ok (.ld F.trig F.d F.a F.b (F.fn.extractLsb' 3 1) (F.fn.extractLsb' 0 3))
  | 16 | 17 => .ok (.ldv F.trig F.d F.a F.b (F.fn.extractLsb' 0 1))
  | _ => .error .unassignedFunction

/-- Major 0x21. -/
noncomputable def decodeMajor21 (F : Fields) : Except DecodeError Instr :=
  match F.fn.toNat with
  | 1 | 3 | 5 | 9 | 11 | 13 => fixedFields (F.d == 0) (.st F.trig F.a F.b (F.fn.extractLsb' 3 1) (F.fn.extractLsb' 0 3))
  | 16 | 17 => fixedFields (F.d == 0) (.stv F.trig F.a F.b (F.fn.extractLsb' 0 1))
  | _ => .error .unassignedFunction

/-- Major 0x22. -/
noncomputable def decodeMajor22 (F : Fields) : Except DecodeError Instr :=
  match F.fn.toNat with
  | 1 | 2 | 3 | 4 | 5 => .ok (.ldg F.trig F.d F.a F.b (F.fn.extractLsb' 0 3))
  | 16 => .ok (.ldgV F.trig F.d F.a F.b)
  | _ => .error .unassignedFunction

/-- Major 0x23. -/
noncomputable def decodeMajor23 (F : Fields) : Except DecodeError Instr :=
  match F.fn.toNat with
  | 1 | 3 | 5 => fixedFields (F.d == 0) (.stg F.trig F.a F.b (F.fn.extractLsb' 0 3))
  | _ => .error .unassignedFunction

/-- Major 0x24: the function is 1 + 16f + 8s + c, and c is the scope (R99). -/
noncomputable def decodeMajor24 (F : Fields) : Except DecodeError Instr :=
  match F.fn.toNat with
  | 1 | 2 | 3 | 4 | 5 | 6 | 9 | 10 | 11 | 12 | 13 | 14 => .ok (.ldf F.trig F.d F.a F.b (F.fn.extractLsb' 3 1) (F.fn.extractLsb' 0 3 - 1))
  | 17 | 18 | 19 | 20 | 21 | 22 | 25 | 26 | 27 | 28 | 29 | 30 => fixedFields (F.d == 0) (.stf F.trig F.a F.b (F.fn.extractLsb' 3 1) (F.fn.extractLsb' 0 3 - 1))
  | _ => .error .unassignedFunction

/-- Major 0x25. -/
noncomputable def decodeMajor25 (F : Fields) : Except DecodeError Instr :=
  match F.fn.toNat with
  | 1 => fixedFields (F.d == 0) (.touchX F.trig F.a F.b)
  | 2 => fixedFields (F.d == 0) (.touchM F.trig F.a F.b)
  | 3 => fixedFields (F.d == 0) (.touchG F.trig F.a F.b)
  | _ => .error .unassignedFunction

/-- Major 0x26. -/
noncomputable def decodeMajor26 (F : Fields) : Except DecodeError Instr :=
  match F.fn.toNat with
  | 1 => .ok (.aaddX F.trig F.d F.a F.b)
  | 2 => .ok (.aaddM F.trig F.d F.a F.b)
  | 3 => .ok (.aaddG F.trig F.d F.a F.b)
  | 4 => .ok (.aminS32X F.trig F.d F.a F.b)
  | 5 => .ok (.aminS32M F.trig F.d F.a F.b)
  | 6 => .ok (.aminS32G F.trig F.d F.a F.b)
  | 7 => .ok (.aminN32X F.trig F.d F.a F.b)
  | 8 => .ok (.aminN32M F.trig F.d F.a F.b)
  | 9 => .ok (.aminN32G F.trig F.d F.a F.b)
  | 10 => .ok (.amaxS32X F.trig F.d F.a F.b)
  | 11 => .ok (.amaxS32M F.trig F.d F.a F.b)
  | 12 => .ok (.amaxS32G F.trig F.d F.a F.b)
  | 13 => .ok (.amaxN32X F.trig F.d F.a F.b)
  | 14 => .ok (.amaxN32M F.trig F.d F.a F.b)
  | 15 => .ok (.amaxN32G F.trig F.d F.a F.b)
  | 16 => .ok (.aandX F.trig F.d F.a F.b)
  | 17 => .ok (.aandM F.trig F.d F.a F.b)
  | 18 => .ok (.aandG F.trig F.d F.a F.b)
  | 19 => .ok (.aorX F.trig F.d F.a F.b)
  | 20 => .ok (.aorM F.trig F.d F.a F.b)
  | 21 => .ok (.aorG F.trig F.d F.a F.b)
  | 22 => .ok (.axorX F.trig F.d F.a F.b)
  | 23 => .ok (.axorM F.trig F.d F.a F.b)
  | 24 => .ok (.axorG F.trig F.d F.a F.b)
  | 25 => .ok (.afaddX F.trig F.d F.a F.b)
  | 26 => .ok (.afaddM F.trig F.d F.a F.b)
  | 27 => .ok (.afaddG F.trig F.d F.a F.b)
  | _ => .error .unassignedFunction

/-- Major 0x27. -/
noncomputable def decodeMajor27 (F : Fields) : Except DecodeError Instr :=
  match F.fn.toNat with
  | 1 => .ok (.axchX F.trig F.d F.a F.b)
  | 2 => .ok (.axchM F.trig F.d F.a F.b)
  | 3 => .ok (.axchG F.trig F.d F.a F.b)
  | 4 => .ok (.acasX F.trig F.d F.a F.b)
  | 5 => .ok (.acasM F.trig F.d F.a F.b)
  | 6 => .ok (.acasG F.trig F.d F.a F.b)
  | _ => .error .unassignedFunction

/-- Major 0x28. -/
noncomputable def decodeMajor28 (F : Fields) : Except DecodeError Instr :=
  match F.fn.toNat with
  | 1 => fixedFields (F.a == 0) (.falloc F.trig F.d F.b)
  | 2 => fixedFields (F.d == 30) (.fput F.trig F.a F.b)
  | 3 => fixedFields (F.d == 0 && F.b == 0) (.ffree F.trig F.a)
  | _ => .error .unassignedFunction

/-- Major 0x29. -/
noncomputable def decodeMajor29 (F : Fields) : Except DecodeError Instr :=
  match F.fn.toNat with
  | 1 => fixedFields (F.d == 0 && F.a == 0 && F.b == 0) (.otokFork F.trig)
  | 2 => fixedFields (F.d == 0 && F.a == 0 && F.b == 0) (.otokJoin F.trig)
  | 8 | 9 | 10 | 11 | 12 | 13 => fixedFields (F.d == 0 && F.a == 0 && F.b == 0) (.fence F.trig (F.fn.extractLsb' 0 3))
  | _ => .error .unassignedFunction

/-- Major 0x2A. -/
noncomputable def decodeMajor2A (F : Fields) : Except DecodeError Instr :=
  match F.fn.toNat with
  | 1 => .ok (.arvX F.trig F.d F.a F.b)
  | 2 => .ok (.arvM F.trig F.d F.a F.b)
  | 3 => .ok (.arvG F.trig F.d F.a F.b)
  | 5 => .ok (.awtX F.trig F.d F.a F.b)
  | 6 => .ok (.awtM F.trig F.d F.a F.b)
  | 7 => .ok (.awtG F.trig F.d F.a F.b)
  | 9 => .ok (.arwX F.trig F.d F.a F.b)
  | 10 => .ok (.arwM F.trig F.d F.a F.b)
  | 11 => .ok (.arwG F.trig F.d F.a F.b)
  | _ => .error .unassignedFunction

/-- Major 0x2B. -/
noncomputable def decodeMajor2B (F : Fields) : Except DecodeError Instr :=
  match F.fn.toNat with
  | 1 => fixedFields (F.d == 0 && F.b == 0) (.ioread F.trig F.a)
  | 2 => fixedFields (F.b == 0) (.iowaitX F.trig F.d F.a)
  | 3 => fixedFields (F.b == 0) (.iowaitM F.trig F.d F.a)
  | _ => .error .unassignedFunction

/-- Major 0x2C. -/
noncomputable def decodeMajor2C (F : Fields) : Except DecodeError Instr :=
  match F.fn.toNat with
  | 1 => fixedFields (F.d == 0) (.scfg F.trig F.a F.b)
  | 2 => fixedFields (F.d == 0) (.sbind F.trig F.a F.b)
  | 3 => fixedFields (F.d == 0) (.sgo F.trig F.a F.b)
  | 4 => fixedFields (F.d == 0 && F.a == 0) (.sstop F.trig F.b)
  | _ => .error .unassignedFunction

/-- Major 0x2D. -/
noncomputable def decodeMajor2D (F : Fields) : Except DecodeError Instr :=
  match F.fn.toNat with
  | 1 => fixedFields (F.d == 0) (.cpy F.trig F.a F.b)
  | _ => .error .unassignedFunction

/-- Major 0x2E. -/
noncomputable def decodeMajor2E (F : Fields) : Except DecodeError Instr :=
  match F.fn.toNat with
  | 1 => fixedFields (F.b == 0) (.sbwait F.trig F.d F.a)
  | 2 => fixedFields (F.a == 0 && F.b == 0) (.sbtest F.trig F.d)
  | _ => .error .unassignedFunction

/-- Major 0x2F. -/
noncomputable def decodeMajor2F (F : Fields) : Except DecodeError Instr :=
  match F.fn.toNat with
  | 1 => .ok (.gsendEnt0 F.trig F.d F.a F.b)
  | 2 => .ok (.gsendEnt1 F.trig F.d F.a F.b)
  | 3 => .ok (.gsendEnt2 F.trig F.d F.a F.b)
  | 4 => .ok (.gsendEnt3 F.trig F.d F.a F.b)
  | 5 => fixedFields (F.d == 0) (.rmwcfg F.trig F.a F.b)
  | _ => .error .unassignedFunction

/-- Major 0x30. -/
noncomputable def decodeMajor30 (F : Fields) : Except DecodeError Instr :=
  match F.fn.toNat with
  | 1 | 2 | 3 | 4 | 5 | 6 | 7 | 8 | 9 | 10 | 11 =>
    match F.d.toNat with
    | 0 | 1 => .ok (.mma F.trig (F.d.extractLsb' 0 1) F.a F.b F.fn)
    | 2 | 3 => .ok (.mmam F.trig (F.d.extractLsb' 0 1) F.a F.b F.fn)
    | 4 | 5 => .ok (.mmas F.trig (F.d.extractLsb' 0 1) F.a F.b F.fn)
    | _ => .error .badField
  | _ => .error .unassignedFunction

/-- Major 0x31. -/
noncomputable def decodeMajor31 (F : Fields) : Except DecodeError Instr :=
  match F.fn.toNat with
  | 1 => fixedFields (F.d ≤ 1 && F.a == 0 && F.b == 0) (.maclClr F.trig (F.d.extractLsb' 0 1))
  | 2 => fixedFields (F.d ≤ 1 && F.b == 0) (.maclLd F.trig (F.d.extractLsb' 0 1) F.a)
  | 3 => fixedFields (F.d == 0 && F.b == 0) (.mld F.trig F.a)
  | _ => .error .unassignedFunction

/-- Major 0x32. -/
noncomputable def decodeMajor32 (F : Fields) : Except DecodeError Instr :=
  match F.fn.toNat with
  | 1 => fixedFields (F.d ≤ 1 && F.b == 0) (.mdrnF32 F.trig (F.d.extractLsb' 0 1) F.a)
  | 4 | 5 | 6 | 7 => fixedFields (F.d ≤ 1 && F.b == 0) (.mdrnBf16 F.trig (F.d.extractLsb' 0 1) F.a (F.fn.extractLsb' 0 2))
  | 8 | 9 | 10 | 11 => fixedFields (F.d ≤ 1 && F.b == 0) (.mdrnF16 F.trig (F.d.extractLsb' 0 1) F.a (F.fn.extractLsb' 0 2))
  | _ => .error .unassignedFunction

/-- Major 0x33. -/
noncomputable def decodeMajor33 (F : Fields) : Except DecodeError Instr :=
  match F.fn.toNat with
  | 1 => fixedFields (F.d ≤ 1 && F.b == 0) (.mchk F.trig (F.d.extractLsb' 0 1) F.a)
  | 2 => fixedFields (F.d ≤ 1 && F.b == 0) (.prune F.trig (F.d.extractLsb' 0 1) F.a)
  | _ => .error .unassignedFunction

/-- Major 0x36. -/
noncomputable def decodeMajor36 (F : Fields) : Except DecodeError Instr :=
  match F.fn.toNat with
  | 1 => fixedFields (F.d == 0 && F.b == 0) (.launch F.trig F.a)
  | 2 => fixedFields (F.a == 0 && F.b == 0) (.ptask F.trig F.d)
  | 3 => fixedFields (F.d == 0 && F.b == 0) (.tdone F.trig F.a)
  | 4 => fixedFields (F.d == 0 && F.b == 0) (.yieldFX F.trig F.a)
  | 5 => fixedFields (F.d == 0 && F.b == 0) (.yieldFM F.trig F.a)
  | 6 => fixedFields (F.d == 0 && F.b == 0) (.yieldSb F.trig F.a)
  | 7 => fixedFields (F.d == 0 && F.a == 0 && F.b == 0) (.yieldRel F.trig)
  | _ => .error .unassignedFunction

/-- Major 0x37. -/
noncomputable def decodeMajor37 (F : Fields) : Except DecodeError Instr :=
  match F.fn.toNat with
  | 1 => fixedFields (F.d == 0 && F.b == 0) (.tagset F.trig F.a)
  | 2 => fixedFields (F.d == 0 && F.b == 0) (.tagsetReq F.trig F.a)
  | 3 => fixedFields (F.d == 0 && F.b == 0) (.tagsetIter F.trig F.a)
  | 4 => fixedFields (F.b == 0) (.rset F.trig F.d F.a)
  | 5 => fixedFields (F.b == 0) (.rget F.trig F.d F.a)
  | 6 => fixedFields (F.d == 0 && F.b == 0) (.rfree F.trig F.a)
  | _ => .error .unassignedFunction

/-- Major 0x38. -/
noncomputable def decodeMajor38 (F : Fields) : Except DecodeError Instr :=
  match F.fn.toNat with
  | 1 => fixedFields (F.b == 0) (.sealR F.trig F.d F.a)
  | 2 => fixedFields (F.d == 0 && F.b == 0) (.unsealR F.trig F.a)
  | _ => .error .unassignedFunction

/-- Major 0x39. -/
noncomputable def decodeMajor39 (F : Fields) : Except DecodeError Instr :=
  match F.fn.toNat with
  | 1 => fixedFields (F.d == 0 && F.b == 0) (.trap F.trig F.a)
  | 2 => fixedFields (F.d == 0 && F.a == 0 && F.b == 0) (.hret F.trig)
  | 3 => fixedFields (F.d == 0 && F.a == 0 && F.b == 0) (.hretDrop F.trig)
  | 4 => fixedFields (F.d == 0 && F.a == 0 && F.b == 0) (.hretEnd F.trig)
  | _ => .error .unassignedFunction

/-- Major 0x3A. -/
noncomputable def decodeMajor3A (F : Fields) : Except DecodeError Instr :=
  match F.fn.toNat with
  | 1 => fixedFields (F.d ≤ 1) (.scout F.trig (F.d.extractLsb' 0 1) F.a F.b)
  | 2 => fixedFields (F.b ≤ 1) (.threshAbs F.trig F.d F.a (F.b.extractLsb' 0 1))
  | 3 => fixedFields (F.b ≤ 1) (.threshTop F.trig F.d F.a (F.b.extractLsb' 0 1))
  | _ => .error .unassignedFunction

/-- Major 0x3B. -/
noncomputable def decodeMajor3B (F : Fields) : Except DecodeError Instr :=
  match F.fn.toNat with
  | 1 => fixedFields (F.d == 0) (.pgsel F.trig F.a F.b)
  | _ => .error .unassignedFunction

/-- Major 0x3C. -/
noncomputable def decodeMajor3C (F : Fields) : Except DecodeError Instr :=
  match F.fn.toNat with
  | 1 => fixedFields (F.b == 0) (.hrow F.trig F.d F.a)
  | 2 => .ok (.hins F.trig F.d F.a F.b)
  | 3 => fixedFields (F.b == 0) (.hspill F.trig F.d F.a)
  | _ => .error .unassignedFunction

/-- Major 0x3D. -/
noncomputable def decodeMajor3D (F : Fields) : Except DecodeError Instr :=
  match F.fn.toNat with
  | 1 => fixedFields (F.a == 0 && F.b == 0) (.qprobe F.trig F.d)
  | 2 => fixedFields (F.a == 0 && F.b == 0) (.qprobeClr F.trig F.d)
  | 3 => fixedFields (F.d == 0 && F.b == 0) (.monCfg F.trig F.a)
  | 4 => fixedFields (F.d == 0 && F.b == 0) (.monMark F.trig F.a)
  | _ => .error .unassignedFunction

/-- The instruction that six fields give, by their major (Table 2.5). -/
noncomputable def decodeFields (F : Fields) : Except DecodeError Instr :=
  match F.major.toNat with
  | 0x00 => decodeMajor00 F
  | 0x01 => decodeMajor01 F
  | 0x02 => decodeMajor02 F
  | 0x03 => decodeMajor03 F
  | 0x04 => decodeMajor04 F
  | 0x05 => decodeMajor05 F
  | 0x06 => decodeMajor06 F
  | 0x07 => decodeMajor07 F
  | 0x08 => decodeMajor08 F
  | 0x09 => decodeMajor09 F
  | 0x0A => decodeMajor0A F
  | 0x0B => decodeMajor0B F
  | 0x0C => decodeMajor0C F
  | 0x0D => decodeMajor0D F
  | 0x0E => decodeMajor0E F
  | 0x0F => decodeMajor0F F
  | 0x10 => decodeMajor10 F
  | 0x11 => decodeMajor11 F
  | 0x12 => decodeMajor12 F
  | 0x13 => decodeMajor13 F
  | 0x14 => decodeMajor14 F
  | 0x15 => decodeMajor15 F
  | 0x16 => decodeMajor16 F
  | 0x17 => decodeMajor17 F
  | 0x18 => decodeMajor18 F
  | 0x19 => decodeMajor19 F
  | 0x1A => decodeMajor1A F
  | 0x1B => decodeMajor1B F
  | 0x1C => decodeMajor1C F
  | 0x1D => decodeMajor1D F
  | 0x1E => decodeMajor1E F
  | 0x1F => decodeMajor1F F
  | 0x20 => decodeMajor20 F
  | 0x21 => decodeMajor21 F
  | 0x22 => decodeMajor22 F
  | 0x23 => decodeMajor23 F
  | 0x24 => decodeMajor24 F
  | 0x25 => decodeMajor25 F
  | 0x26 => decodeMajor26 F
  | 0x27 => decodeMajor27 F
  | 0x28 => decodeMajor28 F
  | 0x29 => decodeMajor29 F
  | 0x2A => decodeMajor2A F
  | 0x2B => decodeMajor2B F
  | 0x2C => decodeMajor2C F
  | 0x2D => decodeMajor2D F
  | 0x2E => decodeMajor2E F
  | 0x2F => decodeMajor2F F
  | 0x30 => decodeMajor30 F
  | 0x31 => decodeMajor31 F
  | 0x32 => decodeMajor32 F
  | 0x33 => decodeMajor33 F
  | 0x36 => decodeMajor36 F
  | 0x37 => decodeMajor37 F
  | 0x38 => decodeMajor38 F
  | 0x39 => decodeMajor39 F
  | 0x3A => decodeMajor3A F
  | 0x3B => decodeMajor3B F
  | 0x3C => decodeMajor3C F
  | 0x3D => decodeMajor3D F
  | _ => .error .unassignedMajor

/-- The instruction of a slot word. A word with major 0x00 and function 0 is the empty slot or an
undefined encoding (R30). -/
noncomputable def decode (w : Word) : Except DecodeError Instr :=
  if w == 0 then .error .emptySlot
  else if (fieldsOf w).major == 0 && (fieldsOf w).fn == 0 then .error .unassignedMajor
  else decodeFields (fieldsOf w)

/-- The word of four bytes, the lowest-addressed byte first (R5). -/
def wordOfBytes (b0 b1 b2 b3 : Byte) : Word := b3 ++ b2 ++ b1 ++ b0

/-- The first instruction of a list of bytes, and the rest of the list. -/
noncomputable def decodeBytes (bs : List Byte) : Except DecodeError (Instr × List Byte) :=
  match bs with
  | b0 :: b1 :: b2 :: b3 :: rest => (decode (wordOfBytes b0 b1 b2 b3)).map fun i => (i, rest)
  | _ => .error .tooShort

/-- The decoder on a word given as a number, as the opcode table numbers its bits. Every slot word is
32 bits, so the bits above `nbits` are zero. -/
noncomputable def decodeTableWord (nbits w : Nat) : Option Instr :=
  match decode (BitVec.ofNat 32 (w % 2 ^ nbits)) with
  | .ok i => some i
  | .error _ => none

/-- The slot word of an instruction; a whole step of another agent has no word. -/
def encode (i : Instr) : Option Word := i.form.map fun f => packFields f.fields

end Sys2Proof
end

