-- ==== Sys2Proof/Machine/FormTable.lean ====
section
/-!
DEFINITION. The forms by major and function code: what the loader's checks (Table 2.6) and the spill offers read of a slot word,
without its instruction.
-/

namespace Sys2Proof

/-- What a word's major and function code fix of its form. -/
structure FormRow where
  fns : List Nat
  dS : OpSet
  aS : OpSet
  bS : OpSet
  kinds : List Kind
  path : Path
  readsD : Bool
  intake : Bool
  deriving DecidableEq, Repr

/-- Major 0x00. -/
def formRows00 : List FormRow := [
  ⟨[1], .zero, .zero, .zero, [.v, .s, .a, .m], .none, false, false⟩,
  ⟨[2, 3], .zero, .s, .zero, [.v, .s, .a, .m], .none, false, false⟩]

/-- Major 0x01. -/
def formRows01 : List FormRow := [
  ⟨[1, 2], .dq, .sp, .zero, [.v, .s, .a, .m], .none, false, false⟩,
  ⟨[3], .zero, .sp, .zero, [.v, .s, .a, .m], .none, false, false⟩,
  ⟨[8, 9, 10, 11, 12, 13, 14], .d, .s, .s, [.v, .s, .a, .m], .none, false, false⟩]

/-- Major 0x02. -/
def formRows02 : List FormRow := [
  ⟨[1], .dp, .s, .zero, [.v, .s, .a, .m], .none, false, false⟩,
  ⟨[4, 5, 6, 7], .dp, .zero, .zero, [.v, .s, .a, .m], .none, false, false⟩]

/-- Major 0x03. -/
def formRows03 : List FormRow := [
  ⟨[1, 2], .zero, .zero, .lit4, [.v, .s, .a, .m], .none, false, false⟩]

/-- Major 0x04. -/
def formRows04 : List FormRow := [
  ⟨[1], .d, .s, .zero, [.v, .s, .a, .m], .none, false, false⟩,
  ⟨[2], .dr, .p, .zero, [.v, .s, .a, .m], .none, false, false⟩,
  ⟨[3], .dr, .zero, .zero, [.v, .s, .a, .m], .none, false, false⟩,
  ⟨[4], .dr, .sq, .zero, [.v, .s, .a, .m], .none, false, false⟩]

/-- Major 0x05. -/
def formRows05 : List FormRow := [
  ⟨[0, 1, 2, 3, 4, 5, 6, 7, 8, 9, 10, 11, 12, 13, 14, 15, 16, 17, 18, 19, 20, 21, 22, 23, 24, 25, 26, 27, 28, 29, 30, 31], .d, .zero, .imm, [.v, .s, .a, .m], .none, false, false⟩]

/-- Major 0x06. -/
def formRows06 : List FormRow := [
  ⟨[0, 1, 2, 3, 4, 5, 6, 7, 8, 9, 10, 11, 12, 13, 14, 15, 16, 17, 18, 19, 20, 21, 22, 23, 24, 25, 26, 27, 28, 29, 30, 31], .d, .imm, .imm, [.v, .s, .a, .m], .none, false, false⟩]

/-- Major 0x07. -/
def formRows07 : List FormRow := [
  ⟨[1, 2, 3, 4, 5, 6, 7, 8, 9, 10, 11, 12, 13, 14, 15, 16, 17, 18], .d, .s, .s, [.v, .s, .a], .none, false, false⟩,
  ⟨[19, 20, 21], .d, .s, .zero, [.v, .s, .a], .none, false, false⟩]

/-- Major 0x08. -/
def formRows08 : List FormRow := [
  ⟨[0, 1, 2, 3, 4, 5, 6, 7, 8, 9, 10, 11, 12, 13, 14, 15, 16, 17, 18, 19, 20, 21, 22, 23, 24, 25, 26, 27, 28, 29, 30, 31], .d, .s, .imm, [.v, .s, .a], .none, false, false⟩]

/-- Major 0x09. -/
def formRows09 : List FormRow := [
  ⟨[1, 2, 3, 4, 5], .d, .s, .s, [.v, .a], .none, false, false⟩]

/-- Major 0x0A. -/
def formRows0A : List FormRow := [
  ⟨[1, 2, 3, 4, 5, 6, 7, 8, 9, 10], .dp, .s, .s, [.v, .s, .a], .none, false, false⟩]

/-- Major 0x0B. -/
def formRows0B : List FormRow := [
  ⟨[0, 1, 2, 3, 4, 5, 6, 7, 8, 9, 10, 11, 12, 13, 14, 15, 16, 17, 18, 19, 20, 21, 22, 23, 24, 25, 26, 27, 28, 29, 30, 31], .d, .s, .imm, [.v, .s, .a], .none, false, false⟩]

/-- Major 0x0C. -/
def formRows0C : List FormRow := [
  ⟨[1, 2, 3, 4], .dp, .p, .p, [.v, .s, .a], .none, false, false⟩,
  ⟨[5, 6, 7], .dp, .p, .zero, [.v, .s, .a], .none, false, false⟩]

/-- Major 0x0D. -/
def formRows0D : List FormRow := [
  ⟨[1, 3, 4], .d, .s, .lit3, [.v], .none, false, false⟩,
  ⟨[2], .d, .s, .s, [.v], .none, false, false⟩,
  ⟨[5], .d, .s, .zero, [.v], .none, false, false⟩]

/-- Major 0x0E. -/
def formRows0E : List FormRow := [
  ⟨[1], .lit2, .s, .zero, [.a], .none, false, false⟩,
  ⟨[2], .dp, .zero, .lit2, [.a], .none, false, false⟩,
  ⟨[3], .dr, .zero, .zero, [.a], .none, false, false⟩]

/-- Major 0x0F. -/
def formRows0F : List FormRow := [
  ⟨[1, 2, 3, 4, 5], .d, .s, .zero, [.v, .s, .a], .none, false, false⟩,
  ⟨[6, 7], .d, .s, .s, [.v, .s, .a], .none, false, false⟩]

/-- Major 0x10. -/
def formRows10 : List FormRow := [
  ⟨[4, 5, 6, 7, 8, 9, 10, 11, 12, 13, 14, 15, 16, 17, 18, 19], .d, .s, .s, [.v], .none, false, false⟩,
  ⟨[20, 21, 22, 23], .d, .s, .zero, [.v], .none, false, false⟩]

/-- Major 0x11. -/
def formRows11 : List FormRow := [
  ⟨[4, 5, 6, 7, 8, 9, 10, 11, 12, 13, 14, 15, 16, 17, 18, 19], .da, .s, .s, [.v], .none, true, false⟩]

/-- Major 0x12. -/
def formRows12 : List FormRow := [
  ⟨[1, 2, 5, 6, 7, 8, 9, 12, 15], .d, .s, .s, [.v], .none, false, false⟩,
  ⟨[3, 4, 10, 11, 13, 14], .d, .s, .zero, [.v], .none, false, false⟩]

/-- Major 0x13. -/
def formRows13 : List FormRow := [
  ⟨[4, 5, 6, 7, 8, 9, 10, 11, 12, 13, 14, 15], .d, .s, .s, [.v], .none, false, false⟩,
  ⟨[16, 17, 18, 19], .da, .s, .s, [.v], .none, true, false⟩]

/-- Major 0x14. -/
def formRows14 : List FormRow := [
  ⟨[4, 5, 6, 7, 8, 9, 10, 11, 12, 13, 14, 15], .d, .s, .s, [.v], .none, false, false⟩,
  ⟨[16, 17, 18, 19], .da, .s, .s, [.v], .none, true, false⟩]

/-- Major 0x15. -/
def formRows15 : List FormRow := [
  ⟨[4, 5, 6, 7, 8, 9, 10, 11, 12, 13, 14, 15, 16, 17, 18, 19, 20, 21], .da, .s, .s, [.v], .none, true, false⟩]

/-- Major 0x16. -/
def formRows16 : List FormRow := [
  ⟨[1, 2, 3, 4, 5, 6, 7], .dp, .s, .s, [.v], .none, false, false⟩]

/-- Major 0x17. -/
def formRows17 : List FormRow := [
  ⟨[1, 2, 3], .d, .s, .zero, [.v], .none, false, false⟩,
  ⟨[4], .dp, .s, .s, [.v], .none, false, false⟩]

/-- Major 0x18. -/
def formRows18 : List FormRow := [
  ⟨[1, 2], .d, .s, .lit1, [.v], .none, false, false⟩,
  ⟨[4, 5, 6, 7, 8, 9, 10, 11], .d, .s, .s, [.v], .none, false, false⟩,
  ⟨[12, 13, 14, 15, 16, 17, 18, 19], .d, .s, .zero, [.v], .none, false, false⟩]

/-- Major 0x19. -/
def formRows19 : List FormRow := [
  ⟨[4, 5, 6, 7, 8, 9, 10, 11, 12, 13, 14, 15, 16, 17, 18, 19], .d, .s, .zero, [.v], .none, false, false⟩]

/-- Major 0x1A. -/
def formRows1A : List FormRow := [
  ⟨[1, 2, 3, 4], .d, .ae, .s, [.v], .none, false, false⟩]

/-- Major 0x1B. -/
def formRows1B : List FormRow := [
  ⟨[1, 2, 3, 4, 5], .d, .s, .zero, [.v], .none, false, false⟩,
  ⟨[6, 7, 8, 9, 10], .d, .s, .s, [.v], .none, false, false⟩,
  ⟨[12, 13, 14, 15, 16, 17, 18, 19, 20, 21, 22, 23, 24, 25, 26, 27, 28, 29, 30, 31], .da, .s, .s, [.v], .none, true, false⟩]

/-- Major 0x1C. -/
def formRows1C : List FormRow := [
  ⟨[1, 2, 3, 4, 5, 6, 7, 8, 9], .d, .s, .zero, [.v], .none, false, false⟩]

/-- Major 0x1D. -/
def formRows1D : List FormRow := [
  ⟨[1, 2, 3, 4, 5, 6, 7], .d, .s, .zero, [.v], .none, false, false⟩]

/-- Major 0x1E. -/
def formRows1E : List FormRow := [
  ⟨[1, 2, 3, 4, 5, 6, 7, 8, 9, 10], .d, .s, .zero, [.v], .none, false, false⟩,
  ⟨[11], .d, .p, .zero, [.v], .none, false, false⟩]

/-- Major 0x1F. -/
def formRows1F : List FormRow := [
  ⟨[1, 2], .d, .s, .zero, [.v], .none, false, false⟩,
  ⟨[3], .dr, .zero, .zero, [.v], .none, false, false⟩,
  ⟨[4, 5, 6, 7], .d, .s, .s, [.v], .none, false, false⟩,
  ⟨[8], .zero, .s, .zero, [.v], .none, false, false⟩]

/-- Major 0x20. -/
def formRows20 : List FormRow := [
  ⟨[1, 2, 3, 4, 5, 9, 10, 11, 12, 13, 16, 17], .dl, .s, .s, [.v, .s, .a], .req, false, false⟩]

/-- Major 0x21. -/
def formRows21 : List FormRow := [
  ⟨[1, 3, 5, 9, 11, 13, 16, 17], .zero, .s, .s, [.v, .s, .a], .req, false, false⟩]

/-- Major 0x22. -/
def formRows22 : List FormRow := [
  ⟨[1, 2, 3, 4, 5, 16], .dl, .s, .s, [.v, .a], .req, false, false⟩]

/-- Major 0x23. -/
def formRows23 : List FormRow := [
  ⟨[1, 3, 5], .zero, .s, .s, [.v, .a], .req, false, false⟩]

/-- Major 0x24. -/
def formRows24 : List FormRow := [
  ⟨[1, 2, 3, 4, 5, 6, 9, 10, 11, 12, 13, 14], .dl, .s, .s, [.v, .s, .a], .req, false, false⟩,
  ⟨[17, 18, 19, 20, 21, 22, 25, 26, 27, 28, 29, 30], .zero, .s, .s, [.v, .s, .a], .req, false, false⟩]

/-- Major 0x25. -/
def formRows25 : List FormRow := [
  ⟨[1, 2], .zero, .s, .s, [.v, .s, .a], .req, false, false⟩,
  ⟨[3], .zero, .s, .s, [.v, .a], .req, false, false⟩]

/-- Major 0x26. -/
def formRows26 : List FormRow := [
  ⟨[1, 2, 4, 5, 7, 8, 10, 11, 13, 14, 16, 17, 19, 20, 22, 23, 25, 26], .dr, .s, .s, [.v, .s, .a], .req, false, false⟩,
  ⟨[3, 6, 9, 12, 15, 18, 21, 24, 27], .dr, .s, .s, [.v, .a], .req, false, false⟩]

/-- Major 0x27. -/
def formRows27 : List FormRow := [
  ⟨[1, 2], .dr, .s, .s, [.v, .s, .a], .req, false, false⟩,
  ⟨[3], .dr, .s, .s, [.v, .a], .req, false, false⟩,
  ⟨[4, 5], .dr, .s, .s, [.v, .s, .a], .req, true, false⟩,
  ⟨[6], .dr, .s, .s, [.v, .a], .req, true, false⟩]

/-- Major 0x28. -/
def formRows28 : List FormRow := [
  ⟨[1], .dr, .zero, .lit3, [.v, .s], .frame, false, false⟩,
  ⟨[2], .fout, .s, .s, [.v, .s], .frame, false, false⟩,
  ⟨[3], .zero, .s, .zero, [.v, .s], .frame, false, false⟩]

/-- Major 0x29. -/
def formRows29 : List FormRow := [
  ⟨[1, 2, 8, 9, 10, 11, 12, 13], .zero, .zero, .zero, [.v, .s, .a, .m], .none, false, false⟩]

/-- Major 0x2A. -/
def formRows2A : List FormRow := [
  ⟨[1, 2, 5, 6, 9, 10], .dr, .s, .scope, [.v, .s, .a, .m], .req, false, false⟩,
  ⟨[3, 7, 11], .dr, .s, .scope, [.v, .a], .req, false, false⟩]

/-- Major 0x2B. -/
def formRows2B : List FormRow := [
  ⟨[1], .zero, .s, .zero, [.v, .a], .req, false, false⟩,
  ⟨[2, 3], .dr, .s, .zero, [.v, .a], .req, false, false⟩]

/-- Major 0x2C. -/
def formRows2C : List FormRow := [
  ⟨[1], .zero, .s, .lit4, [.a], .none, false, false⟩,
  ⟨[2], .zero, .lit0to4, .lit4, [.a], .none, false, false⟩,
  ⟨[3], .zero, .lit3, .lit4, [.a], .cmd, false, false⟩,
  ⟨[4], .zero, .zero, .lit4, [.a], .none, false, false⟩]

/-- Major 0x2D. -/
def formRows2D : List FormRow := [
  ⟨[1], .zero, .s, .lit3, [.a], .cmd, false, false⟩]

/-- Major 0x2E. -/
def formRows2E : List FormRow := [
  ⟨[1], .dr, .s, .zero, [.a], .none, false, false⟩,
  ⟨[2], .dp, .zero, .zero, [.a], .none, false, false⟩]

/-- Major 0x2F. -/
def formRows2F : List FormRow := [
  ⟨[1, 2, 3, 4], .dl, .s, .s, [.v, .a], .gsend, false, false⟩,
  ⟨[5], .zero, .s, .lit2, [.v, .a], .none, false, false⟩]

/-- Major 0x30. -/
def formRows30 : List FormRow := [
  ⟨[1, 2, 3, 4, 5, 6, 7, 8, 9, 10, 11], .acv, .sp, .sp, [.m], .cmd, false, true⟩]

/-- Major 0x31. -/
def formRows31 : List FormRow := [
  ⟨[1], .lit1, .zero, .zero, [.m], .none, false, false⟩,
  ⟨[2], .lit1, .sp, .zero, [.m], .cmd, false, true⟩,
  ⟨[3], .zero, .s, .zero, [.m], .none, false, false⟩]

/-- Major 0x32. -/
def formRows32 : List FormRow := [
  ⟨[1, 4, 5, 6, 7, 8, 9, 10, 11], .lit1, .sp, .zero, [.m], .drain, false, false⟩]

/-- Major 0x33. -/
def formRows33 : List FormRow := [
  ⟨[1, 2], .lit1, .s, .zero, [.m], .none, false, false⟩]

/-- Major 0x36. -/
def formRows36 : List FormRow := [
  ⟨[1], .zero, .s, .zero, [.v, .s, .a], .req, false, false⟩,
  ⟨[2], .dr, .zero, .zero, [.v, .s, .a], .none, false, false⟩,
  ⟨[3, 4, 5], .zero, .s, .zero, [.v, .s, .a], .none, false, false⟩,
  ⟨[6], .zero, .s, .zero, [.a], .none, false, false⟩,
  ⟨[7], .zero, .zero, .zero, [.v, .s, .a], .none, false, false⟩]

/-- Major 0x37. -/
def formRows37 : List FormRow := [
  ⟨[1, 2, 3], .zero, .s, .zero, [.v, .s, .a, .m], .none, false, false⟩,
  ⟨[4, 5], .dr, .s, .zero, [.v, .s, .a, .m], .req, false, false⟩,
  ⟨[6], .zero, .s, .zero, [.v, .s, .a, .m], .req, false, false⟩]

/-- Major 0x38. -/
def formRows38 : List FormRow := [
  ⟨[1], .dr, .s, .zero, [.v, .a], .req, false, false⟩,
  ⟨[2], .zero, .s, .zero, [.v, .a], .req, false, false⟩]

/-- Major 0x39. -/
def formRows39 : List FormRow := [
  ⟨[1], .zero, .s, .zero, [.v, .s, .a, .m], .none, false, false⟩,
  ⟨[2, 3, 4], .zero, .zero, .zero, [.v, .s, .a, .m], .none, false, false⟩]

/-- Major 0x3A. -/
def formRows3A : List FormRow := [
  ⟨[1], .lit1, .sp, .sp, [.m], .cmd, false, true⟩,
  ⟨[2, 3], .dr, .s, .lit1, [.m], .cmd, false, false⟩]

/-- Major 0x3B. -/
def formRows3B : List FormRow := [
  ⟨[1], .zero, .s, .lit3, [.a], .cmd, false, false⟩]

/-- Major 0x3C. -/
def formRows3C : List FormRow := [
  ⟨[1, 3], .dr, .s, .zero, [.v, .a], .req, false, false⟩,
  ⟨[2], .dp, .s, .s, [.v, .a], .req, false, false⟩]

/-- Major 0x3D. -/
def formRows3D : List FormRow := [
  ⟨[1, 2], .dr, .zero, .zero, [.v, .s, .a, .m], .none, false, false⟩,
  ⟨[3, 4], .zero, .s, .zero, [.v, .s, .a, .m], .none, false, false⟩]

/-- The rows of a major; none where it is unassigned or reserved (R40). -/
def formRows (major : Nat) : Option (List FormRow) :=
  match major with
  | 0x00 => some formRows00
  | 0x01 => some formRows01
  | 0x02 => some formRows02
  | 0x03 => some formRows03
  | 0x04 => some formRows04
  | 0x05 => some formRows05
  | 0x06 => some formRows06
  | 0x07 => some formRows07
  | 0x08 => some formRows08
  | 0x09 => some formRows09
  | 0x0A => some formRows0A
  | 0x0B => some formRows0B
  | 0x0C => some formRows0C
  | 0x0D => some formRows0D
  | 0x0E => some formRows0E
  | 0x0F => some formRows0F
  | 0x10 => some formRows10
  | 0x11 => some formRows11
  | 0x12 => some formRows12
  | 0x13 => some formRows13
  | 0x14 => some formRows14
  | 0x15 => some formRows15
  | 0x16 => some formRows16
  | 0x17 => some formRows17
  | 0x18 => some formRows18
  | 0x19 => some formRows19
  | 0x1A => some formRows1A
  | 0x1B => some formRows1B
  | 0x1C => some formRows1C
  | 0x1D => some formRows1D
  | 0x1E => some formRows1E
  | 0x1F => some formRows1F
  | 0x20 => some formRows20
  | 0x21 => some formRows21
  | 0x22 => some formRows22
  | 0x23 => some formRows23
  | 0x24 => some formRows24
  | 0x25 => some formRows25
  | 0x26 => some formRows26
  | 0x27 => some formRows27
  | 0x28 => some formRows28
  | 0x29 => some formRows29
  | 0x2A => some formRows2A
  | 0x2B => some formRows2B
  | 0x2C => some formRows2C
  | 0x2D => some formRows2D
  | 0x2E => some formRows2E
  | 0x2F => some formRows2F
  | 0x30 => some formRows30
  | 0x31 => some formRows31
  | 0x32 => some formRows32
  | 0x33 => some formRows33
  | 0x36 => some formRows36
  | 0x37 => some formRows37
  | 0x38 => some formRows38
  | 0x39 => some formRows39
  | 0x3A => some formRows3A
  | 0x3B => some formRows3B
  | 0x3C => some formRows3C
  | 0x3D => some formRows3D
  | _ => none

/-- The form of a slot word, where its major and function are assigned. -/
def formOf (w : Word) : Option Form :=
  let F := fieldsOf w
  match formRows F.major.toNat with
  | none => none
  | some l => match l.find? fun r => r.fns.contains F.fn.toNat with
    | some r => some ⟨F, r.dS, r.aS, r.bS, true, r.kinds, r.path, r.readsD, r.intake⟩
    | none => none

end Sys2Proof
end

