-- ==== Sys2Proof/Config.lean ====
section
/-!
DEFINITION. What the spec fixes for every package of the SLD-8400 (Table 0.3), the agents that may take the next step,
and the free values: constants with no body, about which nothing can be proved but what their type says.
-/

namespace Sys2Proof

/-- Who acts next, and, for a part of the world outside the package, what it does (log entry 1). -/
inductive Agent where
  /-- One cycle of an element's picker (R131). -/
  | element (e : ElemId)
  /-- A whole step of another agent: one row of the opcode table. -/
  | event (i : Instr)
  /-- One clock edge of a region's island, which ages the counts that R301, R304, R374, R385 and R436 keep in cycles. -/
  | cycle (region : Nat)
  /-- An output of a tile's router grants one flit (R383): 0 to 3 as a direction, 4 the local one, 5 that of an endpoint or a link
  port. -/
  | router (tile : TileId) (out : Nat)
  /-- The companion processor stores a byte at a physical address of the package's memory or of its own. -/
  | store (addr : Nat) (value : Byte)
  /-- A home finds an uncorrectable error in the storage of a byte that it reads (R206). -/
  | decay (addr : Nat)
  /-- The companion processor fills a storage namespace from a byte offset (R119). -/
  | storage (chan : Nat) (off : Nat) (bytes : List Byte)
  deriving DecidableEq, Repr, Inhabited

/-- The free schedule: the agent that acts at a tick when the agenda names none (log entry 1). -/
opaque Config.nextAgent : Nat → Agent

/-- The bits a special function returns for an operand (R183); used where they lie inside the bound of Table 8.9. -/
opaque Config.specialBits : Nat → Word → Word

/-- Whether a faithful function returns the enclosing value above (R183). -/
opaque Config.specialUp : Nat → Word → Bool

/-- A latency in cycles, as a monitor samples it (R355). -/
opaque Config.latency : Nat → Word

/-- The data of an operand token that a malformed burst lacks (R270). -/
opaque Config.missingToken : Nat → Nat

/-- The tag, request tag and iteration tag of a token that a tile store's reading generator makes, packed: the spec states none
(R201). -/
opaque Config.storeTags : Nat → BitVec 36

/-- The data of a token that a tile store's reading generator sends from beyond its buffer, as a number: the spec states none
(R201). -/
opaque Config.beyondBuffer : Nat → Nat

/-- The bytes that a load or an engine reads of an address behind a lost link, or that a copy writes for an element that it cannot read, by
the name of the request: the spec gives only their poison (R212, R254, R260). -/
opaque Config.lostBytes : Nat → Nat → Nat

/-- Whether memory traffic waits for the output that a router grants (R383). -/
opaque Config.memoryWaits : Nat → Bool

/-- Where a destination block of a copy or of an `ioread` goes in the order of its command's blocks (R236). -/
opaque Config.blockPlace : Nat → Nat

/-- Which bank's coordinate-value token of a `gsend` is applied next (R391). -/
opaque Config.lanePlace : Nat → Nat

/-- What a save leaves in a byte of its save area (R381): the spec gives no layout. -/
opaque Config.savedByte : Nat → Nat → Nat → Byte

/-- Whether a remote device refuses a physical address of a peer window (R211). -/
opaque Config.peerRefuses : Nat → Bool

/-- The fused key digest of the boot ROM (R448). -/
opaque Config.keyDigest : BitVec 256

/-- The fused minimum security version (R448). -/
opaque Config.minSvn : BitVec 6

/-- The device serial number (R449). -/
opaque Config.serial : BitVec 64

/-- The fused seed of the device identity key (R449). -/
opaque Config.identitySeed : BitVec 256

/-- The random number that a signature of the device takes (R449). -/
opaque Config.signRandom : Nat → BitVec 256

/-- The fused lowest and highest point of a package island (R450). -/
opaque Config.lowPoint : Nat → BitVec 4
opaque Config.highPoint : Nat → BitVec 4

/-- Whether a retraining succeeds (R444). -/
opaque Config.retrains : Nat → Bool

/-- Whether a line of channel data carries an uncorrectable error (R119). -/
opaque Config.badLine : Nat → Bool

/-- The Thevel port through which the I/O agent serves an `ioread` (R444). -/
opaque Config.ioPort : Nat → BitVec 2

/-- The Thevel port through which the companion reaches the management window of a die (R440, R444). -/
opaque Config.windowPort : Nat → BitVec 2

end Sys2Proof
end

