-- ==== Sys2Proof/Machine/Format.lean ====
section
/-!
DEFINITION. Number formats and arithmetic rules (R150 to R167): the floating formats, exact values,
`round_to`, `round_stoch`, `to_int`, the exact sums, and the special functions of R183 inside their bounds.
-/

namespace Sys2Proof.Machine

/-- The six sticky flags (Table 7.6): bit 0 nv, 1 dz, 2 of, 3 uf, 4 nx, 5 sat. -/
abbrev Flags := BitVec 6

def Flags.nv : Flags := 1
def Flags.dz : Flags := 2
def Flags.of : Flags := 4
def Flags.uf : Flags := 8
def Flags.nx : Flags := 16
def Flags.sat : Flags := 32

/-- A floating format (Tables 7.2 and 7.3). `maxEnc` is the encoding of the largest finite magnitude. -/
structure Fmt where
  /-- Exponent bits. -/
  eb : Nat
  /-- Fraction bits. -/
  p : Nat
  bias : Nat
  hasInf : Bool
  /-- The canonical NaN, where the format has one. -/
  nan : Option Nat
  maxEnc : Nat
  deriving DecidableEq, Repr, Inhabited

def Fmt.f32 : Fmt := ⟨8, 23, 127, true, some 0x7FC00000, 0x7F7FFFFF⟩
def Fmt.bf16 : Fmt := ⟨8, 7, 127, true, some 0x7FC0, 0x7F7F⟩
def Fmt.f16 : Fmt := ⟨5, 10, 15, true, some 0x7E00, 0x7BFF⟩
def Fmt.e4m3 : Fmt := ⟨4, 3, 7, false, some 0x7F, 0x7E⟩
def Fmt.e5m2 : Fmt := ⟨5, 2, 15, true, some 0x7E, 0x7B⟩
/-- e5m2 where an entry names saturation (R158, R182). -/
def Fmt.e5m2sat : Fmt := ⟨5, 2, 15, false, some 0x7E, 0x7B⟩
def Fmt.e3m2 : Fmt := ⟨3, 2, 3, false, none, 0x1F⟩
def Fmt.e2m3 : Fmt := ⟨2, 3, 1, false, none, 0x1F⟩
def Fmt.e2m1 : Fmt := ⟨2, 1, 1, false, none, 0x7⟩

/-- Width of the magnitude: the place of the sign bit. -/
def Fmt.signAt (f : Fmt) : Nat := f.eb + f.p

/-- The encoding of infinity, in a format that has one. -/
def Fmt.infEnc (f : Fmt) : Nat := (2 ^ f.eb - 1) <<< f.p

/-- An exact value: a NaN, an infinity, or a number. A finite number is `mant × 2^exp`; with `sticky` it lies
strictly between that and `(mant + 1) × 2^exp`, as the quotient or root it stands for does. -/
inductive XVal where
  | nan
  | inf (neg : Bool)
  | fin (neg : Bool) (mant : Nat) (exp : Int) (sticky : Bool)
  deriving DecidableEq, Repr, Inhabited

/-- A dyadic number. -/
def XVal.dy (neg : Bool) (mant : Nat) (exp : Int) : XVal := .fin neg mant exp false

def XVal.isNan : XVal → Bool
  | .nan => true
  | _ => false

def XVal.isInf : XVal → Bool
  | .inf _ => true
  | _ => false

/-- An exact zero. -/
def XVal.isZero : XVal → Bool
  | .fin _ m _ s => m == 0 && !s
  | _ => false

/-- The sign; a NaN has none. -/
def XVal.neg : XVal → Bool
  | .nan => false
  | .inf n => n
  | .fin n _ _ _ => n

def XVal.negate : XVal → XVal
  | .nan => .nan
  | .inf n => .inf (!n)
  | .fin n m e s => .fin (!n) m e s

def XVal.abs : XVal → XVal
  | .nan => .nan
  | .inf _ => .inf false
  | .fin _ m e s => .fin false m e s

/-- The value times `2^n`. -/
def XVal.scale (x : XVal) (n : Int) : XVal :=
  match x with
  | .fin g m e s => .fin g m (e + n) s
  | y => y

/-- The value an encoding denotes (R151, R152). -/
def Fmt.value (f : Fmt) (bits : Nat) : XVal :=
  let mag := bits % 2 ^ f.signAt
  let sgn := (bits >>> f.signAt) % 2 == 1
  let e := mag >>> f.p
  let m := mag % 2 ^ f.p
  if f.hasInf && mag == f.infEnc then .inf sgn
  else if f.maxEnc < mag then .nan
  else if e == 0 then .dy sgn m (1 - (f.bias : Int) - f.p)
  else .dy sgn (2 ^ f.p + m) ((e : Int) - f.bias - f.p)

/-- The encoding of a magnitude with a sign. -/
def Fmt.signed (f : Fmt) (neg : Bool) (mag : Nat) : Nat := if neg then mag + 2 ^ f.signAt else mag

/-- Rounding modes (Table 7.4). -/
abbrev Rm := BitVec 2

/-- Whether a magnitude rounds up: `odd` is the last kept bit, `half` compares the discarded part with one half
(0 exact, 1 below, 2 a tie, 3 above). -/
def roundsUp (m : Rm) (neg odd : Bool) (half : Nat) : Bool :=
  match m with
  | 0 => half == 3 || (half == 2 && odd)
  | 1 => false
  | 2 => neg && half != 0
  | _ => !neg && half != 0

/-- The integer part of `(mant, exp, sticky) / 2^q`, and the place of the discarded part against one half. -/
def splitAt (mant : Nat) (exp : Int) (sticky : Bool) (q : Int) : Nat × Nat :=
  if q ≤ exp then (mant <<< (exp - q).toNat, if sticky then 1 else 0)
  else
    -- beyond two bits above the mantissa nothing changes any more, so the powers of two stay small
    let k := min (q - exp).toNat (Nat.log2 mant + 3)
    let n := mant >>> k
    let r := mant % 2 ^ k
    let h := 2 ^ (k - 1)
    (n, if r == 0 && !sticky then 0 else if r < h then 1 else if r == h && !sticky then 2 else 3)

/-- The exponent of the last place of `f` at the value `mant × 2^exp` (R151, R158). -/
def Fmt.lastPlace (f : Fmt) (mant : Nat) (exp : Int) : Int :=
  max ((Nat.log2 mant : Int) + exp - f.p) (1 - (f.bias : Int) - f.p)

/-- `round_to(f, x, m)` (R158): the encoding and the flags raised. -/
def roundTo (f : Fmt) (x : XVal) (m : Rm) : Nat × Flags :=
  match x with
  | .nan =>
    match f.nan with
    | some c => (c, 0)
    | none => (0, Flags.nv)
  | .inf g => if f.hasInf then (f.signed g f.infEnc, 0) else (f.signed g f.maxEnc, Flags.sat)
  | .fin g mant exp sticky =>
    if mant == 0 && !sticky then (f.signed g 0, 0)
    else
      let q := f.lastPlace mant exp
      let (n, half) := splitAt mant exp sticky q
      let n' := if roundsUp m g (n % 2 == 1) half then n + 1 else n
      -- the encoding of n' × 2^q, with the exponent unbounded above
      let enc := ((q + f.p + f.bias).toNat <<< f.p) + n' - 2 ^ f.p
      let tinyX := decide ((Nat.log2 mant : Int) + exp < 1 - (f.bias : Int))
      if f.maxEnc < enc then
        if !f.hasInf then (f.signed g f.maxEnc, Flags.nx ||| Flags.sat)
        else
          let toInf := match m with
            | 0 => true
            | 1 => false
            | 2 => g
            | _ => !g
          (f.signed g (if toInf then f.infEnc else f.maxEnc), Flags.nx ||| Flags.of)
      else if half == 0 then (f.signed g enc, 0)
      else (f.signed g enc, if enc < 2 ^ f.p || tinyX then Flags.nx ||| Flags.uf else Flags.nx)

/-- `round_stoch(f, x, r)` (R160), for an exact dyadic `x`. -/
def roundStoch (f : Fmt) (x : XVal) (r : Nat) : Nat × Flags :=
  match x with
  | .fin g mant exp _ =>
    if mant == 0 then roundTo f x 1
    else
      let q := f.lastPlace mant exp
      let (n, half) := splitAt mant exp false q
      let enc := ((q + f.p + f.bias).toNat <<< f.p) + n - 2 ^ f.p
      if f.maxEnc < enc || (enc == f.maxEnc && half != 0) then roundTo f x 0
      else
        let t := (splitAt mant exp false (q - 16)).1 % 65536
        let enc' := if 65536 ≤ t + r then enc + 1 else enc
        let inexact := half != 0 || enc' != enc
        let tinyX := decide ((Nat.log2 mant : Int) + exp < 1 - (f.bias : Int))
        (f.signed g enc', if inexact then
            (if enc' < 2 ^ f.p || tinyX then Flags.nx ||| Flags.uf else Flags.nx) else 0)
  | y => roundTo f y 1

/-- `to_int` (R161) into the range `lo` to `hi`. -/
def toInt (lo hi : Int) (x : XVal) (m : Rm) : Int × Flags :=
  match x with
  | .nan => (0, Flags.nv)
  | .inf g => (if g then lo else hi, Flags.sat)
  | .fin g mant exp sticky =>
    let (n, half) := splitAt mant exp sticky 0
    let n' := if roundsUp m g (n % 2 == 1) half then n + 1 else n
    let v : Int := if g then -(n' : Int) else n'
    if v < lo then (lo, Flags.sat ||| Flags.nx)
    else if hi < v then (hi, Flags.sat ||| Flags.nx)
    else (v, if half == 0 then 0 else Flags.nx)

/-- The exact product, and nv where it is 0 × ∞ (R173). -/
def mulX (x y : XVal) : XVal × Flags :=
  match x, y with
  | .nan, _ | _, .nan => (.nan, 0)
  | .inf g, z => if z.isZero then (.nan, Flags.nv) else (.inf (g != z.neg), 0)
  | z, .inf g => if z.isZero then (.nan, Flags.nv) else (.inf (g != z.neg), 0)
  | .fin g m e _, .fin g' m' e' _ => (.dy (g != g') (m * m') (e + e'), 0)

/-- A finite value as a multiple of `2^q`, for `q` at most its exponent. -/
def XVal.at2 (x : XVal) (q : Int) : Int :=
  match x with
  | .fin g m e _ => let n : Int := (m <<< (e - q).toNat : Nat); if g then -n else n
  | _ => 0

/-- The exponent of a finite value. -/
def XVal.expo : XVal → Int
  | .fin _ _ e _ => e
  | _ => 0

/-- The exact sum of dyadic terms in mode `m`, and nv where the terms hold both infinities; a zero sum takes its sign by
R159 (−0 only from terms that are all −0, or in mode rd). -/
def sumX (m : Rm) (ts : List XVal) : XVal × Flags :=
  if ts.any XVal.isNan then (.nan, 0)
  else if ts.any (fun x => x.isInf && x.neg) then
    (if ts.any (fun x => x.isInf && !x.neg) then (.nan, Flags.nv) else (.inf true, 0))
  else if ts.any XVal.isInf then (.inf false, 0)
  else
    let q := ts.foldl (fun a x => min a x.expo) 0
    let v := ts.foldl (fun a x => a + x.at2 q) (0 : Int)
    if v == 0 then
      (.dy (if ts.all XVal.isZero then
              (ts.all XVal.neg || (m == 2 && ts.any XVal.neg))
            else m == 2) 0 0, 0)
    else (.dy (decide (v < 0)) v.natAbs q, 0)

/-- The exact quotient with its sticky mark, and its flag (R173). -/
def divX (x y : XVal) : XVal × Flags :=
  match x, y with
  | .nan, _ | _, .nan => (.nan, 0)
  | .inf _, .inf _ => (.nan, Flags.nv)
  | .inf g, .fin g' _ _ _ => (.inf (g != g'), 0)
  | .fin g _ _ _, .inf g' => (.dy (g != g') 0 0, 0)
  | .fin g m e _, .fin g' m' e' _ =>
    if m' == 0 then (if m == 0 then (.nan, Flags.nv) else (.inf (g != g'), Flags.dz))
    else if m == 0 then (.dy (g != g') 0 0, 0)
    else
      let k := 64 + Nat.log2 m'
      (.fin (g != g') ((m <<< k) / m') (e - e' - k) ((m <<< k) % m' != 0), 0)

/-- The integer square root, by a binary search of `fuel` halvings above `lo`. -/
def isqrtFrom (n lo : Nat) (fuel : Nat) : Nat :=
  match fuel with
  | 0 => lo
  | k + 1 => if (lo + 2 ^ k) * (lo + 2 ^ k) ≤ n then isqrtFrom n (lo + 2 ^ k) k else isqrtFrom n lo k

/-- The integer square root. -/
def isqrt (n : Nat) : Nat := isqrtFrom n 0 (Nat.log2 n / 2 + 1)

/-- The exact root with its sticky mark, and its flag (R173). -/
def sqrtX (x : XVal) : XVal × Flags :=
  match x with
  | .nan => (.nan, 0)
  | .inf g => if g then (.nan, Flags.nv) else (.inf false, 0)
  | .fin g m e _ =>
    if m == 0 then (.dy g 0 0, 0)
    else if g then (.nan, Flags.nv)
    else
      -- an even exponent, with 64 places or more below the point
      let k := 128 + (if (e % 2 == 0) then 0 else 1)
      let n := m <<< k
      let r := isqrt n
      (.fin false r ((e - k) / 2) (r * r != n), 0)

/-- One rounding of an exact result with the flags of forming it. -/
def roundWith (f : Fmt) (m : Rm) (x : XVal × Flags) : Nat × Flags :=
  let r := roundTo f x.1 m
  (r.1, r.2 ||| x.2)

/-- The 32-bit value read as two's complement. -/
def sext32 (w : Word) : Int := w.toInt

/-- f32 value of a lane. -/
def f32Of (w : Word) : XVal := Fmt.f32.value w.toNat

/-- A result of Nat bits as a word. -/
def wordOf (n : Nat) : Word := BitVec.ofNat 32 n

/-- A lane result with its flags. -/
def toLane (x : Nat × Flags) : Word × Flags := (wordOf x.1, x.2)

/-- The 16-bit element `j` of a lane (R156). -/
def half (w : Word) (j : Nat) : Nat := (w.toNat >>> (16 * j)) % 65536

/-- Byte `j` of a lane (R156). -/
def byteAt (w : Word) (j : Nat) : Nat := (w.toNat >>> (8 * j)) % 256

/-- Two 16-bit results as a lane (R156). -/
def packHalves (lo hi : Nat × Flags) : Word × Flags := (wordOf (lo.1 + hi.1 * 65536), lo.2 ||| hi.2)

/-- Whether an encoding is a NaN. -/
def Fmt.isNan (f : Fmt) (bits : Nat) : Bool := (f.value bits).isNan

/-- A key that orders the encodings of a format that are not NaN, with −0 below +0. -/
def Fmt.key (f : Fmt) (bits : Nat) : Int :=
  let mag : Int := ((bits % 2 ^ f.signAt : Nat) : Int)
  if (bits >>> f.signAt) % 2 == 1 then -mag - 1 else mag

/-- `fmin` and `fmax` (R174): the smaller or the larger encoding. -/
def fminmax (f : Fmt) (wantMax : Bool) (a b : Nat) : Nat :=
  if f.isNan a then (if f.isNan b then f.nan.getD 0 else b)
  else if f.isNan b then a
  else if wantMax then (if f.key a < f.key b then b else a)
  else (if f.key b < f.key a then b else a)

/-- f32 comparison (R176): −1, 0 or 1, none where an operand is a NaN. −0 equals +0. -/
def fcmp (a b : Word) : Option Int :=
  match f32Of a, f32Of b with
  | .nan, _ | _, .nan => none
  | x, y =>
    if x.isZero && y.isZero then some 0
    else
      let ka := Fmt.f32.key a.toNat
      let kb := Fmt.f32.key b.toNat
      some (if ka < kb then -1 else if ka = kb then 0 else 1)

/-- The class bit of an encoding (Table 8.5). -/
def Fmt.classOf (f : Fmt) (bits : Nat) : Nat :=
  let mag := bits % 2 ^ f.signAt
  let n := (bits >>> f.signAt) % 2 == 1
  match f.value bits with
  | .nan => 8
  | .inf g => if g then 0 else 7
  | _ =>
    if mag == 0 then (if n then 3 else 4)
    else if mag < 2 ^ f.p then (if n then 2 else 5)
    else (if n then 1 else 6)

/-! ## The special functions (R183)

Each exact value is approximated by a dyadic number to far more places than the bound needs. The bits that the
hardware returns are a free value (`Config.specialBits`), kept where they lie inside the bound and replaced by the
rounded value where they do not, so that the result always meets Table 8.9. -/

/-- Places of the fixed-point arithmetic below. -/
def spPlaces : Nat := 192

/-- ln 2 in 192 places. -/
def ln2Fix : Nat := 0xB17217F7D1CF79ABC9E3B39803F2F6AF40F343267298B62D

/-- log2 e − 1 in 192 places. -/
def log2eFix : Nat := 0x71547652B82FE1777D0FFDA0D23A7D11D6AEF551BAD2B4B1

/-- π in 192 places after the point. -/
def piFix : Nat := 0x3243F6A8885A308D313198A2E03707344A4093822299F31D0

/-- The sum `1 + z + z²/2! + …` in fixed point, from term `k` on, for `0 ≤ z < 1`. -/
def expSeries (z term k : Nat) (fuel : Nat) : Nat :=
  match fuel with
  | 0 => term
  | n + 1 => term + expSeries z ((term * z) >>> spPlaces / (k + 1)) (k + 1) n

/-- `2^r` in fixed point, for a fixed-point `r` in [0, 1). -/
def exp2Frac (r : Nat) : Nat := expSeries ((r * ln2Fix) >>> spPlaces) (2 ^ spPlaces) 0 48

/-- A signed fixed-point number (192 places) as `2` to that power: mantissa and exponent. -/
def exp2Fix (x : Int) : Nat × Int :=
  let n := x / (2 ^ spPlaces : Nat)
  (exp2Frac (x % (2 ^ spPlaces : Nat)).toNat, n - spPlaces)

/-- A finite value in 192-place fixed point, clamped to ±1024. -/
def fixOf (x : XVal) : Int :=
  match x with
  | .fin g m e _ =>
    let mag : Nat := if 10 ≤ (Nat.log2 m : Int) + e then 1024 * 2 ^ spPlaces else (splitAt m e false (-(spPlaces : Int))).1
    if g then -(mag : Int) else mag
  | _ => 0

/-- `e^x` as mantissa and exponent. -/
def expFix (x : XVal) : Nat × Int :=
  let f := fixOf x
  exp2Fix (f + (f * log2eFix) / (2 ^ spPlaces : Nat))

/-- `2 atanh z = 2 (z + z³/3 + …)` in fixed point. -/
def atanhSeries (z2 pow k : Nat) (fuel : Nat) : Nat :=
  match fuel with
  | 0 => 0
  | n + 1 => pow / k + atanhSeries z2 ((pow * z2) >>> spPlaces) (k + 2) n

/-- log2 of a positive mantissa and exponent, in fixed point. -/
def log2Fix (m : Nat) (e : Int) : Int :=
  let k := Nat.log2 m
  let f := if k ≤ spPlaces then m <<< (spPlaces - k) else m >>> (k - spPlaces)
  let z := ((f - 2 ^ spPlaces) <<< spPlaces) / (f + 2 ^ spPlaces)
  let ln := 2 * atanhSeries ((z * z) >>> spPlaces) z 1 64
  ((k : Int) + e) * (2 ^ spPlaces : Nat) + ((ln <<< spPlaces) / ln2Fix : Nat)

/-- `sin y` by its series in fixed point, for `0 ≤ y < 2`. -/
def sinSeries (y2 : Nat) (term : Nat) (k : Nat) (plus : Bool) (fuel : Nat) : Int :=
  match fuel with
  | 0 => 0
  | n + 1 =>
    (if plus then (term : Int) else -(term : Int)) +
      sinSeries y2 (((term * y2) >>> spPlaces) / ((k + 1) * (k + 2))) (k + 2) (!plus) n

/-- sin(π r / 2^192) for a fixed-point `r` in [0, 1/2]. -/
def sinPiQuarter (r : Nat) : Int :=
  let y := (r * piFix) >>> spPlaces
  sinSeries ((y * y) >>> spPlaces) y 1 true 24

/-- sin(π r) for a fixed-point `r` in [0, 2). -/
def sinPiFix (r : Nat) : Int :=
  let one := 2 ^ spPlaces
  let q := r % one
  let s := sinPiQuarter (if 2 * q ≤ one then q else one - q)
  if r < one then s else -s

/-- A finite value modulo 2, in fixed point. -/
def mod2Fix (x : XVal) : Nat :=
  match x with
  | .fin g m e _ =>
    let r := if 1 ≤ e then 0 else (splitAt m e false (-(spPlaces : Int))).1 % (2 * 2 ^ spPlaces)
    if g then (2 * 2 ^ spPlaces - r) % (2 * 2 ^ spPlaces) else r
  | _ => 0

/-- A signed fixed-point number as an exact value. -/
def ofFix (v : Int) : XVal := .dy (decide (v < 0)) v.natAbs (-(spPlaces : Int))

/-- `num / den` of fixed-point numbers, as an exact value with 192 places or more. -/
def quoFix (neg : Bool) (num den : Nat) : XVal :=
  let k := spPlaces + Nat.log2 den
  .dy neg ((num <<< k) / den) (-(k : Int))

/-- The approximation of tanh: the series for small operands, `1 − 2 / (e^2x + 1)` for others. -/
def tanhX (x : XVal) : XVal :=
  match x with
  | .fin g m e _ =>
    if (Nat.log2 m : Int) + e < -12 then
      -- x − x³/3 + 2x⁵/15, over 15
      let q := e * 5
      let a := m <<< (e - q).toNat
      let c := (m * m * m) <<< (e * 3 - q).toNat
      let f := m * m * m * m * m
      .dy g (((15 * a + 2 * f - 5 * c) <<< spPlaces) / 15) (q - spPlaces)
    else
      let (w, n) := expFix (.dy false (2 * m) e)
      let big := if 200 ≤ n + spPlaces then 2 ^ (2 * spPlaces) else w <<< (n + spPlaces).toNat
      quoFix g (big - 2 ^ spPlaces) (big + 2 ^ spPlaces)
  | y => y

/-- The approximation of `1 / (1 + e^−x)`. -/
def sigX (x : XVal) : XVal :=
  let (w, n) := expFix x
  if 200 ≤ n + spPlaces then .dy false (2 ^ spPlaces - 1) (-(spPlaces : Int))
  else if n + spPlaces ≤ -200 then .dy false 1 (-300)
  else
    -- e^x / (1 + e^x), both over 2^(400)
    let big := w <<< (n + spPlaces + 200).toNat
    quoFix false big (2 ^ (spPlaces + 200) + big)

/-- The distance of two finite values as an exact magnitude (mantissa over `2^q`). -/
def distX (x y : XVal) : Nat × Int :=
  let q := min (min x.expo y.expo) 0
  ((x.at2 q - y.at2 q).natAbs, q)

/-- `num × 2^q ≤ bound × 2^b`. -/
def leAt (num : Nat) (q : Int) (bound : Nat) (b : Int) : Bool :=
  let k := min q b
  decide (num <<< (q - k).toNat ≤ bound <<< (b - k).toNat)

/-- The bound of Table 8.9 at the value `x`: a multiple of a power of two. A margin of one part in 2^20 of the bound
covers the approximation. -/
def specialBound (fn : Nat) (arg x : XVal) : Nat × Int :=
  let ulp := match x with
    | .fin _ m e _ => if m == 0 then -149 else Fmt.f32.lastPlace m e
    | _ => 0
  let near := match arg with
    | .fin _ m e _ => decide (-1 ≤ (Nat.log2 m : Int) + e) && (decide ((Nat.log2 m : Int) + e < 1) || (m == 2 ^ Nat.log2 m && decide ((Nat.log2 m : Int) + e = 1)))
    | _ => false
  if fn == 6 || fn == 7 || (fn == 5 && near) then (2 ^ 20 - 1, -42)
  else (2 * (2 ^ 20 - 1), ulp - 20)

/-- The hardware's bits where they lie inside the bound, else the rounded value; with nx, and uf below 2^−126. -/
def specialFree (fn : Nat) (w : Word) (x : XVal) : Word × Flags :=
  let cand := Config.specialBits fn w
  let c := f32Of cand
  let ok := match c with
    | .fin .. => let d := distX c x; let b := specialBound fn (f32Of w) x; leAt d.1 d.2 b.1 b.2
    | _ => false
  let r := if ok then cand else wordOf (roundTo Fmt.f32 x 0).1
  let above := !ok && (roundTo Fmt.f32 x 0).2 &&& Flags.of != 0
  (r, Flags.nx ||| (if above then Flags.of else 0) |||
    (if (r.toNat % 2 ^ 31) < 2 ^ 23 then Flags.uf else 0))

/-- An exact result of a special function. -/
def exactF32 (x : XVal) : Word × Flags := (wordOf (roundTo Fmt.f32 x 0).1, 0)

/-- A faithful result (R183): the exact value where it is an f32 value, else the enclosing value that the hardware
chooses. Table 8.9 lists no overflow: where the exact value lies above the largest finite value, `of` is raised whichever enclosing
value is returned (DESIGN CHOICE, log entry 47). -/
def faithful (fn : Nat) (w : Word) (x : XVal) : Word × Flags :=
  let r := roundTo Fmt.f32 x (if Config.specialUp fn w then 3 else 2)
  let tiny := (r.1 % 2 ^ 31) < 2 ^ 23
  (wordOf r.1, if r.2 &&& Flags.nx == 0 then 0 else
    (r.2 &&& Flags.of) ||| Flags.nx ||| (if tiny then Flags.uf else 0))

/-- Whether a finite value is an integer multiple of `2^q`. -/
def XVal.isMultiple (x : XVal) (q : Int) : Bool :=
  match x with
  | .fin _ m e _ => m == 0 || decide (q ≤ e) || m % 2 ^ (q - e).toNat == 0
  | _ => false

/-- The integer `x / 2^q`, for a multiple of `2^q`, with its sign. -/
def XVal.quotient (x : XVal) (q : Int) : Int :=
  match x with
  | .fin g m e _ => let n : Int := ((splitAt m e false q).1 : Nat); if g then -n else n
  | _ => 0

/-- One function of Table 8.9 on one lane: its value with the special values and flags of the table. -/
def special (fn : Nat) (w : Word) : Word × Flags :=
  let x := f32Of w
  let nanR : Word := 0x7FC00000
  match x with
  | .nan => (nanR, 0)
  | .inf g =>
    match fn with
    | 1 => (if g then 0x80000000 else 0, 0)
    | 2 => if g then (nanR, Flags.nv) else (0, 0)
    | 3 | 4 => (if g then 0 else 0x7F800000, 0)
    | 5 => if g then (nanR, Flags.nv) else (0x7F800000, 0)
    | 6 | 7 => (nanR, Flags.nv)
    | 8 => (if g then 0xBF800000 else 0x3F800000, 0)
    | _ => (if g then 0 else 0x3F800000, 0)
  | .fin g m e _ =>
    let z := m == 0
    let top : Int := (Nat.log2 m : Int) + e
    match fn with
    | 1 =>
      if z then (if g then 0xFF800000 else 0x7F800000, Flags.dz)
      else if top < -128 then (if g then 0xFF800000 else 0x7F800000, Flags.of ||| Flags.nx)
      else faithful 1 w (divX (.dy false 1 0) x).1
    | 2 =>
      if z then (if g then 0xFF800000 else 0x7F800000, Flags.dz)
      else if g then (nanR, Flags.nv)
      else
        -- 1 / √x as √(1 / x) with 1 / x to 192 places
        let k := 2 * spPlaces + 2 * Nat.log2 m + (if e % 2 == 0 then 0 else 1)
        let n := 2 ^ k / m
        let r := isqrt n
        faithful 2 w (.fin false r ((-e - k) / 2) (r * r * m != 2 ^ k))
    | 3 =>
      if z then (0x3F800000, 0)
      else if !g && decide (7 ≤ top) then (0x7F800000, Flags.of ||| Flags.nx)
      else if x.isMultiple 0 && decide (-149 ≤ x.quotient 0) then exactF32 (.dy false 1 (x.quotient 0))
      else let (a, n) := exp2Fix (fixOf x); specialFree 3 w (.dy false a n)
    | 4 =>
      if z then (0x3F800000, 0)
      else if !g && decide (7 ≤ top) then (0x7F800000, Flags.of ||| Flags.nx)
      else let (a, n) := expFix x; specialFree 4 w (.dy false a n)
    | 5 =>
      if z then (0xFF800000, Flags.dz)
      else if g then (nanR, Flags.nv)
      else if m == 2 ^ Nat.log2 m then exactF32 (.dy (decide (top < 0)) top.natAbs 0)
      else specialFree 5 w (ofFix (log2Fix m e))
    | 6 =>
      if x.isMultiple 0 then (if g then 0x80000000 else 0, 0)
      else if x.isMultiple (-1) then (if (x.quotient (-1)) % 4 == 1 then 0x3F800000 else 0xBF800000, 0)
      else specialFree 6 w (ofFix (sinPiFix (mod2Fix x)))
    | 7 =>
      if x.isMultiple 0 then (if (x.quotient 0) % 2 == 0 then 0x3F800000 else 0xBF800000, 0)
      else if x.isMultiple (-1) then (0, 0)
      else specialFree 7 w (ofFix (sinPiFix ((mod2Fix x + 2 ^ (spPlaces - 1)) % (2 * 2 ^ spPlaces))))
    | 8 => if z then (w, 0) else specialFree 8 w (tanhX x)
    | _ => if z then (0x3F000000, 0) else specialFree 9 w (sigX x)

end Sys2Proof.Machine
end

