-- ==== Sys2Proof/Machine/Assoc.lean ====
section
/-!
DEFINITION. Sparse tables: the form in which the state holds a numbered set of like things (registers,
elements, tiles, records). A number that is not listed reads as the default of the thing, which is its
value before anything has been written.
-/

namespace Sys2Proof.Machine

/-- A table from numbers to things, in ascending order of the numbers. -/
abbrev Table (α : Type) := List (Nat × α)

/-- The thing at number `k`; the default where none is listed. -/
def Table.get {α : Type} [Inhabited α] (t : Table α) (k : Nat) : α :=
  match t with
  | [] => default
  | (j, x) :: r => if j = k then x else Table.get r k

/-- The table with `x` at number `k`. -/
def Table.set {α : Type} (t : Table α) (k : Nat) (x : α) : Table α :=
  match t with
  | [] => [(k, x)]
  | (j, y) :: r => if k < j then (k, x) :: (j, y) :: r else if j = k then (k, x) :: r else (j, y) :: Table.set r k x

/-- The table with the thing at number `k` changed by `f`. -/
def Table.modify {α : Type} [Inhabited α] (t : Table α) (k : Nat) (f : α → α) : Table α := t.set k (f (t.get k))

/-- The thing at number `k`, if it is listed. -/
def Table.find {α : Type} (t : Table α) (k : Nat) : Option α :=
  match t with
  | [] => none
  | (j, x) :: r => if j = k then some x else Table.find r k

/-- The table without number `k`. -/
def Table.erase {α : Type} (t : Table α) (k : Nat) : Table α := t.filter fun p => p.1 != k

/-- The table with every listed thing changed by `f`. -/
def Table.mapAll {α : Type} (t : Table α) (f : Nat → α → α) : Table α := t.map fun p => (p.1, f p.1 p.2)

end Sys2Proof.Machine
end

