-- ==== Sys2Proof/Machine/State.lean ====
section
/-!
DEFINITION. The state of the package: plain data that holds every piece of state the spec gives the machine
(INVENTORY.md, State), and its value after reset. A thing that is not listed in a table reads as its default, which
is its value before the loader or software has written it.
-/

namespace Sys2Proof.Machine

/-! ## Tokens and queues -/

/-- Whether data are known bad, and why (R24, R206, R394). -/
inductive Poison where
  | clean
  /-- The data are known bad. -/
  | data
  /-- The data were lost with a link. -/
  | link
  deriving DecidableEq, Repr, Inhabited

/-- A token (Table 1.5). -/
structure Tok where
  data : Vec := Lanes.fill 0
  tag : BitVec 4 := 0
  head : Bool := true
  tail : Bool := true
  poison : Poison := .clean
  reqtag : BitVec 16 := 0
  ctxno : BitVec 14 := 0
  itertag : BitVec 16 := 0
  deriving DecidableEq, Repr, Inhabited

/-- The ownership tag of a token (R23). -/
def Tok.owner (t : Tok) : Owner := ⟨t.ctxno, t.reqtag⟩

/-- A queue entry holds a token, or is reserved for the response of a request (R86, R87). -/
inductive QEntry where
  | tok (t : Tok)
  | resv (req : Nat)
  deriving DecidableEq, Repr, Inhabited

/-! ## Banks -/

/-- A register with its valid bit, poison and pending mark (R135). -/
structure Reg where
  val : Vec := Lanes.fill 0
  valid : Bool := false
  poison : Poison := .clean
  pending : Bool := false
  deriving DecidableEq, Repr, Inhabited

/-- A predicate with its pending mark (R135). -/
structure Pred where
  val : Mask := Lanes.fill false
  pending : Bool := false
  deriving DecidableEq, Repr, Inhabited

/-- The state of a bank (R137). -/
inductive BankSt where
  | active
  | spilling
  | free
  | reinstating
  deriving DecidableEq, Repr, Inhabited

/-- A fault cause code (Table 22.1). -/
abbrev Cause := BitVec 8

/-- A register bank (R35, R135, R162, R25). -/
structure Bank where
  /-- v0 to v14. -/
  regs : Table Reg := []
  /-- q0 to q6. -/
  preds : Table Pred := []
  e : BitVec 8 := 0
  flags : BitVec 6 := 0
  reqtag : BitVec 16 := 0
  itertag : BitVec 16 := 0
  st : BankSt := .active
  /-- A fire-time fault of the bank is not yet disposed of (R421). -/
  halted : Bool := false
  /-- The context, slot and cause that the next fire of that slot passes over, after an `hret` that retries it (Table 22.1). -/
  waive : Option (Nat × Nat × Cause) := none
  /-- How often the bank has been allocated: a response of an earlier allocation is discarded (R121). -/
  epoch : Nat := 0
  deriving DecidableEq, Repr, Inhabited

/-! ## Elements -/

/-- What a configuration context of an element holds (R28, R34). -/
structure ElemCtx where
  /-- Slots 0 to 31; an unlisted slot is empty (R30). -/
  slots : Table Word := []
  /-- k0 to k3. -/
  k : Table Vec := []
  deriving DecidableEq, Repr, Inhabited

/-- A counter of an A-element (R77). -/
structure Counter where
  base : Word := 0
  n : Word := 0
  step : Word := 1
  idx : Word := 0
  chain : Bool := false
  deriving DecidableEq, Repr, Inhabited

/-- The presence, generation and use of a frame (R107 to R109, R145). -/
structure FrameSt where
  alloc : Bool := false
  gen : BitVec 4 := 0
  /-- The frame has completed and is not yet wholly emitted. -/
  emitting : Bool := false
  /-- Presence bits of the 16 slots. -/
  here : BitVec 16 := 0
  /-- The ownership tag and the iteration of the last `fput`, or, before it, of the `falloc` (R149, log entry 49). -/
  owner : Owner := ⟨0, 0⟩
  itertag : BitVec 16 := 0
  deriving DecidableEq, Repr, Inhabited

/-- A completed frame or level that is being emitted, or waits to be (R145, R146). -/
structure Emission where
  /-- The frame; 0 in loop-nest mode. -/
  frame : Nat
  /-- The storage slots whose tokens are still to be emitted, in order. -/
  todo : List Nat
  first : Bool
  ctxno : BitVec 14
  reqtag : BitVec 16
  itertag : BitVec 16
  deriving DecidableEq, Repr, Inhabited

/-- What a yielded bank waits for (Table 6.3, wkind). -/
inductive WaitCond where
  /-- A full/empty word: its address in the one map, its space and its address there. -/
  | word (space1 : Bool) (waddr : Nat) (addr : Nat)
  /-- A mask of scoreboard tokens. -/
  | tokens (mask : BitVec 8)
  /-- The release form: it is met at once, when the spill ends (R336). -/
  | release
  deriving DecidableEq, Repr, Inhabited

/-- The state of a spill record (Table 6.3). -/
inductive SpillSt where
  | free
  /-- The copy into the record is not yet done (R139). -/
  | filling
  | waiting
  | eligible
  | reinstating
  deriving DecidableEq, Repr, Inhabited

/-- A spill record (R142, Table 6.3). -/
structure SpillRec where
  st : SpillSt := .free
  /-- The bank as the spill copied it, as the responses of R121 have changed it. -/
  image : Bank := {}
  elem : ElemId := ⟨⟨0, 0, 0⟩, 0⟩
  bank : Nat := 0
  cond : WaitCond := .release
  /-- The place in the order in which images became eligible (R141). -/
  order : Nat := 0
  /-- The ordering outputs of the `yield`, the name they are reserved under, and the token that fills them (R324). -/
  outs : BitVec 6 := 0
  resv : Nat := 0
  otok : Tok := {}
  deriving DecidableEq, Repr, Inhabited

/-- The frame allocator and spill area of an S-element (R142 to R149). -/
structure FrameUnit where
  /-- The frame word the image gave (Table 14.5); 0 where it gave none. -/
  word : BitVec 64 := 0
  frames : Table FrameSt := []
  /-- The loop-nest counter (R147). -/
  lnc : Nat := 0
  loopOver : Bool := false
  /-- The presence bits of the storage slots in loop-nest mode. -/
  here : List Nat := []
  /-- The sideband of the last `fput` that a level took (R148). -/
  lastOwner : Owner := ⟨0, 0⟩
  lastIter : BitVec 16 := 0
  /-- The cycle of the region's clock in which the level last changed or an `fput` was last applied (R147, R149). -/
  steppedAt : Option Nat := none
  /-- The cycle and the element position of the last request that was applied (R109, R149). -/
  servedAt : Option (Nat × Nat) := none
  /-- The cycle whose completion tests are still to be made (R149). -/
  testAt : Option Nat := none
  /-- The completed frames, in the order of their completion (R146). -/
  emitq : List Emission := []
  /-- The stale-handle count (R109). -/
  stale : BitVec 16 := 0
  spill : Table SpillRec := []
  deriving DecidableEq, Repr, Inhabited

/-! ## Services of the driver, and the units of A- and M-elements -/

/-- Whether an engine waits for the driver at a translation fault (R221, R222). -/
inductive Svc where
  | clear
  /-- The die and sequence number of the record written for it, the address that failed, and those already refused. -/
  | asked (tr : Nat × Nat) (va : Nat) (old : List Nat)
  /-- The driver has refused the addresses: the faults are final. -/
  | refused (vas : List Nat)
  deriving DecidableEq, Repr, Inhabited

/-- An accumulator of an M-element (R265). -/
structure Acc where
  /-- Entry [r][n] at number 16r + n. -/
  ent : Table Word := []
  poison : Poison := .clean
  chk : Bool := false
  rc : Table Word := []
  cc : Table Word := []
  prune : BitVec 4 := 0
  deriving DecidableEq, Repr, Inhabited

/-- The kinds of operation that the intake serves (R265). -/
inductive MatKind where
  | mma
  | mmam
  | mmas
  | macl
  | scout
  deriving DecidableEq, Repr, Inhabited

/-- An operation in the intake of an M-element (R268, R270). -/
structure Intake where
  req : Nat
  kind : MatKind
  acc : Nat
  /-- The format code of Table 12.9. -/
  fmt : Nat
  aq : Nat
  bq : Nat
  nk : Nat
  kmask : BitVec 64
  /-- The tiles still to be taken, in ascending order. -/
  todo : List Nat
  /-- The bursts of the tile under way. -/
  acur : List Tok := []
  bcur : List Tok := []
  adone : Bool := false
  bdone : Bool := false
  /-- The bursts taken, tile by tile. -/
  tiles : List (List Tok × List Tok) := []
  /-- What a malformed burst or a poisoned token leaves in the accumulator (R270, R394). -/
  bad : Poison := .clean
  /-- Bits that a soft error has changed in a cell's running sum: the cell, the group after which it strikes, and the bits (R311). -/
  upsets : List (Nat × Nat × Word) := []
  deriving DecidableEq, Repr, Inhabited

/-- A drain in progress (R272). -/
structure Drain where
  req : Nat
  acc : Nat
  /-- 0 f32, 1 bf16, 2 f16. -/
  fmt : Nat
  rm : BitVec 2
  cls : Nat
  keep : Bool
  /-- The prune setting at the fire (R273). -/
  prune : BitVec 4
  otag : BitVec 4
  /-- Tokens sent so far. -/
  sent : Nat := 0
  /-- The flags of the conversions so far, which bank 0 takes when the drain completes (R163, R272). -/
  flags : BitVec 6 := 0
  deriving DecidableEq, Repr, Inhabited

/-- The hash register of an element (R350). -/
structure HashReg where
  tile : Option TileId := none
  quarter : Nat := 0
  lg : Nat := 0
  op : Nat := 0
  deriving DecidableEq, Repr, Inhabited

/-- An element (R16, R17, R35). -/
structure Elem where
  iq : Table (List QEntry) := []
  oq : Table (List QEntry) := []
  pref : BitVec 2 := 0
  banks : Table Bank := []
  ctxs : Table ElemCtx := []
  /-- The 64 trigger entries; 0 is the null entry (R37). -/
  trigs : Table (BitVec 64) := []
  /-- The contexts whose image defined a trigger entry (R39). -/
  defs : Table (BitVec 4) := []
  /-- Control-token counts of the 16 channels (R65). -/
  ctl : Table Nat := []
  ctlOver : Bool := false
  touchFaults : BitVec 16 := 0
  counters : Table Counter := []
  frame : FrameUnit := {}
  /-- The spill record that the serving S-element offers in this cycle (R457). -/
  offer : Option Nat := none
  /-- How many exit entries the element has made (R435). -/
  exits : Nat := 0
  /-- The busy bits and the status words of sb0 to sb7 (R247). -/
  sbBusy : BitVec 8 := 0
  sbStat : Table Word := []
  /-- ac0 and ac1, the intake controls and the injection word (R265, R312). -/
  acs : Table Acc := []
  nk : Nat := 1
  kmask : BitVec 64 := BitVec.allOnes 64
  injw : BitVec 32 := 0
  intake : Option Intake := none
  drain : Option Drain := none
  hash : HashReg := {}
  /-- The class that the router granted last at iq4 (R384). -/
  granted : Option Nat := none
  deriving DecidableEq, Repr, Inhabited

/-- Where a slot word that is being executed stands. -/
structure Cur where
  elem : ElemId := ⟨⟨0, 0, 0⟩, 17⟩
  /-- The configuration context of the slot. -/
  cc : Nat := 0
  slot : Nat := 0
  deriving DecidableEq, Repr, Inhabited

/-! ## Faults -/

/-- A recorded fault (R421), with what its fault record says (Table 22.3). -/
structure FaultRec where
  region : Nat
  cause : Cause
  /-- Raised at a home, by a command or by a gateway, after its fire. -/
  async : Bool := false
  elem : ElemId := ⟨⟨0, 0, 0⟩, 0⟩
  cc : Nat := 0
  slot : Nat := 0
  trig : Nat := 0
  bank : Nat := 0
  ctxno : BitVec 14 := 0
  reqtag : BitVec 16 := 0
  itertag : BitVec 16 := 0
  /-- The scoreboard token of a command. -/
  sb : Option Nat := none
  word : Word := 0
  info : Nat := 0
  addr : Nat := 0
  opa : Vec := Lanes.fill 0
  opb : Vec := Lanes.fill 0
  /-- The parked access or command, where the fault is not of a fire. -/
  req : Option Nat := none
  /-- Raised by a slot of cc3 in handler mode, or by a token of the handler (R424). -/
  inHandler : Bool := false
  /-- The cycle of the region's clock in which it was recorded (R421). -/
  time : Nat := 0
  deriving DecidableEq, Repr, Inhabited

/-! ## Requests in flight -/

/-- The spaces of Table 4.1. -/
inductive Space where
  | x
  | m
  | g
  deriving DecidableEq, Repr, Inhabited

/-- The operations of majors 0x26 and 0x27 (Table 4.4). -/
inductive AtomOp where
  | add
  | minS
  | minN
  | maxS
  | maxN
  | and
  | or
  | xor
  | fadd
  | xch
  | cas
  deriving DecidableEq, Repr, Inhabited

/-- What a load does with its destination (R97). -/
inductive LoadMode where
  | data
  | touch
  | probe
  deriving DecidableEq, Repr, Inhabited

/-- What a request asks for (R94 to R120). -/
inductive ReqOp where
  /-- A load of `w` bytes a lane; `vec` is one access of 32 bytes. -/
  | load (w : Nat) (signed vec : Bool) (mode : LoadMode)
  | store (w : Nat) (vec : Bool)
  /-- A range touch of `len` bytes (R98). -/
  | rangeTouch (len : Nat)
  | ldf
  | stf
  | atomic (op : AtomOp)
  | arv
  /-- With the phase operand. -/
  | awt (p : Nat)
  | arw
  | ioread
  | iowait
  | falloc (sel : Nat)
  | fput (handle : Word)
  | ffree (handle : Word)
  /-- The range requests of R340; their operand is in `data`. -/
  | rset
  | rget
  | rfree
  /-- `seal` and `unseal` of a range (R342, R343). -/
  | sealRange (base len : Nat)
  | unsealRange (base len : Nat)
  /-- `launch` of the record at a virtual address (R333). -/
  | launch (addr : Nat)
  /-- The hash requests of R351 to R353; keys and values are in `expd` and `data`. -/
  | hrow
  | hins
  | hspill
  /-- `gsend` with the operation of its entry (R264); its lanes are its parts. -/
  | gsend (op : Nat)
  /-- A stream of a port (R250); the descriptor is in `blk`. -/
  | stream (port : Nat)
  /-- A copy (R255); its parameter block is in `blk`. -/
  | copy
  /-- An operation of the intake, a drain, a threshold request (R265, R272, R347). -/
  | matrix
  | drain
  | thresh (top : Bool) (acc : Nat)
  /-- A page selection (R348): the descriptor, the staging descriptor and the query are in `blk`. -/
  | pgsel
  deriving DecidableEq, Repr, Inhabited

/-- A fault that holds an access or a command where it stands (R220). -/
structure Park where
  cause : Cause
  /-- The first failing address (Table 22.3). -/
  addr : Nat
  /-- The die and sequence number of the translation record written for it, while service is awaited (R221). -/
  tr : Option (Nat × Nat) := none
  /-- The fault is final (R222). -/
  final : Bool := false
  deriving DecidableEq, Repr, Inhabited

/-- How far a request has come. -/
inductive Stage where
  /-- A release that waits at the memory interface for the accesses before it (R92). -/
  | held
  /-- An exit entry of a later iteration, in the hold buffer (R420). -/
  | exitHeld
  /-- An exit entry of a twin region, before the comparator (R435). -/
  | twin
  /-- An exit entry of copy 1 whose agreeing entry of copy 0 is performed for both (R435). -/
  | mate
  /-- At the memory interface or at its unit, to be translated or taken. -/
  | sent
  /-- At its homes: its parts are served one by one (R90, R195). -/
  | atHome
  /-- A waiting request at its home, with its place in the order of arrival (R100, R101). -/
  | waiting (arrival : Nat)
  /-- Parked with a fault (R220). -/
  | parked (p : Park)
  /-- Performed; its response has not yet arrived (R85). -/
  | performed
  deriving DecidableEq, Repr, Inhabited

/-- A part of an access: bytes of one lane at consecutive addresses of the one map, served by one home in one step (R91,
R195). `lane` 8 stands for all the lanes of a vector access. -/
structure Part where
  lane : Nat
  /-- The place of the first byte in the lane, or in the 32 bytes of a vector access. -/
  off : Nat
  addr : Nat
  len : Nat
  deriving DecidableEq, Repr, Inhabited

/-- A byte that a copy moves: where it goes, and where it comes from; none where the source meets a final fault. -/
structure ByteMove where
  dst : Nat
  src : Option Nat
  deriving DecidableEq, Repr, Inhabited

/-- An aligned 32-byte block of a copy's destination that a checked chunk is still to write (R236, R259). -/
structure CopyBlock where
  chunk : Nat
  block : Nat
  moves : List ByteMove
  deriving DecidableEq, Repr, Inhabited

/-- An aligned 32-byte block of a copy's source that has been read for a chunk: its bytes, their poison, and whether they were lost with
a link (R236, R260). -/
structure SrcBlock where
  chunk : Nat
  block : Nat
  bytes : List Byte
  pois : Poison
  lost : Bool
  deriving DecidableEq, Repr, Inhabited

/-- A token that a read stream has issued and not yet delivered (R253): the blocks still to be read, and what they have brought; `st` is
the code that it adds to the stream's status. -/
structure Ahead where
  parts : List Part := []
  data : Nat := 0
  pois : Poison := .clean
  st : Nat := 0
  deriving DecidableEq, Repr, Inhabited

/-- A request in flight, from its fire to its response (R84 to R93). -/
structure Req where
  id : Nat := 0
  op : ReqOp := .ldf
  elem : ElemId := ⟨⟨0, 0, 0⟩, 0⟩
  bank : Nat := 0
  /-- The allocation of the bank that issued it (R121). -/
  epoch : Nat := 0
  /-- The spill record that holds the bank, once the bank has yielded (R121). -/
  image : Option Nat := none
  cc : Nat := 0
  slot : Nat := 0
  trig : Nat := 0
  word : Word := 0
  opa : Vec := Lanes.fill 0
  opb : Vec := Lanes.fill 0
  ctxno : BitVec 14 := 0
  reqtag : BitVec 16 := 0
  itertag : BitVec 16 := 0
  space : Space := .x
  /-- The address of each lane; a form with one address holds it in lane 0. -/
  addr : Lanes Nat := Lanes.fill 0
  guard : Mask := Lanes.fill false
  data : Vec := Lanes.fill 0
  /-- The expected value of `acas` (R104). -/
  expd : Vec := Lanes.fill 0
  /-- The destination operand code; 15 where there is none. -/
  dest : BitVec 5 := 15
  otag : BitVec 4 := 0
  head : Bool := true
  tail : Bool := true
  /-- The ordering outputs, and the token that fills them (R87). -/
  outs : BitVec 6 := 0
  otok : Tok := {}
  scope : Nat := 0
  release : Bool := false
  acquire : Bool := false
  /-- An exit entry (R420). -/
  exit : Bool := false
  /-- Issued by a slot of cc3 in handler mode (R420, R424). -/
  inHandler : Bool := false
  /-- Its number among the exit entries of its element (R435). -/
  exitNo : Nat := 0
  /-- The agreeing entry of copy 1, which takes the same result (R435). -/
  mate : Option Nat := none
  /-- A part has been served. -/
  started : Bool := false
  /-- The words on which lanes of an atomic have acted (R103). -/
  acted : List Nat := []
  /-- The fault of the access is passed over once, after an `hret` that retries it (Table 22.1). -/
  waive : Bool := false
  /-- The address regions it was translated through, for R219: virtual base, bytes and space. -/
  pages : List (Nat × Nat) := []
  stage : Stage := .sent
  /-- The parts that are not yet served. -/
  parts : List Part := []
  /-- What the lanes have returned, and its poison. -/
  result : Vec := Lanes.fill 0
  rpois : Lanes Poison := Lanes.fill .clean
  /-- The scoreboard token of a command (R247). -/
  sb : Nat := 0
  /-- What a command has captured: a descriptor or a block. -/
  blk : Nat := 0
  /-- The offset of a stream (R250). -/
  off : Word := 0
  /-- The tokens, chunks, entries or slots done. -/
  prog : Nat := 0
  got : Nat := 0
  st : Nat := 0
  svc : Svc := .clear
  /-- `sstop` has ended the stream (R250). -/
  stop : Bool := false
  /-- Parked by a pre-emption request (Table 12.5). -/
  preempted : Bool := false
  /-- The page selection that made the start (R349). -/
  parent : Option Nat := none
  /-- The scored pages: index, score, page address (R349). -/
  scores : List (Nat × Word × Nat) := []
  /-- The selected pages: index and page address (R349). -/
  picks : List (Nat × Nat) := []
  /-- Waits in an exit comparator, in cycles (R436). -/
  age : Nat := 0
  /-- The peer ports whose link was lost while the command was under way (R395). -/
  lostPorts : List Nat := []
  /-- What the checked chunks of a copy have still to write, the source blocks that they have read, and the chunks that have met a
  fault (R259, R260). -/
  todo : List CopyBlock := []
  cache : List SrcBlock := []
  badChunks : List Nat := []
  /-- The tokens that a read stream has issued and not yet delivered, in their order (R253). -/
  ahead : List Ahead := []
  deriving DecidableEq, Repr, Inhabited

/-- The request is performed (R88); only its response is outstanding. -/
def Req.performed (r : Req) : Bool := r.stage == .performed

/-! ## Regions -/

/-- A switch request on its way to the controller, or its status on the way back (R303). -/
structure SwitchReq where
  elem : ElemId
  bank : Nat
  epoch : Nat
  image : Option Nat := none
  dest : BitVec 5
  guard : Mask
  target : BitVec 2
  /-- The cycle of the region's clock in which the request reaches the controller (R303). -/
  due : Nat := 0
  /-- The outcome, once the controller has settled the request (Table 3.4). -/
  status : Option Bool := none
  deriving DecidableEq, Repr, Inhabited

/-- The states of a region (Table 19.1); a released region is not live. -/
inductive Life where
  | loading
  | running
  | finishing
  | folding
  | saving
  | restoring
  deriving DecidableEq, Repr, Inhabited

/-- The states of a switch controller (Table 14.10). -/
inductive SwSt where
  | running
  | draining
  | settling
  deriving DecidableEq, Repr, Inhabited

/-- The phases of handler mode (R422, R423). -/
inductive HPhase where
  | off
  | entering
  | on
  | leaving
  deriving DecidableEq, Repr, Inhabited

/-- A token in a route class, with the source that a reject entry names (Table 14.12). -/
structure Flit where
  tok : Tok
  skind : Nat
  sid : Nat
  src : TileId
  /-- The hops it has made from its source router, its place in the order of the buffer where it stands, and whether the target's
  router holds it for delivery (R287, R383). -/
  hop : Nat := 0
  arr : Nat := 0
  landed : Bool := false
  deriving DecidableEq, Repr, Inhabited

/-- A tile router (R383): for each output, 0 to 3 as a direction, 4 local and 5 an endpoint or link port, the input that it granted
last and whether it granted memory traffic last. -/
structure Router where
  grants : Table Nat := []
  memory : Table Bool := []
  /-- How many flits have entered a buffer through the router. -/
  count : Nat := 0
  deriving DecidableEq, Repr, Inhabited

/-- A stream port (R250). -/
structure Port where
  staging : Nat := 0
  /-- The element position and counter of the binding. -/
  bound : Option (Nat × Nat) := none
  running : Option Nat := none
  waiting : Option Nat := none
  /-- The page selection that owns the port (R400). -/
  owner : Option Nat := none
  /-- The token that the router has handed to the port and its write stream has not yet written. -/
  inbox : List Tok := []
  /-- The class that the router granted last at the port (R384). -/
  granted : Option Nat := none
  deriving DecidableEq, Repr, Inhabited

/-- The state of a hash row (R350). -/
inductive RowSt where
  | closed
  | opened
  /-- The row is being rolled back, one undo entry in a step (R396). -/
  | rolling
  | failed
  deriving DecidableEq, Repr, Inhabited

/-- The monitor of a compute tile (R355, R454). -/
structure Monitor where
  cfg : Word := 0
  base : Word := 0
  low : Word := 0xFFFFFFFF
  high : Word := 0
  bins : Table Word := []
  deriving DecidableEq, Repr, Inhabited

/-- A translation that a TLB holds (R217). -/
structure TlbEnt where
  space : Nat
  vbase : Nat
  size : Nat
  frame : Nat
  rd : Bool
  wr : Bool
  atom : Bool
  deriving DecidableEq, Repr, Inhabited

/-- A compute tile (R18). -/
structure Tile where
  /-- The route-class table (Table 14.7). -/
  routes : Table (BitVec 64) := []
  /-- The misroute count (R290). -/
  misroute : BitVec 16 := 0
  mon : Monitor := {}
  /-- The tokens in each route class of the table, the first entered first (R287, R288). -/
  classes : Table (List Flit) := []
  /-- The cycle in which a token last entered each route class, and the place of its source among those of one cycle (R286). -/
  entered : Table (Nat × Nat) := []
  ports : Table Port := []
  /-- The routed-update table: operation and base (R263). -/
  ents : Table (Nat × Nat) := []
  /-- The parameter blocks that the cache holds, by address in the one map (R256). -/
  cache : List Nat := []
  /-- The first-level TLB of 512 entries, the oldest first (R217). -/
  tlb : List TlbEnt := []
  /-- The accesses in the miss queue of 32, in the order in which they entered it (R217). -/
  missq : List Nat := []
  /-- The faulting access that the miss queue keeps while the park list is full (R220). -/
  kept : Option Nat := none
  deriving DecidableEq, Repr, Inhabited

/-- A quarter of a memory tile (R200 to R203, R350). -/
structure Quarter where
  /-- The quarter word (Table 14.8). -/
  word : BitVec 128 := 0
  /-- The tokens of a FIFO; the burst or the line under way of a tile store or a line buffer. -/
  held : List Tok := []
  /-- The bursts of a line buffer that are due or leaving, the oldest first: the ring places of its lines, and the tokens left. -/
  bursts : List (List Nat × List Tok) := []
  /-- The burst that the reading generator of a tile store sends: the tokens sent, and all of them. -/
  sending : Option (Nat × Nat) := none
  /-- The places of the writing and the reading generator in the order of arrival at their buffer words (R101, R201). -/
  placeW : Nat := 0
  placeR : Nat := 0
  /-- The class that the router granted last at the quarter (R384). -/
  granted : Option Nat := none
  /-- The complete lines of a line buffer: the place in the ring, and the last token written. -/
  lines : List (Nat × Tok) := []
  /-- The next line or buffer to be written, and the next buffer to be read. -/
  nextW : Nat := 0
  nextR : Nat := 0
  row : RowSt := .closed
  /-- The undo log of the open row, the newest first: slot, old value, was empty. -/
  log : List (Nat × Word × Bool) := []
  rowOwner : Owner := ⟨0, 0⟩
  deriving DecidableEq, Repr, Inhabited

/-- A memory tile (R19). -/
structure MemTile where
  quarters : Table Quarter := []
  deriving DecidableEq, Repr, Inhabited

/-- What a save keeps of a region (R381), at the places it had. -/
structure Saved where
  origin : BlockId := ⟨0, 0⟩
  rows : Nat := 0
  cols : Nat := 0
  variant : Nat := 0
  active : BitVec 2 := 0
  loaded : BitVec 4 := 0
  head : BitVec 16 := 0
  mem : List Host.Cell := []
  full : List Nat := []
  pois : Table Poison := []
  elems : Table Elem := []
  tiles : Table Tile := []
  mtiles : Table MemTile := []
  reqs : List Req := []
  faults : List FaultRec := []
  switches : List SwitchReq := []
  ctls : List (ElemId × Nat) := []
  sw : SwSt := .running
  impure : Bool := false
  still : Nat := 0
  first : Bool := true
  clock : Nat := 0
  deriving DecidableEq, Repr, Inhabited

/-- An accepted launch (R328, R369). -/
structure Launch where
  /-- The acceptance number (R369). -/
  acc : Nat := 0
  /-- The die whose queue holds it. -/
  die : Nat := 0
  /-- The launch record (Table 16.3). -/
  recd : Nat := 0
  /-- The region whose `launch` queued it (R431). -/
  queuedBy : Option Nat := none
  /-- The argument block as read at the capture (Table 16.4). -/
  args : Nat := 0
  /-- The next lookup is a miss (R405). -/
  miss : Bool := false
  /-- The key of the lookup (R403); none where its input could not be read (R404). -/
  key : Option Nat := none
  /-- The seal pairs recorded at the lookup (R404). -/
  pairs : List (Option (Nat × BitVec 32)) := []
  saved : Option Saved := none
  /-- What was saved of copy 1 of a twin pair (R372). -/
  saved1 : Option Saved := none
  /-- Variants that are never again a fold target (R458). -/
  noFold : List Nat := []
  svc : Svc := .clear
  deriving DecidableEq, Repr, Inhabited

/-- A region and the task it runs (R22, R374). -/
structure Region where
  /-- A task is resident. -/
  live : Bool := false
  ctxno : BitVec 14 := 0
  /-- The request tag of the launch (R27, R136). -/
  reqtag : BitVec 16 := 0
  origin : BlockId := ⟨0, 0⟩
  rows : Nat := 0
  cols : Nat := 0
  /-- The wide-window table: region-relative row and column of slots 4 to 63 (R198). -/
  window : Table (Option (Nat × Nat)) := []
  /-- The head iteration of the retire unit (R419). -/
  head : BitVec 16 := 0
  /-- The result range of a pure task: base and bytes (R327). -/
  resBase : Nat := 0
  resLen : Nat := 0
  /-- The active configuration context. -/
  active : BitVec 2 := 0
  /-- The configuration contexts that hold a loaded image (R298). -/
  loaded : BitVec 4 := 0
  /-- Handler mode: cc3 is active because a trap is being handled (R325). -/
  handler : Bool := false
  /-- The task is a pure launch (Table 16.3). -/
  pure : Bool := false
  /-- The scalars of its argument block, as captured (R409). -/
  nsc : Nat := 0
  /-- The task has committed a purity violation (R410). -/
  impure : Bool := false
  /-- The other region of a twin pair, and whether this is copy 0 (R372, R435). -/
  twin : Option (Nat × Bool) := none
  /-- The launch, and the variant that runs. -/
  task : Launch := {}
  variant : Nat := 0
  life : Life := .running
  /-- The load waits until the region is idle (R299). -/
  waits : Bool := false
  /-- The region has passed to a successor, whose variant its load chooses (R331). -/
  passed : Bool := false
  /-- This is the first load since the blocks were granted (R297). -/
  first : Bool := true
  svc : Svc := .clear
  sw : SwSt := .running
  target : BitVec 2 := 0
  /-- A switch that a trap has abandoned, to be taken up when handler mode ends (R422). -/
  again : Option (BitVec 2) := none
  /-- The clock of the region's island, in cycles: it orders what happens in one cycle (R64, R421). -/
  clock : Nat := 0
  /-- Cycles of the switch drain or the settling under way. -/
  swAge : Nat := 0
  /-- Cycles of the waiting load, the fold drain or the settling of `tdone` under way. -/
  age : Nat := 0
  hphase : HPhase := .off
  /-- The context that the trap interrupted, the fault, and the form of the `hret` that fired (R423). -/
  hctx : BitVec 2 := 0
  hfault : Option FaultRec := none
  hform : Nat := 0
  /-- Cycles of handler entry or exit. -/
  hage : Nat := 0
  still : Nat := 0
  /-- Something of the region has moved in this cycle (R385). -/
  moved : Bool := false
  resid : Nat := 0
  /-- The minimum residency, and whether it is the measured time of a restore (R377). -/
  minres : Nat := 0
  restored : Bool := false
  /-- The user word of the first `tdone` (R335). -/
  done : Option Word := none
  /-- The offer to the reuse table has ended (R406), or its entry is being made. -/
  offered : Bool := false
  inserting : Option Nat := none
  dry : Nat := 0
  /-- The target of a fold under way, and a save that is asked for (R378, R381). -/
  fold : Option Nat := none
  saveAsked : Bool := false
  /-- Cycles spent in restoring (R377). -/
  rage : Nat := 0
  deriving DecidableEq, Repr, Inhabited

/-! ## Memory tiles, translation and seals -/

/-- The states of a seal entry (Table 16.9). -/
inductive SealSt where
  | free
  | hashing
  | sealed
  | unsealed
  deriving DecidableEq, Repr, Inhabited

/-- An entry of the seal table (R341). -/
structure SealEnt where
  space : Nat := 0
  base : Nat := 0
  len : Nat := 0
  st : SealSt := .free
  gen : BitVec 32 := 0
  digest : Vec := Lanes.fill 0
  /-- The place in the order of sealing. -/
  order : Nat := 0
  deriving DecidableEq, Repr, Inhabited

/-- An outstanding translation request record (R221). -/
structure TransRec where
  die : Nat
  seq : Nat
  /-- The address of the record in companion memory; none where no queue was set. -/
  place : Option Nat
  space : Nat
  va : Nat
  /-- What waited under it has been released by the answer to another record or removed by a purge: its own answer has no effect (R222). -/
  spent : Bool := false
  deriving DecidableEq, Repr, Inhabited

/-! ## Dies -/

/-- A range of a range unit (R339). -/
structure RangeEnt where
  live : Bool := false
  next : Word := 0
  stop : Word := 0
  least : Nat := 0
  cons : Nat := 0
  gen : BitVec 8 := 0
  owner : Owner := ⟨0, 0⟩
  deriving DecidableEq, Repr, Inhabited

/-- The states of a reuse entry (Table 20.2). -/
inductive ReuseSt where
  | free
  | inserting
  | live
  | dead
  deriving DecidableEq, Repr, Inhabited

/-- A reuse entry (Table 20.2). -/
structure Reuse where
  key : Nat := 0
  space : Nat := 0
  st : ReuseSt := .free
  rlen : Nat := 0
  roff : Nat := 0
  /-- The seal entry and generation of each argument range. -/
  pairs : List (Nat × BitVec 32) := []
  owner : Owner := ⟨0, 0⟩
  /-- The place in the order of hits and insertions (R407). -/
  used : Nat := 0
  deriving DecidableEq, Repr, Inhabited

/-- What each die holds for its management and its units. -/
structure Die where
  /-- The launch word and its full bit (R332, Table 23.1). -/
  lw : BitVec 64 := 0
  lwFull : Bool := true
  lwSvc : Svc := .clear
  /-- The record that the queue has captured from the launch word and not yet accepted or refused (R328, R332). -/
  cap : Option Nat := none
  busy : Bool := false
  res : BitVec 3 := 0
  rval : Word := 0
  refl : BitVec 16 := 0
  lostl : BitVec 16 := 0
  ntf : BitVec 5 := 0
  /-- The interrupt messages that the die has sent over the Thevel link (R440). -/
  msgs : Nat := 0
  isl : BitVec 16 := 0
  /-- The command record of the window (Table 23.2), and the record that a running command has captured. -/
  crec : BitVec 512 := 0
  run : Option (BitVec 512) := none
  /-- The result and value that the running command will report; none while it goes on. -/
  fin : Option (BitVec 3 × Word) := none
  /-- The translation queue: base, records and next sequence number (R221, R442). -/
  tqBase : Nat := 0
  tqLen : Nat := 0
  tqSeq : Nat := 0
  /-- The bases of the space table (R216) and of the channel table (R445); none before their commands. -/
  spaceBase : Option Nat := none
  chanBase : Option Nat := none
  /-- The second-level TLB of 65,536 entries, the oldest first (R217). -/
  tlb : List TlbEnt := []
  ranges : Table RangeEnt := []
  /-- The seal requests whose ranges are to be hashed, in the order of their marks (R342). -/
  sealq : List Nat := []
  reuse : Table Reuse := []
  rsBase : Nat := 0
  rsLen : Nat := 0
  quota : Table Nat := []
  deriving DecidableEq, Repr, Inhabited

/-- The phases of a purge (Table 22.4); a queued purge waits for its engine. -/
inductive PurgeSt where
  | queued
  | marking
  | sweeping
  | recording
  deriving DecidableEq, Repr, Inhabited

/-- A purge (R429 to R432). -/
structure Purge where
  die : Nat
  owner : Owner
  cause : Cause
  st : PurgeSt := .queued
  /-- The consuming banks, with their allocations, where faults of fires asked for the purge (R430): they stay halted until the
  marking (R421). -/
  banks : List (ElemId × Nat × Nat) := []
  /-- The halted banks of faults whose banks keep what they hold; their halts end with the marking (R418, R421). -/
  halts : List (ElemId × Nat × Nat) := []
  /-- The iterations of the faults that asked for the purge, by region: they are live until the marking (R419). -/
  holds : List (Nat × BitVec 16) := []
  /-- The region to be ended, its record's st, cause and itertag (R431). -/
  ends : List (Nat × Nat × Cause × BitVec 16) := []
  /-- The records that recording writes: launch record, st, cause, itertag, variant, user. -/
  recs : List (Nat × Nat × Cause × BitVec 16 × Nat × Word) := []
  /-- The scoreboard tokens that the sweep makes idle, with the counts of their commands (R247, R429). -/
  sbs : List (ElemId × Nat × Nat) := []
  /-- The dies whose running commands have asked for the purge (R442). -/
  cmds : List Nat := []
  deriving DecidableEq, Repr, Inhabited

/-- A reuse hit that the steward carries out (R405). -/
structure Hit where
  launch : Launch
  die : Nat
  entry : Nat
  /-- Where the stored bytes stand in the die's reuse store, and how many they are. -/
  off : Nat
  len : Nat
  svc : Svc := .clear
  /-- Once its pages are translated, the blocks still to be written: the place in the result, the address and the length. -/
  todo : Option (List (Nat × Nat × Nat)) := none
  deriving DecidableEq, Repr, Inhabited

/-- The operating point and error counts of an island (R450, R452); its number is 16 × die + island of the die. -/
structure Island where
  point : Option (BitVec 4) := none
  count : Word := 0
  threshold : Word := 0
  /-- The count has not been cleared since the latch (R452). -/
  latched : Bool := false
  deriving DecidableEq, Repr, Inhabited

/-- Why a step stops. No step of this model stops: the spec gives every step of every agent a next state. -/
inductive Fault where
  /-- Raised by nothing; safe. -/
  | none
  deriving DecidableEq, Repr

/-- Why a step has no meaning. -/
inductive Refusal where
  /-- Raised by `exec` for an instruction that has no meaning yet; safe. -/
  | notModelled (mnemonic : String)
  deriving DecidableEq, Repr

/-- The state of the package. -/
structure State where
  /-- Who acts next; when it is empty the free schedule names the agent (log entry 1). -/
  agenda : List Agent := []
  tick : Nat := 0
  cur : Cur := {}
  /-- Every byte of the package's memories, in one map (log entry 2). -/
  mem : List Host.Cell := []
  /-- The full words of `.x` and `.m` (R205), ascending. -/
  full : List Nat := []
  /-- The poisoned granules, by their first byte (R194, R206). -/
  pois : Table Poison := []
  /-- The contexts that are known, with the physical address of their control block (R442). -/
  ctxs : Table Nat := []
  elems : Table Elem := []
  regions : Table Region := []
  /-- The recorded faults, the first recorded first (R421). -/
  faults : List FaultRec := []
  /-- The requests in flight, in the order of their fires. -/
  reqs : List Req := []
  /-- Switch requests and statuses on the control network, in the order of their fires (R303). -/
  switches : List SwitchReq := []
  /-- Control tokens on their way, by receiver and channel (R65). -/
  ctlFlight : List (ElemId × Nat) := []
  /-- The name of the next request, and the next place in the orders of arrival. -/
  nextId : Nat := 0
  /-- The index of the next free value (log entry 1). -/
  fresh : Nat := 0
  /-- The compute tiles, by tile number. -/
  tiles : Table Tile := []
  /-- The routers of all tiles, by tile number. -/
  routers : Table Router := []
  /-- The memory tiles, by tile number. -/
  mtiles : Table MemTile := []
  seals : Table SealEnt := []
  trans : List TransRec := []
  dies : Table Die := []
  /-- The peer route table: a bound window's port and remote device (R446). -/
  peers : Table (Option (Nat × Nat)) := []
  /-- The ports whose link is lost: 0 to 3 Thevel, 16 to 27 peer (R444). -/
  lost : List Nat := []
  /-- Boot state and boot refusal (Table 23.5). -/
  bst : BitVec 3 := 0
  bres : BitVec 3 := 0
  /-- The firmware image that the ROM has read and verifies, and its poison (R447). -/
  fwImg : List Byte := []
  fwPois : Poison := .clean
  /-- The firmware body that each of the 32 stewards runs (R447). -/
  stewards : List (List Byte) := []
  /-- The measurement and security version of the running firmware (R448). -/
  fwdig : Nat := 0
  svn : Nat := 0
  /-- The launch queues of the eight dies, in the order in which they are taken (R369, R370). -/
  queue : List Launch := []
  /-- The last owner of a block, by block row × 80 + block column (R207). -/
  lastOwner : Table (Option (BitVec 14)) := []
  /-- The number of the next fault record of a context (R428). -/
  faultSeq : Table Nat := []
  /-- The next acceptance number (R369). -/
  accNo : Nat := 0
  hits : List Hit := []
  purges : List Purge := []
  islands : Table Island := []
  /-- The companion's storage namespaces and its network queues, as they stand outside (R119, R445). -/
  spaces : Table (List Byte) := []
  netq : Table (List (List Byte)) := []
  deriving DecidableEq, Repr, Inhabited

/-- The package right after reset. -/
def State.reset : State := {}

end Sys2Proof.Machine
end

