-- ==== Sys2Proof/Machine/Memory.lean ====
section
/-!
DEFINITION. Byte memory and its canonical form (log entry 2), little-endian numbers over it (R5), full/empty bits
(R205) and poison granules (R194, R206). One map names every byte the package holds: a physical address below 2^52
(R208), then the memory tiles, then the scratch of the tiles; and, from 2^60 on, the memory of the remote devices (R211).
-/

namespace Sys2Proof.Machine

/-- What an unlisted address reads as (log entry 2). -/
def Mem.unlisted : Byte := 0

/-- The byte at an address. -/
def Mem.read (m : List Host.Cell) (a : Nat) : Byte :=
  match m with
  | [] => Mem.unlisted
  | (b, v) :: r => if b = a then v else Mem.read r a

/-- The memory with `v` at address `a`, in canonical form. -/
def Mem.write (m : List Host.Cell) (a : Nat) (v : Byte) : List Host.Cell :=
  match m with
  | [] => if v = Mem.unlisted then [] else [(a, v)]
  | (b, w) :: r =>
    if a < b then (if v = Mem.unlisted then (b, w) :: r else (a, v) :: (b, w) :: r)
    else if b = a then (if v = Mem.unlisted then r else (a, v) :: r)
    else (b, w) :: Mem.write r a v

/-- Every address of the list is at least `lo` and above the one before it, and no cell holds the unlisted value. -/
def Mem.wfFrom (lo : Nat) (m : List Host.Cell) : Bool :=
  match m with
  | [] => true
  | (b, w) :: r => decide (lo ≤ b) && w != Mem.unlisted && Mem.wfFrom (b + 1) r

/-- The canonical form: addresses strictly rising, no cell that reads as an unlisted address does. -/
def Mem.wf (m : List Host.Cell) : Bool := Mem.wfFrom 0 m

/-- The bytes at `a`, `a + 1`, …. -/
def Mem.readBytes (m : List Host.Cell) (a : Nat) (n : Nat) : List Byte :=
  match n with
  | 0 => []
  | k + 1 => Mem.read m a :: Mem.readBytes m (a + 1) k

/-- The memory with bytes written from address `a` upward. -/
def Mem.writeBytes (m : List Host.Cell) (a : Nat) (bs : List Byte) : List Host.Cell :=
  match bs with
  | [] => m
  | b :: r => Mem.writeBytes (Mem.write m a b) (a + 1) r

/-- The number that bytes denote, the first byte the least significant (R5). -/
def numOf (bs : List Byte) : Nat :=
  match bs with
  | [] => 0
  | b :: r => b.toNat + 256 * numOf r

/-- The `n` bytes of a number, the least significant first (R5). -/
def bytesOf (n : Nat) (v : Nat) : List Byte :=
  match n with
  | 0 => []
  | k + 1 => BitVec.ofNat 8 v :: bytesOf k (v / 256)

/-- Bits `lo` to `lo + w − 1` of a number. -/
def bits (v lo w : Nat) : Nat := (v >>> lo) % 2 ^ w

/-- A number with bits `lo` to `lo + w − 1` replaced. -/
def setBits (v lo w x : Nat) : Nat := v - (bits v lo w <<< lo) + ((x % 2 ^ w) <<< lo)

/-- Numbers put into place: each pair is a bit offset and a value. -/
def pack (fs : List (Nat × Nat)) : Nat := fs.foldl (fun a p => a + (p.2 <<< p.1)) 0

/-- The eight lanes of 256 bits held as a number (R5). -/
def vecOfNat (v : Nat) : Vec := Lanes.ofFn fun i => BitVec.ofNat 32 (v >>> (32 * i.val))

/-- The number whose lanes these are (R5). -/
def natOfVec (v : Vec) : Nat := v.toList.foldr (fun w a => w.toNat + a * 2 ^ 32) 0

end Sys2Proof.Machine

namespace Sys2Proof

/-! ## Numbers of places -/

/-- The number of a tile. -/
def TileId.key (t : TileId) : Nat := (t.die * 20 + t.row) * 40 + t.col

/-- The tile of a number. -/
def TileId.ofKey (k : Nat) : TileId := ⟨k / 800, k / 40 % 20, k % 40⟩

/-- The number of an element. -/
def ElemId.key (e : ElemId) : Nat := e.tile.key * 128 + e.pos

/-- The element of a number. -/
def ElemId.ofKey (k : Nat) : ElemId := ⟨TileId.ofKey (k / 128), k % 128⟩

/-- The kind of an element, fixed by its position (Table 1.3). -/
def ElemId.kind (e : ElemId) : Kind :=
  if e.pos < 112 then .v else if e.pos < 120 then .s else if e.pos < 124 then .a else .m

/-- The row of a tile in package coordinates (R7). -/
def TileId.prow (t : TileId) : Nat := t.die / 4 * 20 + t.row

/-- The column of a tile in package coordinates (R7). -/
def TileId.pcol (t : TileId) : Nat := t.die % 4 * 40 + t.col

/-- The tile at package coordinates, where the package has one. -/
def TileId.ofPackage (r c : Int) : Option TileId :=
  if 0 ≤ r ∧ r < 40 ∧ 0 ≤ c ∧ c < 160 then
    some ⟨r.toNat / 20 * 4 + c.toNat / 40, r.toNat % 20, c.toNat % 40⟩
  else none

/-- The block of a tile, in package coordinates (R14, R371). -/
def TileId.block (t : TileId) : BlockId := ⟨t.prow / 2, t.pcol / 2⟩

/-- A compute tile has row + col even (R7). -/
def TileId.isCompute (t : TileId) : Bool := (t.row + t.col) % 2 == 0

/-- The queues 0 to 3 of an element that do not exist, because they face off the tile (R17): the directions are north,
east, south, west. -/
def ElemId.hasQueue (e : ElemId) (q : Nat) : Bool :=
  match q with
  | 0 => decide (16 ≤ e.pos)
  | 1 => e.pos % 16 != 15
  | 2 => decide (e.pos < 112)
  | 3 => e.pos % 16 != 0
  | _ => true

/-- The element of the same tile that a direction faces (R17). -/
def ElemId.neighbour (e : ElemId) (dir : Nat) : ElemId :=
  match dir with
  | 0 => ⟨e.tile, e.pos - 16⟩
  | 1 => ⟨e.tile, e.pos + 1⟩
  | 2 => ⟨e.tile, e.pos + 16⟩
  | _ => ⟨e.tile, e.pos - 1⟩

end Sys2Proof

namespace Sys2Proof.Machine

/-! ## Where a byte stands -/

/-- The address, in the one map, of a byte of a memory tile. -/
def mtileAddr (t : TileId) (off : Nat) : Nat := 2 ^ 52 + t.key * 2 ^ 20 + off

/-- The address, in the one map, of a byte of a tile's scratch (R81). -/
def scratchAddr (t : TileId) (x : Nat) : Nat := 2 ^ 53 + t.key * 2 ^ 17 + x

/-- The first byte of the poison granule of a byte: 64 bytes in `.g` memory, 32 in tiles (R194). -/
def granuleOf (a : Nat) : Nat := if a < 2 ^ 52 ∨ 2 ^ 60 ≤ a then a / 64 * 64 else a / 32 * 32

/-- The bytes of the granule of a byte. -/
def granuleSize (a : Nat) : Nat := if a < 2 ^ 52 ∨ 2 ^ 60 ≤ a then 64 else 32

/-! ## Memory of the state -/

/-- The byte at an address of the one map. -/
def State.byte (s : State) (a : Nat) : Byte := Mem.read s.mem a

/-- The `n`-byte number at an address. -/
def State.peek (s : State) (a n : Nat) : Nat := numOf (Mem.readBytes s.mem a n)

/-- The state with an `n`-byte number written. -/
def State.poke (s : State) (a n v : Nat) : State := { s with mem := Mem.writeBytes s.mem a (bytesOf n v) }

/-- The state with bytes written. -/
def State.pokeBytes (s : State) (a : Nat) (bs : List Byte) : State := { s with mem := Mem.writeBytes s.mem a bs }

/-- Insertion into an ascending list without repeats. -/
def insertAsc (l : List Nat) (a : Nat) : List Nat :=
  match l with
  | [] => [a]
  | b :: r => if a < b then a :: b :: r else if a = b then b :: r else b :: insertAsc r a

/-- Whether the word at an address is full (R205). -/
def State.isFull (s : State) (a : Nat) : Bool := s.full.contains a

/-- The spill records of an element, with those that wait for a condition made eligible where it is met; `n` is the next place
in the order of becoming eligible (R141). -/
def eligibleRecs (met : SpillRec → Bool) (t : Table SpillRec) (n : Nat) : Table SpillRec × Nat :=
  match t with
  | [] => ([], n)
  | (k, r) :: rest =>
    if r.st = .waiting ∧ met r then
      let p := eligibleRecs met rest (n + 1)
      ((k, { r with st := .eligible, order := n }) :: p.1, p.2)
    else
      let p := eligibleRecs met rest n
      ((k, r) :: p.1, p.2)

/-- The same for every element. -/
def eligibleElems (met : SpillRec → Bool) (t : Table Elem) (n : Nat) : Table Elem × Nat :=
  match t with
  | [] => ([], n)
  | (k, x) :: rest =>
    let p := eligibleRecs met x.frame.spill n
    let q := eligibleElems met rest p.2
    ((k, { x with frame := { x.frame with spill := p.1 } }) :: q.1, q.2)

/-- The images whose wait condition is met become eligible (R141). -/
def State.noteMet (s : State) (met : SpillRec → Bool) : State :=
  let p := eligibleElems met s.elems s.nextId
  { s with elems := p.1, nextId := p.2 }

/-- The state with a word's full/empty bit set; a fill makes the images that wait for the word eligible (R141, R337). -/
def State.setFull (s : State) (a : Nat) (f : Bool) : State :=
  if f then
    ({ s with full := insertAsc s.full a }).noteMet fun r => match r.cond with
      | .word _ _ b => b == a
      | _ => false
  else { s with full := s.full.filter (· != a) }

/-- The poison of the granule of a byte (R206). -/
def State.poisonAt (s : State) (a : Nat) : Poison := Table.get s.pois (granuleOf a)

/-- The state with the granule of a byte poisoned or clean. -/
def State.setPoison (s : State) (a : Nat) (p : Poison) : State :=
  { s with pois := if p = .clean then Table.erase s.pois (granuleOf a) else Table.set s.pois (granuleOf a) p }

/-- The worse of two poisons: the link-lost cause holds only where every poisoned part carries it (R394). -/
def Poison.join (a b : Poison) : Poison :=
  match a, b with
  | .clean, p => p
  | p, .clean => p
  | .link, .link => .link
  | _, _ => .data

/-- The poison a read of `n` bytes meets (R206). -/
def State.poisonOf (s : State) (a n : Nat) : Poison :=
  match n with
  | 0 => .clean
  | k + 1 => (State.poisonOf s a k).join (s.poisonAt (a + k))

/-- The effect of a store on the granule that starts at `g`, for the bytes `lo ≤ a < hi` (R206). -/
def State.storeGranule (s : State) (g lo hi : Nat) (p : Poison) : State :=
  if lo ≤ g ∧ g + granuleSize g ≤ hi then s.setPoison g p
  else if s.poisonAt g = .clean then s.setPoison g p
  else s

/-- The granule starts from `g` on that lie below `hi`. -/
def granulesFrom (g hi : Nat) (fuel : Nat) : List Nat :=
  match fuel with
  | 0 => []
  | k + 1 => if g < hi then g :: granulesFrom (g + granuleSize g) hi k else []

/-- A parameter-block cache holds a block of 64 bytes that shares a byte with a range (R256). -/
def cachedIn (a len : Nat) (b : Nat) : Bool := decide (b < a + len) && decide (a < b + 64)

/-- The parameter-block caches without the blocks of some addresses (R19, R256). -/
def State.dropBlocks (s : State) (p : Nat → Bool) : State :=
  if s.tiles.any fun x => x.2.cache.any p then
    { s with tiles := s.tiles.map fun x => (x.1, { x.2 with cache := x.2.cache.filter fun b => !p b }) }
  else s

/-- The parameter-block caches without the blocks that a write touches (R19, R256). -/
def State.dropCached (s : State) (a len : Nat) : State := s.dropBlocks (cachedIn a len)

/-- A store of bytes in one access with the poison of its data (R206); a cached parameter block that it touches is invalid first
(R256). -/
def State.storeBytes (s : State) (a : Nat) (bs : List Byte) (p : Poison) : State :=
  (granulesFrom (granuleOf a) (a + bs.length) (bs.length + 1)).foldl
    (fun t g => t.storeGranule g a (a + bs.length) p) ((s.dropCached a bs.length).pokeBytes a bs)

/-! ## The physical map -/

/-- The ranges of Table 10.4: HBM4, the second tier, companion memory, and each peer window. -/
inductive PRange where
  | hbm
  | tier2
  | companion
  | peer (p : Nat)
  deriving DecidableEq, Repr, Inhabited

/-- The range of a physical address (Table 10.4). -/
def rangeOf (a : Nat) : Option PRange :=
  if a < 0x8000000000 then some .hbm
  else if 0x40000000000 ≤ a ∧ a < 0x80000000000 then some .tier2
  else if 0x1000000000000 ≤ a ∧ a < 0x2000000000000 then some .companion
  else if 0x8000000000000 ≤ a ∧ a < 0x10000000000000 then some (.peer ((a - 0x8000000000000) / 0x200000000000))
  else none

/-- The port whose link a place of the one map is reached through: 0 to 3 Thevel, 16 to 27 peer (Table 10.5, Table 23.3). -/
def portOf (a : Nat) : Option Nat :=
  if 2 ^ 60 ≤ a then some (16 + (a - 2 ^ 60) / 2 ^ 77)
  else match rangeOf a with
    | some .companion => some (bits a 8 2)
    | _ => none

/-- The link behind an address is lost (R212). -/
def State.linkLost (s : State) (a : Nat) : Bool :=
  match portOf a with
  | some p => s.lost.contains p
  | none => false

end Sys2Proof.Machine
end

