-- ==== Sys2Proof/Machine/Ops.lean ====
section
/-!
DEFINITION. The named operations over the state that every family uses: elements, regions, contexts and their control
block, queues, banks, and the recording of faults.
-/

namespace Sys2Proof.Machine

/-- The outcome of a step that goes on. -/
def go (s : State) : Host.Outcome State Fault Refusal := .next s

/-! ## Elements and regions -/

/-- The element at a position. -/
def State.elem (s : State) (e : ElemId) : Elem := Table.get s.elems e.key

/-- The state with an element replaced. -/
def State.setElem (s : State) (e : ElemId) (x : Elem) : State := { s with elems := Table.set s.elems e.key x }

/-- The state with an element changed. -/
def State.modElem (s : State) (e : ElemId) (f : Elem → Elem) : State := s.setElem e (f (s.elem e))

/-- A region by its number. -/
def State.region (s : State) (r : Nat) : Region := Table.get s.regions r

/-- The state with a region changed. -/
def State.modRegion (s : State) (r : Nat) (f : Region → Region) : State :=
  { s with regions := Table.modify s.regions r f }

/-- Whether a block lies in a region's rectangle (R22). -/
def Region.hasBlock (r : Region) (b : BlockId) : Bool :=
  r.live && decide (r.origin.br ≤ b.br) && decide (b.br < r.origin.br + r.rows) &&
    decide (r.origin.bc ≤ b.bc) && decide (b.bc < r.origin.bc + r.cols)

/-- Whether a tile lies in a region (R22). -/
def Region.hasTile (r : Region) (t : TileId) : Bool := r.hasBlock t.block

/-- The number of the region that holds a tile (R22: at most one does). -/
def State.regionOf (s : State) (t : TileId) : Option Nat := (s.regions.find? fun p => p.2.hasTile t).map (·.1)

/-- The region that holds a tile; a region that is not live where none does. -/
def State.regionAt (s : State) (t : TileId) : Region :=
  match s.regionOf t with
  | some r => s.region r
  | none => default

/-- A tile's row and column relative to its region's origin. -/
def Region.rel (r : Region) (t : TileId) : Nat × Nat := (t.prow - 2 * r.origin.br, t.pcol - 2 * r.origin.bc)

/-- The tile at a row and column relative to a region's origin, where the package has one. -/
def Region.tileAt (r : Region) (row col : Int) : Option TileId :=
  TileId.ofPackage (2 * (r.origin.br : Int) + row) (2 * (r.origin.bc : Int) + col)

/-! ## Contexts -/

/-- A field of a context's control block (Table 22.2); 0 where the context is not known, and free where the link to the block is lost
(R444; log entry 27). -/
def State.ccb (s : State) (ctxno : BitVec 14) (lo w : Nat) : Nat :=
  match Table.find s.ctxs ctxno.toNat with
  | some a => bits (if s.linkLost a then Config.lostBytes s.tick a else s.peek a 64) lo w
  | none => 0

/-- The state with a field of a context's control block written: not through a lost link (R212, R444). -/
def State.setCcb (s : State) (ctxno : BitVec 14) (lo w x : Nat) : State :=
  match Table.find s.ctxs ctxno.toNat with
  | some a => if s.linkLost a then s else (s.dropCached a 64).poke a 64 (setBits (s.peek a 64) lo w x)
  | none => s

/-- Trap handling is enabled (Table 22.2). -/
def State.th (s : State) (ctxno : BitVec 14) : Bool := s.ccb ctxno 14 1 == 1

/-- The arithmetic trap mask (Table 22.2, R164). -/
def State.tmask (s : State) (ctxno : BitVec 14) : BitVec 6 := BitVec.ofNat 6 (s.ccb ctxno 16 6)

/-- The space of a context (Table 22.2). -/
def State.space (s : State) (ctxno : BitVec 14) : Nat := s.ccb ctxno 0 14

/-! ## Queues -/

/-- The entries of an input queue, the head first. -/
def Elem.inq (x : Elem) (q : Nat) : List QEntry := Table.get x.iq q

/-- The entries of an output queue, the head first. -/
def Elem.outq (x : Elem) (q : Nat) : List QEntry := Table.get x.oq q

/-- The head token of a queue's entries; a reserved head is no token (R86). -/
def headTok (l : List QEntry) : Option Tok :=
  match l with
  | .tok t :: _ => some t
  | _ => none

/-- The head token of an input queue. -/
def Elem.head (x : Elem) (q : Nat) : Option Tok := headTok (x.inq q)

/-- The depth of every queue (R17). -/
def queueDepth : Nat := 4

/-- Whether an output queue has an entry that neither holds a token nor is reserved (R130). -/
def Elem.outFree (x : Elem) (q : Nat) : Bool := decide ((x.outq q).length < queueDepth)

/-- Whether an input queue has a free entry. -/
def Elem.inFree (x : Elem) (q : Nat) : Bool := decide ((x.inq q).length < queueDepth)

/-- The element with the head of an input queue removed. -/
def Elem.pop (x : Elem) (q : Nat) : Elem := { x with iq := Table.set x.iq q (x.inq q).tail }

/-- The element with the head of an output queue removed. -/
def Elem.popOut (x : Elem) (q : Nat) : Elem := { x with oq := Table.set x.oq q (x.outq q).tail }

/-- The element with an entry at the end of an output queue. -/
def Elem.pushOut (x : Elem) (q : Nat) (t : QEntry) : Elem := { x with oq := Table.set x.oq q (x.outq q ++ [t]) }

/-- The element with an entry at the end of an input queue. -/
def Elem.pushIn (x : Elem) (q : Nat) (t : QEntry) : Elem := { x with iq := Table.set x.iq q (x.inq q ++ [t]) }

/-- Queue entries with the entry reserved for a request filled by a token (R86). -/
def fillResv (l : List QEntry) (req : Nat) (t : Tok) : List QEntry :=
  match l with
  | [] => []
  | .resv r :: rest => if r = req then .tok t :: rest else .resv r :: fillResv rest req t
  | .tok u :: rest => .tok u :: fillResv rest req t

/-- Queue entries without the entries reserved for a request (R121). -/
def dropResv (l : List QEntry) (req : Nat) : List QEntry := l.filter (· != .resv req)

/-! ## Banks -/

/-- A register bank of an element. -/
def Elem.bank (x : Elem) (b : Nat) : Bank := Table.get x.banks b

/-- The element with a bank replaced. -/
def Elem.setBank (x : Elem) (b : Nat) (k : Bank) : Elem := { x with banks := Table.set x.banks b k }

/-- The element with a bank changed. -/
def Elem.modBank (x : Elem) (b : Nat) (f : Bank → Bank) : Elem := x.setBank b (f (x.bank b))

/-- A register of a bank. -/
def Bank.reg (k : Bank) (n : Nat) : Reg := Table.get k.regs n

/-- A predicate of a bank. -/
def Bank.pred (k : Bank) (n : Nat) : Pred := Table.get k.preds n

/-- The bank with a register replaced. -/
def Bank.setReg (k : Bank) (n : Nat) (r : Reg) : Bank := { k with regs := Table.set k.regs n r }

/-- The bank with a predicate replaced. -/
def Bank.setPred (k : Bank) (n : Nat) (p : Pred) : Bank := { k with preds := Table.set k.preds n p }

/-- The allocation of a bank (R136): everything cleared, and the current tags set. The data of the registers stay, which
no fire can read before it writes them. -/
def Bank.alloc (k : Bank) (reqtag : BitVec 16) (st : BankSt) : Bank :=
  { k with
    regs := k.regs.map fun p => (p.1, { p.2 with valid := false, poison := .clean, pending := false })
    preds := []
    e := 0
    flags := 0
    reqtag := reqtag
    itertag := 0
    st := st
    halted := false
    waive := none
    epoch := k.epoch + 1 }

/-- Whether a register or predicate of the bank is pending (R85). -/
def Bank.anyPending (k : Bank) : Bool := k.regs.any (·.2.pending) || k.preds.any (·.2.pending)

/-! ## Recording a fault -/

/-- A fault is recorded against its itertag, with the cycle of its region's clock (R421). -/
def State.record (s : State) (f : FaultRec) : State :=
  { s with faults := s.faults ++ [{ f with time := (s.region f.region).clock }] }

/-- The region-relative order of elements: ascending tile row, tile column, position (R64, R421). -/
def elemBefore (a b : ElemId) : Bool :=
  decide (a.tile.prow < b.tile.prow) ||
    (a.tile.prow == b.tile.prow && (decide (a.tile.pcol < b.tile.pcol) ||
      (a.tile.pcol == b.tile.pcol && decide (a.pos < b.pos))))

end Sys2Proof.Machine
end

