-- ==== Sys2Proof/Machine/Operands.lean ====
section
/-!
DEFINITION. Operands and the fire: the trigger entry and its meaning (R36), every source form (R32, R33, R52), every
destination form (R54, R55), the state and tag updates of a fire (R59, R25, R134), and a fire that traps (R53, R421).
-/

namespace Sys2Proof.Machine

/-! ## The trigger entry -/

/-- The fields of a trigger entry (Table 2.4). -/
structure Trig where
  inq : BitVec 6
  prim : Bool
  tagv : BitVec 4
  tagm : BitVec 4
  bfix : Bool
  outq : BitVec 6
  stm : BitVec 8
  stv : BitVec 8
  gsel : BitVec 3
  gneg : Bool
  gall : Bool
  sset : BitVec 8
  sclr : BitVec 8
  otag : BitVec 4
  deriving DecidableEq, Repr, Inhabited

/-- The fields of a trigger word (Table 2.4). -/
def Trig.ofWord (w : BitVec 64) : Trig where
  inq := w.extractLsb' 0 6
  prim := w.getLsbD 6
  tagv := w.extractLsb' 7 4
  tagm := w.extractLsb' 11 4
  bfix := w.getLsbD 15
  outq := w.extractLsb' 16 6
  stm := w.extractLsb' 22 8
  stv := w.extractLsb' 30 8
  gsel := w.extractLsb' 38 3
  gneg := w.getLsbD 41
  gall := w.getLsbD 42
  sset := w.extractLsb' 43 8
  sclr := w.extractLsb' 51 8
  otag := w.extractLsb' 59 4

/-- The lowest queue of a set (R36: the primary input). -/
def lowest6 (m : BitVec 6) : Nat :=
  if m.getLsbD 0 then 0 else if m.getLsbD 1 then 1 else if m.getLsbD 2 then 2
  else if m.getLsbD 3 then 3 else if m.getLsbD 4 then 4 else 5

/-- The queues of a set, ascending. -/
def queuesOf (m : BitVec 6) : List Nat := [0, 1, 2, 3, 4, 5].filter fun i => m.getLsbD i

/-- The head token of the primary input, where the trigger names one (R36). -/
def Trig.primary (t : Trig) (x : Elem) : Option Tok := if t.prim then x.head (lowest6 t.inq) else none

/-- The firing bank (R36); an element that is no V-element has bank 0 alone (R35). A null entry, which the slots of a context that stays
resident may still name (R39), is taken by its bits: no primary input, bank 0, guard any(q0) (log entry 52). -/
def Trig.bank (t : Trig) (v : Bool) (x : Elem) : Nat :=
  if !v then 0
  else if t.bfix then (t.tagv.extractLsb' 0 2).toNat
  else match t.primary x with
    | some h => (h.tag.extractLsb' 0 2).toNat
    | none => 0

/-- The guard bits, from the predicates as they stand before the fire (R36). -/
def Trig.guardOf (t : Trig) (k : Bank) : Mask :=
  if t.gsel = 7 then Lanes.fill true
  else Lanes.ofFn fun i => ((k.pred t.gsel.toNat).val.get i) != t.gneg

/-- Whether the guard holds (R36). -/
def Trig.guardOk (t : Trig) (g : Mask) : Bool := if t.gall then g.toList.all id else g.toList.any id

/-- Whether the entry holds (R36), but for the queues of `outq`; only a V-element looks at tag bits [1:0] (R38). -/
def Trig.holds (t : Trig) (v : Bool) (x : Elem) : Bool :=
  (queuesOf t.inq).all (fun q => (x.head q).isSome) &&
    (match t.primary x with
     | some h => let m := if v then t.tagm else t.tagm &&& 0xC
       (h.tag &&& m) == (t.tagv &&& m)
     | none => true) &&
    ((x.bank (t.bank v x)).e &&& t.stm) == t.stv &&
    t.guardOk (t.guardOf (x.bank (t.bank v x)))

/-! ## The fire -/

/-- What a fire has read of the state it started from. -/
structure Fire where
  cur : Cur
  trig : Nat
  tr : Trig
  el : Elem
  rid : Nat
  reg : Region
  b : Nat
  bk : Bank
  g : Mask
  prim : Option Tok
  deriving DecidableEq, Repr, Inhabited

/-- The fire of the slot word that is being executed, under trigger entry `t` of its element. -/
def fireOf (s : State) (t : BitVec 6) : Fire :=
  let x := s.elem s.cur.elem
  let tr := Trig.ofWord (Table.get x.trigs t.toNat)
  let b := tr.bank (s.cur.elem.kind == .v) x
  let k := x.bank b
  { cur := s.cur
    trig := t.toNat
    tr := tr
    el := x
    rid := (s.regionOf s.cur.elem.tile).getD 0
    reg := s.regionAt s.cur.elem.tile
    b := b
    bk := k
    g := tr.guardOf k
    prim := tr.primary x }

/-- A source as it is read: its lanes, its valid bit and its poison (R52). -/
structure Src where
  val : Vec := Lanes.fill 0
  valid : Bool := true
  poison : Poison := .clean
  deriving DecidableEq, Repr, Inhabited

/-- The head of an input queue read as a source. -/
def Fire.headSrc (f : Fire) (q : Nat) : Src :=
  match f.el.head q with
  | some t => { val := t.data, poison := t.poison }
  | none => {}

/-- The head token of the queue that a pop or a peek names. -/
def Fire.headOf (f : Fire) (c : BitVec 5) : Tok :=
  (f.el.head (if c.toNat < 22 then c.toNat - 16 else c.toNat - 22)).getD {}

/-- A register of the firing bank read as a source. -/
def Fire.regSrc (f : Fire) (n : Nat) : Src :=
  let r := f.bk.reg n
  { val := r.val, valid := r.valid, poison := r.poison }

/-- A source operand (Table 2.3). -/
def Fire.src (f : Fire) (c : BitVec 5) : Src :=
  if c.toNat < 15 then f.regSrc c.toNat
  else if c.toNat = 15 then {}
  else if c.toNat < 22 then f.headSrc (c.toNat - 16)
  else if c.toNat < 28 then f.headSrc (c.toNat - 22)
  else { val := Table.get (Table.get f.el.ctxs f.cur.cc).k (c.toNat - 28) }

/-- The predicate a P literal names; 7 reads qt, which is 1 in every lane (R74). -/
def Fire.predLit (f : Fire) (c : BitVec 5) : Mask :=
  if c.toNat = 7 then Lanes.fill true else (f.bk.pred c.toNat).val

/-- The poison of several sources: link-lost only where every poisoned source carries that cause (R394). -/
def joinPoison (l : List Src) : Poison := l.foldl (fun p x => p.join x.poison) .clean

/-- The trap of the sources of a fire (R52, R394): an invalid register before a poisoned source (log entry 5). -/
def srcTrap (l : List Src) : Option Cause :=
  if l.any (fun x => !x.valid) then some 0x01
  else match joinPoison l with
    | .clean => none
    | .data => some 0x06
    | .link => some 0x0C

/-- The queues that the codes pop, each once (R33). -/
def popsOf (cs : List (BitVec 5)) : List Nat :=
  (cs.filterMap fun c => if 16 ≤ c.toNat ∧ c.toNat < 22 then some (c.toNat - 16) else none).eraseDups

/-- The element with the head of each listed queue removed. -/
def Elem.popAll (x : Elem) (qs : List Nat) : Elem := qs.foldl Elem.pop x

/-- The tags that a fire stamps (R25): those of the primary head, else the bank's current tags. -/
def Fire.tags (f : Fire) : BitVec 16 × BitVec 16 :=
  match f.prim with
  | some h => (h.reqtag, h.itertag)
  | none => (f.bk.reqtag, f.bk.itertag)

/-- A token that the fire creates (R55). -/
def Fire.token (f : Fire) (data : Vec) : Tok :=
  { data := data
    tag := f.tr.otag
    head := match f.prim with
      | some h => h.head
      | none => true
    tail := match f.prim with
      | some h => h.tail
      | none => true
    poison := .clean
    reqtag := f.tags.1
    ctxno := f.reg.ctxno
    itertag := f.tags.2 }

/-- Lane by lane, the new value where the guard holds, else the old one. -/
def merge {α : Type} (g : Mask) (new old : Lanes α) : Lanes α :=
  Lanes.ofFn fun i => if g.get i then new.get i else old.get i

/-- A register after a write through the guard (R54). -/
def Reg.write (r : Reg) (g : Mask) (v : Vec) (p : Poison) : Reg :=
  { val := merge g v (if r.valid then r.val else Lanes.fill 0), valid := true, poison := p, pending := false }

/-- A predicate after a write through the guard (R54). -/
def Pred.write (p : Pred) (g : Mask) (v : Vec) : Pred :=
  { val := merge g (Lanes.ofFn fun i => v.get i != 0) p.val, pending := false }

/-- The destination write of lane results (R54, R55), for the guard `g`. -/
def Fire.writeDest (f : Fire) (g : Mask) (d : BitVec 5) (r : Vec) (x : Elem) : Elem :=
  if d.toNat < 15 then x.modBank f.b fun k => k.setReg d.toNat ((k.reg d.toNat).write g r .clean)
  else if d.toNat = 15 then x
  else if d.toNat < 22 then x.pushOut (d.toNat - 16) (.tok (f.token (merge g r (Lanes.fill 0))))
  else if d.toNat < 29 then x.modBank f.b fun k => k.setPred (d.toNat - 22) ((k.pred (d.toNat - 22)).write g r)
  else x

/-- The end of a fire: the trigger's state update, then the instruction's (R59); the firing bank's current tags from the
primary head (R25); the claim of a free bank (R137); and the end of a waiver for this slot. -/
def Fire.finishBank (f : Fire) (upd : BitVec 8 → BitVec 8) (k : Bank) : Bank :=
  { k with
    e := upd ((k.e &&& ~~~f.tr.sclr) ||| f.tr.sset)
    reqtag := match f.prim with
      | some h => h.reqtag
      | none => k.reqtag
    itertag := match f.prim with
      | some h => h.itertag
      | none => k.itertag
    st := if k.st = .free then .active else k.st
    waive := match k.waive with
      | some (c, n, z) => if c = f.cur.cc ∧ n = f.cur.slot then none else some (c, n, z)
      | none => none }

/-- The element at the end of a fire. -/
def Fire.finish (f : Fire) (upd : BitVec 8 → BitVec 8) (x : Elem) : Elem := x.modBank f.b (f.finishBank upd)

/-! ## Traps at the fire -/

/-- A trap of a fire and what its record says (Table 22.3). -/
structure Trap where
  cause : Cause
  info : Nat := 0
  addr : Nat := 0
  deriving DecidableEq, Repr, Inhabited

/-- The word of the slot that fires. -/
def Fire.word (f : Fire) : Word := Table.get (Table.get f.el.ctxs f.cur.cc).slots f.cur.slot

/-- The fault record of a trap of the fire (R421, Table 22.3). -/
def Fire.faultRec (f : Fire) (t : Trap) (opa opb : Vec) : FaultRec :=
  { region := f.rid
    cause := t.cause
    elem := f.cur.elem
    cc := f.cur.cc
    slot := f.cur.slot
    trig := f.trig
    bank := f.b
    ctxno := f.reg.ctxno
    reqtag := f.tags.1
    itertag := f.tags.2
    word := f.word
    info := t.info
    addr := t.addr
    opa := opa
    opb := opb
    inHandler := f.reg.handler && f.cur.cc == 3 }

/-- A region and, in a twin pair, its partner (R372). -/
def State.pair (s : State) (rid : Nat) : List Nat := rid :: ((s.region rid).twin.map (·.1)).toList

/-- The state with a region and its partner changed. -/
def State.modPair (s : State) (rid : Nat) (f : Region → Region) : State := (s.pair rid).foldl (fun z n => z.modRegion n f) s

/-- A purity violation marks the task impure, in both copies of a twin pair (R410). -/
def State.markImpure (s : State) (rid : Nat) (c : Cause) : State :=
  if c = 0x08 then s.modPair rid fun r => { r with impure := true } else s

/-- A fire that traps changes nothing (R53); the fault is recorded and the bank halts (R421). -/
def trapFire (s : State) (f : Fire) (t : Trap) (opa opb : Vec) : State :=
  ((s.markImpure f.rid t.cause).record (f.faultRec t opa opb)).modElem f.cur.elem fun x =>
    x.modBank f.b fun k => { k with halted := true }

/-- The request holds its bank as an acquire (R93): until it is performed, a seal until its range is marked (R342). -/
def Req.holdsBank (r : Req) : Bool :=
  r.acquire && !r.performed && !(match r.op with
    | .sealRange _ _ => r.started
    | _ => false)

/-- The bank is held by an acquire (R93): also by one that was fired before the bank yielded, since the party is the bank and a yield
removes no arc (R224, R242). -/
def State.acquireHeld (s : State) (e : ElemId) (b : Nat) : Bool :=
  s.reqs.any fun r => r.elem == e && r.bank == b && r.holdsBank

/-- An acquire whose response comes to the bank itself, not to an image of it, is not performed (R418). -/
def State.acquireHere (s : State) (e : ElemId) (b : Nat) : Bool :=
  s.reqs.any fun r => r.elem == e && r.bank == b && r.image.isNone && r.holdsBank

/-- The tag-bank fault (R418). -/
def Fire.tagBank (s : State) (f : Fire) : Bool :=
  !f.tr.bfix && f.bk.st == .active &&
    (match f.prim with
     | some h => h.reqtag != f.bk.reqtag
     | none => false) &&
    (f.bk.anyPending || s.acquireHere f.cur.elem f.b)

/-- Whether a retried fire passes over a cause (Table 22.1). -/
def Fire.waived (f : Fire) (c : Cause) : Bool := f.bk.waive == some (f.cur.cc, f.cur.slot, c)

/-- A fire retried after `hret` from a privileged operation or a software trap completes as a `nop` (Table 22.1): it applies only
its trigger's state update and tag update. -/
def Fire.asNop (f : Fire) (own : Option Trap) : Bool :=
  match own with
  | some t => (t.cause == 0x10 || t.cause == 0x12) && f.waived t.cause
  | none => false

/-- The trap of a fire: the tag-bank fault (R418), then the sources (R52), then the instruction's own check, which a retried fire may
pass over. That 0x11 comes before 0x01, 0x06 and 0x0C is log entry 52's. -/
def Fire.trapOf (s : State) (f : Fire) (ss : List Src) (own : Option Trap) : Option Trap :=
  if f.tagBank s then some { cause := 0x11 }
  else match srcTrap ss with
    | some c => some { cause := c }
    | none =>
      match own with
      | some t => if f.waived t.cause then none else some t
      | none => none

/-- The operand lanes a fault record shows for a source code. -/
def Fire.opOf (f : Fire) (cs : List (BitVec 5)) (n : Nat) : Vec :=
  match cs[n]? with
  | some c => (f.src c).val
  | none => Lanes.fill 0

/-! ## The shape of a fire -/

/-- One fire (R134): `srcs` are the operand codes read as sources (the named a first), `checked` the sources whose validity
and poison trap, `own` the instruction's own trap, `pops` the queues whose heads go, `eff` the effect on the element after
the pops, `upd` the instruction's change of the state bits, and `post` what the fire sends. -/
def fire (s : State) (f : Fire) (srcs : List (BitVec 5)) (checked : List Src) (own : Option Trap) (pops : List Nat)
    (eff : Elem → Elem) (upd : BitVec 8 → BitVec 8) (post : State → State) : Host.Outcome State Fault Refusal :=
  match f.trapOf s checked own with
  | some t => go (trapFire s f t (f.opOf srcs 0) (f.opOf srcs 1))
  | none =>
    if f.asNop own then go (s.setElem f.cur.elem (f.finish id f.el))
    else go (post (s.setElem f.cur.elem (f.finish upd (eff (f.el.popAll pops)))))

/-- A fire whose sources are all read as data, and which sends nothing. -/
def fireElem (s : State) (t : BitVec 6) (srcs : List (BitVec 5)) (own : Fire → Option Trap) (eff : Fire → Elem → Elem)
    (upd : Fire → BitVec 8 → BitVec 8) : Host.Outcome State Fault Refusal :=
  let f := fireOf s t
  fire s f srcs (srcs.map f.src) (own f) (popsOf srcs) (eff f) (upd f) id

/-- A fire with lane results written through the guard (R54). -/
def fireLanes (s : State) (t : BitVec 6) (d : BitVec 5) (srcs : List (BitVec 5)) (r : Fire → Vec) :
    Host.Outcome State Fault Refusal :=
  fireElem s t srcs (fun _ => none) (fun f => f.writeDest f.g d (r f)) (fun _ => id)

/-- A fire whose lane results are written to every lane whatever the guard (R76, R184). -/
def fireAll (s : State) (t : BitVec 6) (d : BitVec 5) (srcs : List (BitVec 5)) (r : Fire → Vec) :
    Host.Outcome State Fault Refusal :=
  fireElem s t srcs (fun _ => none) (fun f => f.writeDest (Lanes.fill true) d (r f)) (fun _ => id)

/-- One operand, lane by lane. -/
def lanes1 (s : State) (t : BitVec 6) (d a : BitVec 5) (op : Word → Word) : Host.Outcome State Fault Refusal :=
  fireLanes s t d [a] fun f => Lanes.ofFn fun i => op ((f.src a).val.get i)

/-- Two operands, lane by lane. -/
def lanes2 (s : State) (t : BitVec 6) (d a b : BitVec 5) (op : Word → Word → Word) : Host.Outcome State Fault Refusal :=
  fireLanes s t d [a, b] fun f => Lanes.ofFn fun i => op ((f.src a).val.get i) ((f.src b).val.get i)

/-- A truth value as a lane result: only whether it is 0 counts in a predicate (R54). -/
def bit (b : Bool) : Word := if b then 1 else 0

/-- A comparison of two operands into a predicate (R73). -/
def compare2 (s : State) (t : BitVec 6) (d a b : BitVec 5) (op : Word → Word → Bool) : Host.Outcome State Fault Refusal :=
  lanes2 s t d a b fun x y => bit (op x y)

/-- Predicate logic on P literals (R74). -/
def preds2 (s : State) (t : BitVec 6) (d a b : BitVec 5) (op : Bool → Bool → Bool) : Host.Outcome State Fault Refusal :=
  fireLanes s t d [] fun f => Lanes.ofFn fun i => bit (op ((f.predLit a).get i) ((f.predLit b).get i))

end Sys2Proof.Machine
end

