-- ==== Sys2Proof/Machine/Flags.lean ====
section
/-!
DEFINITION. The sticky flags and the arithmetic trap of a fire of majors 0x10 to 0x1F (R162 to R164, R169).
-/

namespace Sys2Proof.Machine

/-- The flags raised by the guarded lanes (R163). -/
def guardedFlags (g : Mask) (r : Lanes (Word × Flags)) : Flags :=
  laneIdx.foldl (fun a i => if g.get i then a ||| (r.get i).2 else a) 0

/-- The lanes of lane results. -/
def laneVals (r : Lanes (Word × Flags)) : Vec := Lanes.ofFn fun i => (r.get i).1

/-- The arithmetic trap of raised flags (R164); its record holds the flags the fire would have raised. -/
def arithTrap (s : State) (f : Fire) (fl : Flags) : Option Trap :=
  if fl &&& s.tmask f.reg.ctxno != 0 then some { cause := 0x0D, info := fl.toNat } else none

/-- The element with flags raised in the firing bank (R163). -/
def Fire.raise (f : Fire) (fl : Flags) (x : Elem) : Elem :=
  x.modBank f.b fun k => { k with flags := k.flags ||| fl }

/-- A fire of majors 0x10 to 0x1F with lane results and flags (R169). -/
def fireFloat (s : State) (t : BitVec 6) (d : BitVec 5) (srcs : List (BitVec 5)) (extra : Fire → List Src)
    (r : Fire → Lanes (Word × Flags)) : Host.Outcome State Fault Refusal :=
  let f := fireOf s t
  let fl := guardedFlags f.g (r f)
  fire s f srcs (srcs.map f.src ++ extra f) (arithTrap s f fl) (popsOf srcs)
    (fun x => f.raise fl (f.writeDest f.g d (laneVals (r f)) x)) id id

/-- The same, with one result and its flags written to every lane whatever the guard (R184). -/
def fireReduce (s : State) (t : BitVec 6) (d : BitVec 5) (srcs : List (BitVec 5)) (r : Fire → Word × Flags) :
    Host.Outcome State Fault Refusal :=
  let f := fireOf s t
  fire s f srcs (srcs.map f.src) (arithTrap s f (r f).2) (popsOf srcs)
    (fun x => f.raise (r f).2 (f.writeDest (Lanes.fill true) d (Lanes.fill (r f).1) x)) id id

/-- One float operand. -/
def float1 (s : State) (t : BitVec 6) (d a : BitVec 5) (op : Word → Word × Flags) : Host.Outcome State Fault Refusal :=
  fireFloat s t d [a] (fun _ => []) fun f => Lanes.ofFn fun i => op ((f.src a).val.get i)

/-- Two float operands. -/
def float2 (s : State) (t : BitVec 6) (d a b : BitVec 5) (op : Word → Word → Word × Flags) :
    Host.Outcome State Fault Refusal :=
  fireFloat s t d [a, b] (fun _ => []) fun f => Lanes.ofFn fun i => op ((f.src a).val.get i) ((f.src b).val.get i)

/-- A Da form: the destination register is read as an operand and then written (R170). -/
def float3 (s : State) (t : BitVec 6) (d a b : BitVec 5) (op : Word → Word → Word → Word × Flags) :
    Host.Outcome State Fault Refusal :=
  fireFloat s t d [a, b] (fun f => [f.regSrc d.toNat]) fun f =>
    Lanes.ofFn fun i => op ((f.src a).val.get i) ((f.src b).val.get i) ((f.bk.reg d.toNat).val.get i)

end Sys2Proof.Machine
end

