-- ==== Sys2Proof/Machine/Translate.lean ====
section
/-!
DEFINITION. The global space: the physical map and its homes (R208 to R212), the page walk (R213 to R216), the TLBs
(R217), permissions (R218), and the translation requests that the driver answers (R221).
-/

namespace Sys2Proof.Machine

/-! ## The physical map -/

/-- A translated run of bytes: its physical address and length. -/
abbrev Seg := Nat × Nat

/-- Where a byte of a remote device stands in the one map: the device is named by the peer port and its number behind it (R211,
R446; log entry 47). -/
def remoteAddr (port dev off : Nat) : Nat := 2 ^ 60 + (port * 2 ^ 32 + dev) * 2 ^ 45 + off

/-- Where a physical address stands in the one map: an address of a bound peer window is the remote device's (R211); any other
stands for itself. -/
def State.locate (s : State) (a : Nat) : Nat :=
  match rangeOf a with
  | some (.peer p) => match Table.get s.peers p with
    | some q => remoteAddr q.1 q.2 ((a - 0x8000000000000) % 2 ^ 45)
    | none => a
  | _ => a

/-- The memory tiles that host the HBM endpoints hb0 to hb31 and the second-tier endpoints lp0 to lp3 of a die (Table 1.1). -/
def hbmHost (die n : Nat) : TileId := if n < 16 then ⟨die, 0, 5 + 2 * n⟩ else ⟨die, 19, 4 + 2 * (n - 16)⟩
def tier2Host (die n : Nat) : TileId :=
  match n with
  | 0 => ⟨die, 5, 0⟩
  | 1 => ⟨die, 13, 0⟩
  | 2 => ⟨die, 6, 39⟩
  | _ => ⟨die, 14, 39⟩

/-- The memory tiles that host the Thevel ports 0 to 3 and the peer ports, numbered from 16 (Table 1.2). -/
def linkHost (port : Nat) : TileId :=
  match port with
  | 0 => ⟨0, 0, 37⟩
  | 1 => ⟨3, 0, 37⟩
  | 2 => ⟨4, 19, 36⟩
  | 3 => ⟨7, 19, 36⟩
  | 16 => ⟨0, 0, 1⟩
  | 17 => ⟨0, 0, 3⟩
  | 18 => ⟨1, 0, 1⟩
  | 19 => ⟨2, 0, 1⟩
  | 20 => ⟨3, 0, 1⟩
  | 21 => ⟨3, 0, 3⟩
  | 22 => ⟨4, 19, 0⟩
  | 23 => ⟨4, 19, 2⟩
  | 24 => ⟨5, 19, 0⟩
  | 25 => ⟨6, 19, 0⟩
  | 26 => ⟨7, 19, 0⟩
  | _ => ⟨7, 19, 2⟩

/-- The link ports of the package (R13). -/
def linkPorts : List Nat := [0, 1, 2, 3] ++ (List.range 12).map (16 + ·)

/-- A tile hosts an endpoint or a link port: its router has a sixth port (R12, R13, R18). -/
def hostsPort (t : TileId) : Bool :=
  (List.range 32).any (fun n => hbmHost t.die n == t) || (List.range 4).any (fun n => tier2Host t.die n == t) ||
    linkPorts.any fun p => linkHost p == t

/-- The ports of a tile's router (R18). -/
def routerPorts (t : TileId) : Nat := if hostsPort t then 6 else 5

/-- A number for the home of a byte (Table 10.1, Table 10.5): two bytes have one home when their numbers agree. -/
def homeOf (a : Nat) : Nat :=
  if 2 ^ 60 ≤ a then 2 ^ 42 + (a - 2 ^ 60) / 2 ^ 45
  else if 2 ^ 53 ≤ a then 2 ^ 40 + (a - 2 ^ 53) / 0x4000
  else if 2 ^ 52 ≤ a then 2 ^ 41 + (a - 2 ^ 52) / 0x10000
  else match rangeOf a with
    | some .hbm => 0x1000 + bits a 36 3 * 32 + (bits a 8 5 ^^^ bits a 13 5)
    | some .tier2 => let b := a - 0x40000000000; 0x2000 + bits b 39 3 * 4 + bits b 12 2
    | some .companion => 0x3000 + bits a 8 2
    | some (.peer p) => 0x4000 + p
    | none => 0

/-- The first address after `a` at which a home's part may end (R195). -/
def splitAfter (a : Nat) : Nat :=
  let g := if 2 ^ 53 ≤ a then 0x4000 else if 2 ^ 52 ≤ a then 0x10000
    else match rangeOf a with
      | some .tier2 => 0x1000
      | _ => 0x100
  (a / g + 1) * g

/-- The runs of the bytes from `a` on, each of them at one home (R195, R209); `fuel` bounds the runs. -/
def homeRuns (a len fuel : Nat) : List Seg :=
  match fuel with
  | 0 => []
  | k + 1 =>
    if len = 0 then []
    else
      let m := min len (splitAfter a - a)
      (a, m) :: homeRuns (a + m) (len - m) k

/-- Translated runs, cut where the home, and with it the port, changes (R443). -/
def cutRuns (segs : List Seg) : List Seg := segs.flatMap fun g => homeRuns g.1 g.2 (g.2 / 0x100 + 2)

/-- Some byte of some runs lies behind a lost link (R212, R443). -/
def State.lostIn (s : State) (segs : List Seg) : Bool := (cutRuns segs).any fun g => s.linkLost g.1

/-! ## The walk -/

/-- The outcome of a walk (R215, R216). -/
inductive Walk where
  | page (e : TlbEnt)
  /-- No translation: a serviceable translation fault. -/
  | missing
  /-- A bad entry or descriptor: a final translation fault. -/
  | bad
  /-- A poisoned entry: final poisoned consumption. -/
  | poisoned
  deriving DecidableEq, Repr, Inhabited

/-- The low bit and the width of a level's virtual index (Table 10.6). -/
def levelBits (lvl : Nat) : Nat × Nat :=
  match lvl with
  | 5 => (48, 9)
  | 4 => (39, 9)
  | 3 => (30, 9)
  | 2 => (21, 9)
  | _ => (16, 5)

/-- Whether a frame can be mapped: it lies in a range, and not in an unbound peer window (R215). -/
def State.frameOk (s : State) (a : Nat) : Bool :=
  match rangeOf a with
  | some (.peer p) => (Table.get s.peers p).isSome
  | some _ => true
  | none => false

/-- An entry that a walker reads comes poisoned: its granule is poisoned, or its link is lost (R212, R215; log entry 27). -/
def State.entryBad (s : State) (a : Nat) : Bool := s.linkLost a || s.poisonOf a 8 != .clean

/-- The walk from the table of a level (R213 to R215). The address of a root or a table that lies in no range of Table 10.4 is read in the one
map, where it holds 0 and so a missing entry (log entry 52). -/
def State.walkFrom (s : State) (space va table lvl : Nat) : Walk :=
  match lvl with
  | 0 => .missing
  | n + 1 =>
    let lb := levelBits (n + 1)
    let ea := s.locate (table + 8 * bits va lb.1 lb.2)
    let e := s.peek ea 8
    if s.entryBad ea then .poisoned
    else if bits e 0 1 = 0 then .missing
    else
      let leaf := bits e 1 1 = 1
      let addr := bits e 8 44 * 256
      let align := if leaf then 2 ^ lb.1 else if n + 1 = 2 then 256 else 4096
      if bits e 5 3 ≠ 0 ∨ bits e 52 12 ≠ 0 ∨ (leaf ∧ 4 ≤ n + 1) ∨ (¬leaf ∧ n + 1 = 1) ∨ addr % align ≠ 0 ∨
          (leaf ∧ s.frameOk addr = false) then .bad
      else if leaf then
        .page { space := space, vbase := va / 2 ^ lb.1 * 2 ^ lb.1, size := 2 ^ lb.1, frame := addr
                rd := bits e 2 1 = 1, wr := bits e 3 1 = 1, atom := bits e 4 1 = 1 }
      else s.walkFrom space va addr n

/-- A die's record. -/
def State.die (s : State) (d : Nat) : Die := Table.get s.dies d

/-- The state with a die's record changed. -/
def State.modDie (s : State) (d : Nat) (f : Die → Die) : State := { s with dies := Table.modify s.dies d f }

/-- The walk of a space from its descriptor, by a walker of a die (R216). -/
def State.walk (s : State) (die space va : Nat) : Walk :=
  match (s.die die).spaceBase with
  | none => .missing
  | some b =>
    let da := b + 8 * space
    let d := s.peek da 8
    if s.entryBad da then .poisoned
    else if bits d 1 11 ≠ 0 ∨ bits d 52 12 ≠ 0 then .bad
    else if bits d 0 1 = 0 then .missing
    else s.walkFrom space va (bits d 12 40 * 4096) 5

/-- A TLB entry that covers an address of a space. -/
def TlbEnt.covers (e : TlbEnt) (space va : Nat) : Bool :=
  e.space == space && decide (e.vbase ≤ va) && decide (va < e.vbase + e.size)

/-- A compute tile. -/
def State.tile (s : State) (t : TileId) : Tile := Table.get s.tiles t.key

/-- The state with a compute tile changed. -/
def State.modTile (s : State) (t : TileId) (f : Tile → Tile) : State := { s with tiles := Table.modify s.tiles t.key f }

/-- Whose TLBs a translation goes through (R217): those of a tile and its die, or the die's alone for a unit of the die. -/
structure Site where
  die : Nat
  tile : Option TileId
  deriving DecidableEq, Repr, Inhabited

/-- The site of a compute tile. -/
def siteOf (t : TileId) : Site := ⟨t.die, some t⟩

/-- The tile's TLB holds a page for an address. -/
def State.tileHit (s : State) (w : Site) (space va : Nat) : Option TlbEnt :=
  w.tile.bind fun t => (s.tile t).tlb.find? fun e => e.covers space va

/-- The lookup of R217: the tile's TLB, the die's, then a walk. -/
def State.lookup (s : State) (w : Site) (space va : Nat) : Walk :=
  match s.tileHit w space va with
  | some e => .page e
  | none => match (s.die w.die).tlb.find? fun e => e.covers space va with
    | some e => .page e
    | none => s.walk w.die space va

/-- A TLB with a translation: where it is full the oldest entry makes room, which no program sees (R217). -/
def pushTlb (cap : Nat) (l : List TlbEnt) (e : TlbEnt) : List TlbEnt :=
  if l.contains e then l else (l ++ [e]).drop (l.length + 1 - cap)

/-- The entries of the first-level and the second-level TLB (Table 0.3). -/
def tileTlbSize : Nat := 512
def dieTlbSize : Nat := 65536

/-- The state with a translation held by the TLBs of a site. -/
def State.addTlb (s : State) (w : Site) (e : TlbEnt) : State :=
  let s1 := s.modDie w.die fun d => { d with tlb := pushTlb dieTlbSize d.tlb e }
  match w.tile with
  | some t => s1.modTile t fun x => { x with tlb := pushTlb tileTlbSize x.tlb e }
  | none => s1

/-- The state with translations held by the TLBs of a site. -/
def State.addAll (s : State) (w : Site) (es : List TlbEnt) : State := es.foldl (fun t e => t.addTlb w e) s

/-- Every TLB of the package without the entries that a test names. -/
def State.dropTlb (s : State) (p : TlbEnt → Bool) : State :=
  { s with
    tiles := s.tiles.map fun x => (x.1, { x.2 with tlb := x.2.tlb.filter fun e => !p e })
    dies := s.dies.map fun x => (x.1, { x.2 with tlb := x.2.tlb.filter fun e => !p e }) }

/-- Some TLB of the package holds an entry that a test names. -/
def State.anyTlb (s : State) (p : TlbEnt → Bool) : Bool :=
  s.tiles.any (fun x => x.2.tlb.any p) || s.dies.any fun x => x.2.tlb.any p

/-- The TLBs of a site without the pages that an address range touches: which entries a TLB keeps is not visible (R217). -/
def State.evict (s : State) (w : Site) (space va len : Nat) : State :=
  let keep := fun (e : TlbEnt) => !(e.space == space && decide (e.vbase < va + len) && decide (va < e.vbase + e.size))
  let s1 := s.modDie w.die fun d => { d with tlb := d.tlb.filter keep }
  match w.tile with
  | some t => s1.modTile t fun x => { x with tlb := x.tlb.filter keep }
  | none => s1

/-! ## Accesses -/

/-- What an access needs of its pages (Table 10.9). -/
structure Need where
  rd : Bool := false
  wr : Bool := false
  atom : Bool := false
  deriving DecidableEq, Repr, Inhabited

def Need.read : Need := { rd := true }
def Need.write : Need := { wr := true }
def Need.atomic : Need := { rd := true, wr := true, atom := true }

/-- The kind field of a translation request record for a need (Table 10.10). -/
def Need.kind (n : Need) : Nat := if n.atom then 2 else if n.wr then 1 else 0

/-- Whether a page has the bits that a need asks for (R218). -/
def TlbEnt.permits (e : TlbEnt) (n : Need) : Bool := (!n.rd || e.rd) && (!n.wr || e.wr) && (!n.atom || e.atom)

/-- A failed translation: its cause, the address that failed, and whether the driver can serve it (R96, R222). -/
structure XFail where
  cause : Cause
  addr : Nat
  serviceable : Bool
  deriving DecidableEq, Repr, Inhabited

/-- The physical runs of the bytes from `va` on, page by page; `first` holds the range of the first byte's frame, once it is
known (R96). A page that lies in another range and forbids the access besides is a window straddle (log entry 47). `fuel` bounds
the pages. -/
def State.runs (s : State) (w : Site) (space : Nat) (n : Need) (va len : Nat) (first : Option PRange) (fuel : Nat) :
    Except XFail (List Seg × List TlbEnt) :=
  match fuel with
  | 0 => .ok ([], [])
  | k + 1 =>
    if len = 0 then .ok ([], [])
    else match s.lookup w space va with
      | .poisoned => .error ⟨0x06, va, false⟩
      | .missing => if first = none then .error ⟨0x03, va, true⟩ else .error ⟨0x05, va, false⟩
      | .bad => if first = none then .error ⟨0x03, va, false⟩ else .error ⟨0x05, va, false⟩
      | .page e =>
        let pa := e.frame + (va - e.vbase)
        let here := rangeOf pa
        if first ≠ none ∧ first ≠ here then .error ⟨0x05, va, false⟩
        else if e.permits n = false then .error ⟨0x04, va, false⟩
        else
          let m := min len (e.vbase + e.size - va)
          match s.runs w space n (va + m) (len - m) (if first = none then here else first) k with
          | .error f => .error f
          | .ok (r, es) => .ok ((s.locate pa, m) :: r, e :: es)

/-- The physical runs of an access of at most a few pages. -/
def State.xlate (s : State) (w : Site) (space : Nat) (n : Need) (va len : Nat) :
    Except XFail (List Seg × List TlbEnt) := s.runs w space n va len none (len / 0x10000 + 3)

/-- The physical runs of a byte range that an engine takes page by page (R119, R342): it is no lane, so no window straddle arises,
and a missing page of it can be served wherever it stands. `fuel` bounds the pages. -/
def State.pageRuns (s : State) (w : Site) (space : Nat) (n : Need) (va len fuel : Nat) : Except XFail (List Seg) :=
  match fuel with
  | 0 => .ok []
  | k + 1 =>
    if len = 0 then .ok []
    else match s.lookup w space va with
      | .poisoned => .error ⟨0x06, va, false⟩
      | .missing => .error ⟨0x03, va, true⟩
      | .bad => .error ⟨0x03, va, false⟩
      | .page e =>
        if e.permits n = false then .error ⟨0x04, va, false⟩
        else
          let m := min len (e.vbase + e.size - va)
          match s.pageRuns w space n (va + m) (len - m) k with
          | .error f => .error f
          | .ok r => .ok ((s.locate (e.frame + (va - e.vbase)), m) :: r)

/-- The pages that a range touches, with how each one translates, in ascending address order; one that is unmapped, or lies beyond the
57-bit space, counts as 64 KiB (log entry 9). `fuel` bounds the pages. -/
def State.pagesOf (s : State) (w : Site) (space va len fuel : Nat) : List (Nat × Walk) :=
  match fuel with
  | 0 => []
  | k + 1 =>
    if len = 0 then []
    else
      let p := if 2 ^ 57 ≤ va then Walk.missing else s.lookup w space va
      let m := match p with
        | .page e => min len (e.vbase + e.size - va)
        | _ => min len (0x10000 - va % 0x10000)
      (va, p) :: s.pagesOf w space (va + m) (len - m) k

/-! ## Service by the driver -/

/-- Who asks for a translation (R221). -/
structure Asker where
  die : Nat
  /-- The compute tile of the fire, where there is one. -/
  tile : Option TileId
  ctxno : BitVec 14
  reqtag : BitVec 16
  deriving DecidableEq, Repr, Inhabited

/-- A die with a notification bit set: where it was 0 the die sends one interrupt message (Table 23.1, R440). -/
def Die.raise (d : Die) (b : Nat) : Die :=
  if d.ntf.getLsbD b then d else { d with ntf := d.ntf ||| (1#5 <<< b), msgs := d.msgs + 1 }

/-- A translation request record is written into the die's translation queue (R221, Table 10.10): the new state, and the
die and sequence number of the record. A ring that is full loses its oldest record, and no record is written where no queue is set or
its link is lost (log entry 51). -/
def State.askService (s : State) (w : Asker) (space kind va : Nat) : State × (Nat × Nat) :=
  let d := s.die w.die
  let a := if d.tqLen = 0 then none else some (d.tqBase + 32 * (d.tqSeq % d.tqLen))
  let place := match w.tile with
    | some t => pack [(112, t.die), (115, t.row), (120, t.col)]
    | none => pack [(112, w.die), (162, 1)]
  let v := pack [(0, va), (64, space), (78, kind), (80, w.ctxno.toNat), (96, w.reqtag.toNat), (128, d.tqSeq)] + place
  let s1 := match a with
    | some p => if s.linkLost p then s else ((s.dropCached p 32).poke p 32 v).modDie w.die fun x => x.raise 1
    | none => s
  let s2 := s1.modDie w.die fun x => { x with tqSeq := (x.tqSeq + 1) % 2 ^ 32 }
  ({ s2 with trans := s2.trans ++ [{ die := w.die, seq := d.tqSeq, place := a, space := space, va := va }] },
    (w.die, d.tqSeq))

/-! ## Seals and purity -/

/-- Whether two ranges of bytes share a byte. -/
def overlap (a n b m : Nat) : Bool := decide (a < b + m) && decide (b < a + n) && decide (0 < n) && decide (0 < m)

/-- A marked seal entry: from its mark on, every write to its range fails (R341, R342). -/
def SealEnt.marked (e : SealEnt) : Bool := e.st == .hashing || e.st == .sealed

/-- A write of a range meets a sealed byte (R341). -/
def State.sealHit (s : State) (space va len : Nat) : Bool :=
  s.seals.any fun p => p.2.marked && p.2.space == space && overlap p.2.base p.2.len va len

/-- Whether a read of one byte is pure (Table 20.3): it lies in a marked range of the space or in the result range. -/
def State.pureByte (s : State) (r : Region) (space a : Nat) : Bool :=
  (s.seals.any fun p => p.2.marked && p.2.space == space && decide (p.2.base ≤ a) && decide (a < p.2.base + p.2.len)) ||
    (decide (r.resBase ≤ a) && decide (a < r.resBase + r.resLen))

/-- Every byte of a range satisfies a test, from the last downward. -/
def allBytes (f : Nat → Bool) (a len : Nat) : Bool :=
  match len with
  | 0 => true
  | n + 1 => f (a + n) && allBytes f a n

/-- An access of a pure task violates purity by the bytes it touches (Table 20.3). -/
def State.impureAccess (s : State) (r : Region) (space : Nat) (write : Bool) (va len : Nat) : Bool :=
  r.pure && (if write then !(decide (r.resBase ≤ va) && decide (va + len ≤ r.resBase + r.resLen))
    else !allBytes (s.pureByte r space) va len)

end Sys2Proof.Machine
end

