-- ==== Sys2Proof/Machine/Access.lean ====
section
/-!
DEFINITION. Accesses at the fire (R81 to R93): the spaces `.x` and `.m` with their holes (R83, R196 to R199), addresses and
their checks (R82), the bytes an access touches, the request it sends, and the roles of its queues (R86, R87).
-/

namespace Sys2Proof.Machine

/-! ## Frame words and holes -/

/-- Fields of a frame word (Table 14.5). -/
def FrameUnit.loop (u : FrameUnit) : Bool := u.word.getLsbD 0
def FrameUnit.count (u : FrameUnit) : Nat := bits u.word.toNat 1 5
def FrameUnit.levels (u : FrameUnit) : Nat := bits u.word.toNat 6 3 + 1
def FrameUnit.priv (u : FrameUnit) : Nat := bits u.word.toNat 9 4 + 1
def FrameUnit.ovl (u : FrameUnit) : Nat := bits u.word.toNat 13 4
def FrameUnit.need (u : FrameUnit) : BitVec 16 := u.word.extractLsb' 17 16
def FrameUnit.out (u : FrameUnit) : Nat := bits u.word.toNat 33 3
def FrameUnit.otag (u : FrameUnit) : BitVec 4 := u.word.extractLsb' 36 4
def FrameUnit.enter (u : FrameUnit) : Nat := bits u.word.toNat 40 4
def FrameUnit.leave (u : FrameUnit) : Nat := bits u.word.toNat 44 4
def FrameUnit.spills (u : FrameUnit) : Nat := bits u.word.toNat 48 4

/-- A channel whose counts the S-element consumes itself, in loop-nest mode: never available to `cwait` (R147). -/
def FrameUnit.steps (u : FrameUnit) (c : Nat) : Bool := u.loop && (c == u.enter || c == u.leave)

/-- The bytes of the frame storage (R144). -/
def FrameUnit.size (u : FrameUnit) : Nat :=
  if u.word = 0 then 0 else if u.loop then 32 * (u.levels * u.priv + u.ovl) else 512 * u.count

/-- The bytes of the frame area F (R144). -/
def FrameUnit.area (u : FrameUnit) : Nat := (u.size + 1023) / 1024 * 1024

/-- The bytes of the frame and spill areas, a hole of `.x` (R196). -/
def FrameUnit.hole (u : FrameUnit) : Nat := u.area + 1024 * u.spills

/-- The address in the one map of a storage slot of an S-element's frames: 32 bytes each, ascending, at the top of its scratch
(R144, log entry 49). -/
def FrameUnit.slotAddr (u : FrameUnit) (e : ElemId) (k : Nat) : Nat :=
  scratchAddr e.tile ((e.pos - 111) * 0x4000) - u.size + 32 * k

/-- The address in the one map of a spill record: 1,024 bytes each, ascending, directly below the frame area (R142, R144, log entry
49). -/
def FrameUnit.spillAddr (u : FrameUnit) (e : ElemId) (n : Nat) : Nat :=
  scratchAddr e.tile ((e.pos - 111) * 0x4000) - u.hole + 1024 * n

/-- The S-element that holds a `.x` address (R81). -/
def scratchElem (t : TileId) (x : Nat) : ElemId := ⟨t, 112 + x / 0x4000⟩

/-- The address in the one map of a `.x` byte; none in a hole or beyond the extent (R81, R196). -/
def State.xByte (s : State) (t : TileId) (x : Nat) : Option Nat :=
  if 0x20000 ≤ x then none
  else if 0x4000 - ((s.elem (scratchElem t x)).frame).hole ≤ x % 0x4000 then none
  else some (scratchAddr t x)

/-- A quarter of a memory tile. -/
def State.quarter (s : State) (t : TileId) (q : Nat) : Quarter := Table.get (Table.get s.mtiles t.key).quarters q

/-- Fields of a quarter word (Table 14.8). -/
def Quarter.mode (q : Quarter) : Nat := bits q.word.toNat 0 2
def Quarter.bufs (q : Quarter) : Nat := match bits q.word.toNat 2 2 with
  | 0 => 1
  | 1 => 2
  | _ => 4
def Quarter.ev (q : Quarter) : Bool := bits q.word.toNat 84 1 == 1

/-- The first byte of a quarter in the one map (R19). -/
def quarterAddr (t : TileId) (q : Nat) : Nat := mtileAddr t (q * 0x40000)

/-- The bytes of a buffer of a tile store (R201). -/
def Quarter.bufSize (q : Quarter) : Nat := 0x40000 / q.bufs

/-- The first byte of a buffer, and the address of its buffer word (R201). -/
def Quarter.bufAddr (k : Quarter) (t : TileId) (q b : Nat) : Nat := quarterAddr t q + b * k.bufSize
def Quarter.bufWord (k : Quarter) (t : TileId) (q b : Nat) : Nat := k.bufAddr t q b + k.bufSize - 32

/-- The burst or line under way is whole. -/
def Quarter.whole (k : Quarter) : Bool :=
  match k.held.getLast? with
  | some t => t.tail
  | none => false

/-- The memory tile of a window slot, of the accessing tile (R197, R198): the four neighbours on the die, then the table. -/
def State.windowTile (s : State) (t : TileId) (n : Nat) : Option TileId :=
  let r := s.regionAt t
  match n with
  | 0 => if 0 < t.row then some ⟨t.die, t.row - 1, t.col⟩ else none
  | 1 => if t.col < 39 then some ⟨t.die, t.row, t.col + 1⟩ else none
  | 2 => if t.row < 19 then some ⟨t.die, t.row + 1, t.col⟩ else none
  | 3 => if 0 < t.col then some ⟨t.die, t.row, t.col - 1⟩ else none
  | _ => match Table.get r.window n with
    | some p => r.tileAt p.1 p.2
    | none => none

/-- The address in the one map of a `.m` byte; none in a hole or beyond the extent (R197 to R199). -/
def State.mByte (s : State) (t : TileId) (a : Nat) : Option Nat :=
  let r := s.regionAt t
  if (if r.window.isEmpty then 0x400000 else 0x4000000) ≤ a then none
  else match s.windowTile t (a / 0x100000) with
    | none => none
    | some m =>
      let off := a % 0x100000
      if r.hasTile m = false ∨ (s.quarter m (off / 0x40000)).mode ≠ 0 then none
      else some (mtileAddr m off)

/-- The address in the one map of a byte of `.x` or `.m`. -/
def State.localByte (s : State) (t : TileId) (sp : Space) (a : Nat) : Option Nat :=
  match sp with
  | .x => s.xByte t (a % 2 ^ 32)
  | .m => s.mByte t (a % 2 ^ 32)
  | .g => none

/-- The first byte of a range that is a hole, with `len` bytes from `a` on (R83). -/
def State.holeIn (s : State) (t : TileId) (sp : Space) (a len : Nat) : Option Nat :=
  match len with
  | 0 => none
  | n + 1 => if (s.localByte t sp a).isNone then some a else s.holeIn t sp (a + 1) n

/-! ## The bytes of an access -/

/-- A byte range of an access: the lane, the place in the lane, the address in its space, and the length. -/
structure Range where
  lane : Nat
  off : Nat
  addr : Nat
  len : Nat
  deriving DecidableEq, Repr, Inhabited

/-- The guarded lanes. -/
def guarded (g : Mask) : List (Fin 8) := laneIdx.filter fun i => g.get i

/-- The byte ranges that a request touches, by its operation (R95, R100, R103, R113, R98). -/
def Req.ranges (r : Req) : List Range :=
  match r.op with
  | .load w _ vec _ | .store w vec =>
    (guarded r.guard).map fun i => ⟨i.val, 0, r.addr.get i, if vec then 4 else w⟩
  | .atomic _ => (guarded r.guard).map fun i => ⟨i.val, 0, r.addr.get i, 4⟩
  | .ldf | .stf | .iowait | .ioread => [⟨0, 0, r.addr.l0, 4⟩]
  | .arv | .awt _ | .arw => [⟨0, 0, r.addr.l0, 8⟩]
  | .rangeTouch n => [⟨0, 0, r.addr.l0, n⟩]
  | .hrow => [⟨0, 0, r.addr.l0, 4⟩]
  | .copy => [⟨0, 0, r.addr.l0, 64⟩]
  | .gsend _ => (guarded r.guard).map fun i => ⟨i.val, 0, r.addr.get i, 4⟩
  | _ => []

/-- The request is served byte by byte, word by word or record by record at homes (R90); the others go to a unit. -/
def Req.isHome (r : Req) : Bool :=
  match r.op with
  | .load _ _ _ m => m == .data
  | .store _ _ | .ldf | .stf | .atomic _ | .arv | .awt _ | .arw | .iowait => true
  | _ => false

/-- The block of a copy or the query of a page selection is not yet read (R255, R349): its read is an access of the bank. -/
def Req.capturing (r : Req) : Bool := (r.op == .copy || r.op == .pgsel) && !r.started

/-- What the pages of a `.g` access must allow (Table 10.9). -/
def Req.need (r : Req) : Need :=
  match r.op with
  | .store _ _ => Need.write
  | .atomic _ | .arv | .arw => Need.atomic
  | _ => Need.read

/-- The request writes memory: the purity and seal rules ask (R341, R409). -/
def Req.writes (r : Req) : Bool :=
  match r.op with
  | .store _ _ | .atomic _ | .stf | .arv | .arw => true
  | _ => false

/-- The form checks no address at the fire and takes no fault (R97, R98). -/
def Req.suppressed (r : Req) : Bool :=
  match r.op with
  | .load _ _ _ m => m != .data
  | .rangeTouch _ => true
  | _ => false

/-- The first byte of a range that lies beyond the 57-bit space (R82). -/
def Range.beyond (x : Range) : Option Nat :=
  if 2 ^ 57 ≤ x.addr then some x.addr else if 2 ^ 57 < x.addr + x.len then some (2 ^ 57) else none

/-- The trap of an address at the fire: R82 for `.g`, R83 for `.x` and `.m`. -/
def State.addrTrap (s : State) (r : Req) (gbase : Nat) : Option Trap :=
  if r.suppressed then none
  else match r.space with
    | .g =>
      if 2 ^ 57 ≤ gbase then some { cause := 0x03, addr := gbase }
      else match r.ranges.findSome? Range.beyond with
        | some a => some { cause := 0x03, addr := a }
        | none => none
    | sp => match r.ranges.findSome? (fun x => s.holeIn r.elem.tile sp x.addr x.len) with
      | some a => some { cause := 0x05, addr := a % 2 ^ 32 }
      | none => none

/-- The parts of one run of bytes that one home serves in one step each: whole where the lane access is single-copy atomic,
else byte by byte (R91). -/
def partsOf (lane off addr len : Nat) (whole : Bool) : List Part :=
  if whole then [⟨lane, off, addr, len⟩] else (List.range len).map fun k => ⟨lane, off + k, addr + k, 1⟩

/-- The parts of a range, from the runs of one-map addresses of its bytes (R195). -/
def partsOfRuns (lane : Nat) (w : Nat) (runs : List Seg) (off : Nat) : List Part :=
  match runs with
  | [] => []
  | (a, n) :: rest => partsOf lane off a n (n == w && a % w == 0) ++ partsOfRuns lane w rest (off + n)

/-- The runs of one-map addresses of the bytes of a `.x` or `.m` range: byte by byte, joined where they follow on. -/
def State.localRuns (s : State) (t : TileId) (sp : Space) (a len : Nat) : List Seg :=
  match len with
  | 0 => []
  | n + 1 =>
    let b := (s.localByte t sp a).getD 0
    match s.localRuns t sp (a + 1) n with
    | (c, m) :: rest => if c = b + 1 then (b, m + 1) :: rest else (b, 1) :: (c, m) :: rest
    | [] => [(b, 1)]

/-- The parts of a vector access (R91): in one aligned 32-byte block it is one part, for which lane 8 stands for every guarded
lane; any other is single-copy atomic byte by byte. -/
def vecParts (ps : List Part) : List Part :=
  match ps with
  | [] => []
  | p :: rest =>
    let base := p.addr - 4 * p.lane
    if p.len = 4 ∧ base % 32 = 0 ∧ 4 * p.lane ≤ p.addr ∧ (p :: rest).all (fun q => q.len == 4 && q.addr == base + 4 * q.lane) then
      [⟨8, 0, base, 32⟩]
    else (p :: rest).flatMap fun q => partsOf q.lane q.off q.addr q.len false

/-- The parts of a `.x` or `.m` request. -/
def State.localParts (s : State) (r : Req) : List Part :=
  let ps := r.ranges.flatMap fun x => partsOfRuns x.lane x.len (s.localRuns r.elem.tile r.space x.addr x.len) 0
  match r.op with
  | .load _ _ true _ | .store _ true => vecParts ps
  | _ => ps

/-! ## Sending a request -/

/-- The queues of `inq` that the word neither pops nor peeks (R87). -/
def orderIn (f : Fire) (srcs : List (BitVec 5)) : List Nat :=
  (queuesOf f.tr.inq).filter fun q =>
    !(srcs.any fun c => (decide (16 ≤ c.toNat) && decide (c.toNat < 28)) && (c.toNat == 16 + q || c.toNat == 22 + q))

/-- The word uses oq4 implicitly: `gsend` and `mdrn` (R264, R272). -/
def usesOq4 (w : Word) : Bool :=
  (bits w.toNat 20 6 == 0x2F && decide (1 ≤ w.toNat % 32) && decide (w.toNat % 32 ≤ 4)) || bits w.toNat 20 6 == 0x32

/-- The queues of `outq` that the word does not name and does not use implicitly (R87, R248): oq5 takes no ordering token, as R87 has it, also
where R111 counts it among the outputs of an `otok` (log entry 47). -/
def orderOut (f : Fire) (d : BitVec 5) : List Nat :=
  (queuesOf f.tr.outq).filter fun q => q != 5 && d.toNat != 16 + q && !(q == 4 && usesOq4 f.word)

/-- A set of queues as bits. -/
def maskOf (qs : List Nat) : BitVec 6 := qs.foldl (fun m q => m ||| (1#6 <<< q)) 0

/-- The ordering token of a fire (R87). -/
def Fire.orderTok (f : Fire) (ins : List Nat) : Tok :=
  { data := match ins with
      | q :: _ => ((f.el.head q).getD {}).data
      | [] => Lanes.fill 0
    tag := f.tr.otag
    head := true
    tail := true
    poison := ins.foldl (fun p q => p.join ((f.el.head q).getD {}).poison) .clean
    reqtag := f.tags.1
    ctxno := f.reg.ctxno
    itertag := f.tags.2 }

/-! ## The head iteration -/

/-- The elements and tiles of a region that the state lists. -/
def State.elemsOf (s : State) (r : Region) : List (ElemId × Elem) :=
  s.elems.filterMap fun p => if r.hasTile (ElemId.ofKey p.1).tile then some (ElemId.ofKey p.1, p.2) else none
def State.tilesOf (s : State) (r : Region) : List (TileId × Tile) :=
  s.tiles.filterMap fun p => if r.hasTile (TileId.ofKey p.1) then some (TileId.ofKey p.1, p.2) else none
def State.mtilesOf (s : State) (r : Region) : List (TileId × MemTile) :=
  s.mtiles.filterMap fun p => if r.hasTile (TileId.ofKey p.1) then some (TileId.ofKey p.1, p.2) else none

/-- A purge that is not yet marked. -/
def Purge.unmarked (p : Purge) : Bool := p.st == .queued || p.st == .marking

/-- The iteration tags of the tokens of queue entries. -/
def entryTags (t : Table (List QEntry)) : List (BitVec 16) :=
  t.flatMap fun p => p.2.filterMap fun e => match e with
    | .tok k => some k.itertag
    | .resv _ => none

/-- The iteration tags that an element holds (R419): its queues' tokens, its frames or the level under way, and what they emit. -/
def Elem.liveTags (x : Elem) : List (BitVec 16) :=
  entryTags x.iq ++ entryTags x.oq ++ x.frame.emitq.map (·.itertag) ++
    (x.frame.frames.filter fun f => f.2.alloc).map (fun f => f.2.itertag) ++
    if x.frame.loop && !x.frame.here.isEmpty then [x.frame.lastIter] else []

/-- The iteration tags that a FIFO or a line buffer holds (R419). -/
def Quarter.liveTags (q : Quarter) : List (BitVec 16) :=
  if q.mode = 0 then [] else (q.held ++ q.bursts.flatMap (·.2) ++ q.lines.map (·.2)).map (·.itertag)

/-- The live iterations of a region (R419). -/
def State.liveTags (s : State) (rid : Nat) : List (BitVec 16) :=
  let r := s.region rid
  (s.elemsOf r).flatMap (fun p => p.2.liveTags) ++
    (s.tilesOf r).flatMap (fun p => p.2.classes.flatMap (fun c => c.2.map fun f => f.tok.itertag) ++
      p.2.ports.flatMap fun q => q.2.inbox.map (·.itertag)) ++
    (s.mtilesOf r).flatMap (fun p => p.2.quarters.flatMap fun q => q.2.liveTags) ++
    (s.reqs.filter fun q => r.hasTile q.elem.tile).map (·.itertag) ++
    (s.faults.filter fun f => f.region == rid).map (·.itertag) ++ (r.hfault.map (·.itertag)).toList ++
    (s.purges.filter Purge.unmarked).flatMap fun p => p.holds.filterMap fun h => if h.1 = rid then some h.2 else none

/-- The head iteration of the region of a tile is live (R419). -/
def State.headLive (s : State) (t : TileId) : Bool :=
  match s.regionOf t with
  | some n => (s.liveTags n).contains (s.region n).head
  | none => false

/-- The iteration of an exit entry that a tile issues is the head, or behind it while the head is live, or the handler makes it: it
passes at once (R419, R420). -/
def State.exitPasses (s : State) (t : TileId) (itertag : BitVec 16) (inHandler : Bool) : Bool :=
  let h := (s.regionAt t).head
  inHandler || itertag == h || (decide (32768 ≤ (itertag - h).toNat) && s.headLive t)

/-- What a fire says of a request beyond its operation: where it was issued and what it carries. -/
def Fire.req (f : Fire) (id : Nat) (srcs : List (BitVec 5)) (d : BitVec 5) (op : ReqOp) : Req :=
  { id := id
    op := op
    elem := f.cur.elem
    bank := f.b
    epoch := f.bk.epoch
    cc := f.cur.cc
    slot := f.cur.slot
    trig := f.trig
    word := f.word
    opa := f.opOf srcs 0
    opb := f.opOf srcs 1
    ctxno := f.reg.ctxno
    reqtag := f.tags.1
    itertag := f.tags.2
    guard := f.g
    dest := d
    otag := f.tr.otag
    head := (f.token (Lanes.fill 0)).head
    tail := (f.token (Lanes.fill 0)).tail
    outs := maskOf (orderOut f d)
    otok := f.orderTok (orderIn f srcs)
    inHandler := f.reg.handler && f.cur.cc == 3 }

/-- Where a new request starts: a release is held (R92), an exit entry of a twin waits for its partner (R435), an exit entry of a later
iteration is held (R420), a local access is at its homes, and any other is to be translated or taken. -/
def State.firstStage (s : State) (q : Req) : Stage :=
  if q.release then .held
  else if q.exit && (s.regionAt q.elem.tile).twin.isSome then .twin
  else if q.exit && !s.exitPasses q.elem.tile q.itertag q.inHandler then .exitHeld
  else if q.parts.isEmpty then .sent else .atHome

/-- The reservations of a fire that sends a request (R85 to R87): the pending register or predicate, the entry of the named
queue or of iq5, the ordering outputs, and, for an atomic or a seal, q6. -/
def Fire.reserve (f : Fire) (id : Nat) (d : BitVec 5) (q6 : Bool) (x : Elem) : Elem :=
  let x1 :=
    if d.toNat < 15 then x.modBank f.b fun k => k.setReg d.toNat { k.reg d.toNat with pending := true }
    else if d.toNat = 15 then x
    else if d.toNat = 21 then x.pushIn 5 (.resv id)
    else if d.toNat < 22 then x.pushOut (d.toNat - 16) (.resv id)
    else if d.toNat < 29 then x.modBank f.b fun k => k.setPred (d.toNat - 22) { k.pred (d.toNat - 22) with pending := true }
    else x
  let x2 := (orderOut f d).foldl (fun y q => y.pushOut q (.resv id)) x1
  if q6 then x2.modBank f.b fun k => k.setPred 6 { k.pred 6 with pending := true } else x2

/-- The state with a request sent; its name is `s.nextId`. -/
def State.send (s : State) (q : Req) : State := { s with reqs := s.reqs ++ [q], nextId := s.nextId + 1 }

/-- A fire of a pure task that is a violation by itself (Table 20.3, R410). -/
def Fire.purity (f : Fire) (violates : Bool) : Option Trap :=
  if f.reg.pure && violates && !f.waived 0x08 then some { cause := 0x08 } else none

/-- The address in gbase form (R81). -/
def gbase (v : Vec) : Nat := v.l1.toNat * 2 ^ 32 + v.l0.toNat

/-- A fire that sends a request (R84 to R87): `mk` completes the request from what the fire read, `pureBad` says that the fire is
a purity violation by itself, `gb` is the global base that R82 judges, and `extra` are sources beyond the named ones. A fire that
is a violation and has a bad address besides takes the violation (log entry 47). -/
def fireReq (s : State) (t : BitVec 6) (d : BitVec 5) (srcs : List (BitVec 5)) (extra : Fire → List Src) (op : ReqOp)
    (pureBad q6 : Bool) (gb : Fire → Nat) (mk : Fire → Req → Req) : Host.Outcome State Fault Refusal :=
  let f := fireOf s t
  let q0 := mk f (f.req s.nextId srcs d op)
  let q1 := { q0 with parts := if q0.space == Space.g || !q0.isHome then [] else s.localParts q0, exitNo := f.el.exits }
  let q := { q1 with stage := s.firstStage q1 }
  let own := match f.purity pureBad with
    | some x => some x
    | none => s.addrTrap q (gb f)
  fire s f srcs (srcs.map f.src ++ extra f) own (popsOf srcs ++ orderIn f srcs)
    (fun x => f.reserve s.nextId d q6 (if q.exit then { x with exits := x.exits + 1 } else x)) id
    (fun z => z.send q)

end Sys2Proof.Machine
end

