-- ==== Sys2Proof/Machine/Element.lean ====
section
/-!
DEFINITION. Element instructions, majors 0x00 to 0x0F (R52 to R80): element control, channels and steering, the
configuration switch, control tokens, register moves, integer arithmetic, logic, comparison, predicates, lane
shuffles, counters and bit manipulation.
-/

namespace Sys2Proof.Machine

/-! ## Shared by these families -/

/-- The lane of a value that an index names, modulo 8. -/
def laneAt (v : Vec) (i : Nat) : Word := v.get (Fin.ofNat 8 i)

/-- A signed number clamped to 32 bits (R70). -/
def satS32 (x : Int) : Word :=
  if x < -2147483648 then 0x80000000 else if 2147483647 < x then 0x7FFFFFFF else BitVec.ofInt 32 x

/-- The number of 1 bits of the low `n` bits. -/
def popCount (x : Word) (n : Nat) : Nat :=
  match n with
  | 0 => 0
  | k + 1 => (if x.getLsbD k then 1 else 0) + popCount x k

/-- The number of leading 0 bits of the low `n` bits. -/
def leadZeros (x : Word) (n : Nat) : Nat :=
  match n with
  | 0 => 0
  | k + 1 => if x.getLsbD k then 0 else 1 + leadZeros x k

/-- The number of trailing 0 bits, with `n` bits left to look at. -/
def trailZeros (x : Word) (n : Nat) : Nat :=
  match n with
  | 0 => 0
  | k + 1 => if x.getLsbD (31 - k) then 0 else 1 + trailZeros x k

/-- The low `n` bits of `x`, bit `k` moved to bit `31 − k` (R79). -/
def revBits (x : Word) (n : Nat) : Word :=
  match n with
  | 0 => 0
  | k + 1 => (if x.getLsbD k then (1#32 <<< (31 - k)) else 0) ||| revBits x k

/-- The bytes reversed (R79). -/
def revBytes (x : Word) : Word :=
  x.extractLsb' 0 8 ++ x.extractLsb' 8 8 ++ x.extractLsb' 16 8 ++ x.extractLsb' 24 8

/-- The bit field of `bfx` (R79): bits `lo` to `min(lo + w, 32) − 1`, and how many there are. -/
def bitField (x y : Word) : Nat × Nat :=
  let lo := bits y.toNat 0 5
  let w := bits y.toNat 8 5
  let n := min (lo + w) 32 - lo
  (bits x.toNat lo n, n)

/-- A narrow number of `n` bits sign-extended to a lane. -/
def signExt (v n : Nat) : Word :=
  if n = 0 then 0
  else if 2 ^ (n - 1) ≤ v then BitVec.ofInt 32 ((v : Int) - (2 ^ n : Nat)) else BitVec.ofNat 32 v

/-- The guarded lanes packed downward, then zeros (R76). -/
def packLanes (g : Mask) (v : Vec) : Vec :=
  let l := (laneIdx.filter fun i => g.get i).map fun i => v.get i
  Lanes.ofFn fun i => l.getD i.val 0

/-- The sideband of a token as `mvsb` shows it (Table 3.6). -/
def sideband (h : Tok) : Vec :=
  ⟨h.tag.zeroExtend 32, bit h.head ||| (bit h.tail <<< 1) ||| (bit (h.poison != .clean) <<< 2), h.reqtag.zeroExtend 32,
    h.itertag.zeroExtend 32, h.ctxno.zeroExtend 32, 0, 0, 0⟩

/-- A move of the whole head token (R61): no poison is consumed, and the stamping of R25 does not apply. -/
def moveToken (s : State) (t : BitVec 6) (d a : BitVec 5) (retag : Fire → Tok → Tok) :
    Host.Outcome State Fault Refusal :=
  let f := fireOf s t
  fire s f [a] [] none (popsOf [a]) (fun x => x.pushOut (d.toNat - 16) (.tok (retag f (f.headOf a)))) id id

/-! ## The configuration switch and control tokens -/

/-- The tile hops between a tile and the origin tile of a region (R303). -/
def Region.hops (r : Region) (t : TileId) : Nat := (r.rel t).1 + (r.rel t).2

/-- A fire of `cfgsw` (R63): cc3 is privileged outside handler mode in a context with trap handling; otherwise one switch
request is sent, and d is pending until its status arrives (R303). -/
def switchFire (s : State) (t : BitVec 6) (d : BitVec 5) (srcs : List (BitVec 5)) (target : Fire → BitVec 2) :
    Host.Outcome State Fault Refusal :=
  let f := fireOf s t
  let own : Option Trap :=
    if !f.reg.handler && target f == 3 && s.th f.reg.ctxno then some { cause := 0x10 } else none
  fire s f srcs (srcs.map f.src) own (popsOf srcs)
    (fun x => if d.toNat < 29 then x.modBank f.b fun k => k.setPred (d.toNat - 22) { k.pred (d.toNat - 22) with pending := true }
      else x)
    id
    (fun z => { z with
      switches := z.switches ++ [{ elem := f.cur.elem, bank := f.b, epoch := f.bk.epoch, dest := d, guard := f.g, target := target f
                                   due := f.reg.clock + 4 + f.reg.hops f.cur.elem.tile }] })

/-- The elements of a region that receive a control channel (R294): those with a `cwait` of it in a loaded slot, and the
S-elements whose frame word names it. -/
def State.receivers (s : State) (rid chan : Nat) : List ElemId :=
  s.elems.filterMap fun p =>
    let e := ElemId.ofKey p.1
    let waits := p.2.ctxs.any fun c => c.2.slots.any fun w =>
      -- the word of `cwait chan` (R66), under any trigger
      w.2.extractLsb' 0 26 == (0x300002 : BitVec 26) ||| (BitVec.ofNat 26 chan <<< 5)
    let steps := p.2.frame.loop && e.kind == .s && (p.2.frame.enter == chan || p.2.frame.leave == chan)
    if (s.region rid).hasTile e.tile && (waits || steps) then some e else none

/-! ## Counters -/

/-- Counter `j` of an A-element. -/
def Elem.counter (x : Elem) (j : Nat) : Counter := Table.get x.counters j

/-- The value of a counter (R77). -/
def Counter.value (c : Counter) : Word := c.base + c.idx * c.step

/-- The counter that `cset` loads from the lanes of its operand (R78). -/
def counterOf (v : Vec) : Counter := { base := v.l0, n := v.l1, step := v.l2, idx := 0, chain := v.l3.getLsbD 0 }

/-- One step of counter `j` and of those it chains to, with the carry (R78); `fuel` bounds the chain. -/
def stepCounter (x : Elem) (j fuel : Nat) : Elem × Bool :=
  let c := x.counter j
  let idx := c.idx + 1
  -- n = 0 stands for 2^32, which idx reaches when it wraps to 0
  if idx == c.n then
    let y : Elem := { x with counters := Table.set x.counters j { c with idx := 0 } }
    match fuel with
    | 0 => (y, true)
    | k + 1 => if c.chain && decide (j < 3) then stepCounter y (j + 1) k else (y, true)
  else ({ x with counters := Table.set x.counters j { c with idx := idx } }, false)

/-! ## The instructions -/

/-- `NOP` (R58). -/
def execNop (t : BitVec 6) (s : State) : Host.Outcome State Fault Refusal :=
  fireElem s t [] (fun _ => none) (fun _ x => x) (fun _ => id)

/-- `SETE` (R58). -/
def execSete (t : BitVec 6) (a : BitVec 5) (s : State) : Host.Outcome State Fault Refusal :=
  fireElem s t [a] (fun _ => none) (fun _ x => x) (fun f e => e ||| (f.src a).val.l0.extractLsb' 0 8)

/-- `CLRE` (R58). -/
def execClre (t : BitVec 6) (a : BitVec 5) (s : State) : Host.Outcome State Fault Refusal :=
  fireElem s t [a] (fun _ => none) (fun _ x => x) (fun f e => e &&& ~~~((f.src a).val.l0.extractLsb' 0 8))

/-- `FWD` (R61). -/
def execFwd (t : BitVec 6) (d : BitVec 5) (a : BitVec 5) (s : State) : Host.Outcome State Fault Refusal :=
  moveToken s t d a fun _ h => h

/-- `FWD_T` (R61). -/
def execFwdT (t : BitVec 6) (d : BitVec 5) (a : BitVec 5) (s : State) : Host.Outcome State Fault Refusal :=
  moveToken s t d a fun f h => { h with tag := f.tr.otag }

/-- `DEQ` (R60). -/
def execDeq (t : BitVec 6) (a : BitVec 5) (s : State) : Host.Outcome State Fault Refusal :=
  let f := fireOf s t
  fire s f [a] [] none (popsOf [a]) id id id

/-- `SEL_QN` (R62). -/
def execSelQn (t : BitVec 6) (d : BitVec 5) (a : BitVec 5) (b : BitVec 5) (n : BitVec 3) (s : State) : Host.Outcome State Fault Refusal :=
  fireLanes s t d [a, b] fun f => Lanes.ofFn fun i =>
    if ((f.bk.pred n.toNat).val.get i) then (f.src a).val.get i else (f.src b).val.get i

/-- `CFGSW` (R63). -/
def execCfgsw (t : BitVec 6) (d : BitVec 5) (a : BitVec 5) (s : State) : Host.Outcome State Fault Refusal :=
  switchFire s t d [a] fun f => (f.src a).val.l0.extractLsb' 0 2

/-- `CFGSW_CC` (R63). -/
def execCfgswCc (t : BitVec 6) (d : BitVec 5) (c : BitVec 2) (s : State) : Host.Outcome State Fault Refusal :=
  switchFire s t d [] fun _ => c

/-- `CTOK` (R66). -/
def execCtok (t : BitVec 6) (b : BitVec 5) (s : State) : Host.Outcome State Fault Refusal :=
  let f := fireOf s t
  fire s f [] [] none [] id id fun z =>
    { z with ctlFlight := z.ctlFlight ++ (z.receivers f.rid b.toNat).map fun e => (e, b.toNat) }

/-- `CWAIT` (R66). -/
def execCwait (t : BitVec 6) (b : BitVec 5) (s : State) : Host.Outcome State Fault Refusal :=
  fireElem s t [] (fun _ => none)
    (fun _ x => { x with ctl := Table.set x.ctl b.toNat (Table.get x.ctl b.toNat - 1) }) (fun _ => id)

/-- `MOV` (R67). -/
def execMov (t : BitVec 6) (d : BitVec 5) (a : BitVec 5) (s : State) : Host.Outcome State Fault Refusal :=
  lanes1 s t d a id

/-- `MOVP` (R67). -/
def execMovp (t : BitVec 6) (d : BitVec 5) (a : BitVec 5) (s : State) : Host.Outcome State Fault Refusal :=
  fireLanes s t d [] fun f => Lanes.ofFn fun i => if (f.predLit a).get i then 0xFFFFFFFF else 0

/-- `MVSE` (R67). -/
def execMvse (t : BitVec 6) (d : BitVec 5) (s : State) : Host.Outcome State Fault Refusal :=
  fireLanes s t d [] fun f => Lanes.fill (f.bk.e.zeroExtend 32)

/-- `MVSB` (R68). -/
def execMvsb (t : BitVec 6) (d : BitVec 5) (a : BitVec 5) (s : State) : Host.Outcome State Fault Refusal :=
  let f := fireOf s t
  fire s f [a] [] none (popsOf [a]) (f.writeDest f.g d (sideband (f.headOf a))) id id

/-- `MOVI` (R69). -/
def execMovi (t : BitVec 6) (d : BitVec 5) (i : BitVec 10) (s : State) : Host.Outcome State Fault Refusal :=
  fireLanes s t d [] fun _ => Lanes.fill (i.signExtend 32)

/-- `MOVL` (R69). -/
def execMovl (t : BitVec 6) (d : BitVec 5) (i : BitVec 15) (s : State) : Host.Outcome State Fault Refusal :=
  fireLanes s t d [] fun _ => Lanes.fill (i.signExtend 32)

/-- `ADD` (R70). -/
def execAdd (t : BitVec 6) (d : BitVec 5) (a : BitVec 5) (b : BitVec 5) (s : State) : Host.Outcome State Fault Refusal :=
  lanes2 s t d a b fun x y => x + y

/-- `SUB` (R70). -/
def execSub (t : BitVec 6) (d : BitVec 5) (a : BitVec 5) (b : BitVec 5) (s : State) : Host.Outcome State Fault Refusal :=
  lanes2 s t d a b fun x y => x - y

/-- `ADDS_S32` (R70). -/
def execAddsS32 (t : BitVec 6) (d : BitVec 5) (a : BitVec 5) (b : BitVec 5) (s : State) : Host.Outcome State Fault Refusal :=
  lanes2 s t d a b fun x y => satS32 (x.toInt + y.toInt)

/-- `ADDS_N32` (R70). -/
def execAddsN32 (t : BitVec 6) (d : BitVec 5) (a : BitVec 5) (b : BitVec 5) (s : State) : Host.Outcome State Fault Refusal :=
  lanes2 s t d a b fun x y => wordOf (min (x.toNat + y.toNat) 0xFFFFFFFF)

/-- `SUBS_S32` (R70). -/
def execSubsS32 (t : BitVec 6) (d : BitVec 5) (a : BitVec 5) (b : BitVec 5) (s : State) : Host.Outcome State Fault Refusal :=
  lanes2 s t d a b fun x y => satS32 (x.toInt - y.toInt)

/-- `SUBS_N32` (R70). -/
def execSubsN32 (t : BitVec 6) (d : BitVec 5) (a : BitVec 5) (b : BitVec 5) (s : State) : Host.Outcome State Fault Refusal :=
  lanes2 s t d a b fun x y => wordOf (x.toNat - y.toNat)

/-- `AND` (R70). -/
def execAnd (t : BitVec 6) (d : BitVec 5) (a : BitVec 5) (b : BitVec 5) (s : State) : Host.Outcome State Fault Refusal :=
  lanes2 s t d a b fun x y => x &&& y

/-- `OR` (R70). -/
def execOr (t : BitVec 6) (d : BitVec 5) (a : BitVec 5) (b : BitVec 5) (s : State) : Host.Outcome State Fault Refusal :=
  lanes2 s t d a b fun x y => x ||| y

/-- `XOR` (R70). -/
def execXor (t : BitVec 6) (d : BitVec 5) (a : BitVec 5) (b : BitVec 5) (s : State) : Host.Outcome State Fault Refusal :=
  lanes2 s t d a b fun x y => x ^^^ y

/-- `ANDN` (R70). -/
def execAndn (t : BitVec 6) (d : BitVec 5) (a : BitVec 5) (b : BitVec 5) (s : State) : Host.Outcome State Fault Refusal :=
  lanes2 s t d a b fun x y => x &&& ~~~y

/-- `SHL` (R70). -/
def execShl (t : BitVec 6) (d : BitVec 5) (a : BitVec 5) (b : BitVec 5) (s : State) : Host.Outcome State Fault Refusal :=
  lanes2 s t d a b fun x y => x <<< (y.toNat % 32)

/-- `SHR` (R70). -/
def execShr (t : BitVec 6) (d : BitVec 5) (a : BitVec 5) (b : BitVec 5) (s : State) : Host.Outcome State Fault Refusal :=
  lanes2 s t d a b fun x y => x >>> (y.toNat % 32)

/-- `SRA` (R70). -/
def execSra (t : BitVec 6) (d : BitVec 5) (a : BitVec 5) (b : BitVec 5) (s : State) : Host.Outcome State Fault Refusal :=
  lanes2 s t d a b fun x y => x.sshiftRight (y.toNat % 32)

/-- `ROTL` (R70). -/
def execRotl (t : BitVec 6) (d : BitVec 5) (a : BitVec 5) (b : BitVec 5) (s : State) : Host.Outcome State Fault Refusal :=
  lanes2 s t d a b fun x y => x.rotateLeft (y.toNat % 32)

/-- `MIN_S32` (R70). -/
def execMinS32 (t : BitVec 6) (d : BitVec 5) (a : BitVec 5) (b : BitVec 5) (s : State) : Host.Outcome State Fault Refusal :=
  lanes2 s t d a b fun x y => if x.toInt ≤ y.toInt then x else y

/-- `MIN_N32` (R70). -/
def execMinN32 (t : BitVec 6) (d : BitVec 5) (a : BitVec 5) (b : BitVec 5) (s : State) : Host.Outcome State Fault Refusal :=
  lanes2 s t d a b fun x y => if x.toNat ≤ y.toNat then x else y

/-- `MAX_S32` (R70). -/
def execMaxS32 (t : BitVec 6) (d : BitVec 5) (a : BitVec 5) (b : BitVec 5) (s : State) : Host.Outcome State Fault Refusal :=
  lanes2 s t d a b fun x y => if x.toInt ≤ y.toInt then y else x

/-- `MAX_N32` (R70). -/
def execMaxN32 (t : BitVec 6) (d : BitVec 5) (a : BitVec 5) (b : BitVec 5) (s : State) : Host.Outcome State Fault Refusal :=
  lanes2 s t d a b fun x y => if x.toNat ≤ y.toNat then y else x

/-- `ABS_S32` (R70). -/
def execAbsS32 (t : BitVec 6) (d : BitVec 5) (a : BitVec 5) (s : State) : Host.Outcome State Fault Refusal :=
  lanes1 s t d a fun x => satS32 x.toInt.natAbs

/-- `NEG` (R70). -/
def execNeg (t : BitVec 6) (d : BitVec 5) (a : BitVec 5) (s : State) : Host.Outcome State Fault Refusal :=
  lanes1 s t d a fun x => 0 - x

/-- `NOT` (R70). -/
def execNot (t : BitVec 6) (d : BitVec 5) (a : BitVec 5) (s : State) : Host.Outcome State Fault Refusal :=
  lanes1 s t d a fun x => ~~~x

/-- `ADDI` (R71). -/
def execAddi (t : BitVec 6) (d : BitVec 5) (a : BitVec 5) (i : BitVec 10) (s : State) : Host.Outcome State Fault Refusal :=
  lanes1 s t d a fun x => x + i.signExtend 32

/-- `ANDI` (R71). -/
def execAndi (t : BitVec 6) (d : BitVec 5) (a : BitVec 5) (i : BitVec 10) (s : State) : Host.Outcome State Fault Refusal :=
  lanes1 s t d a fun x => x &&& i.signExtend 32

/-- `MUL` (R72). -/
def execMul (t : BitVec 6) (d : BitVec 5) (a : BitVec 5) (b : BitVec 5) (s : State) : Host.Outcome State Fault Refusal :=
  lanes2 s t d a b fun x y => x * y

/-- `MULH_S32` (R72). -/
def execMulhS32 (t : BitVec 6) (d : BitVec 5) (a : BitVec 5) (b : BitVec 5) (s : State) : Host.Outcome State Fault Refusal :=
  lanes2 s t d a b fun x y => BitVec.ofInt 32 (x.toInt * y.toInt / 4294967296)

/-- `MULH_N32` (R72). -/
def execMulhN32 (t : BitVec 6) (d : BitVec 5) (a : BitVec 5) (b : BitVec 5) (s : State) : Host.Outcome State Fault Refusal :=
  lanes2 s t d a b fun x y => wordOf (x.toNat * y.toNat / 4294967296)

/-- `MULW_S16` (R72). -/
def execMulwS16 (t : BitVec 6) (d : BitVec 5) (a : BitVec 5) (b : BitVec 5) (s : State) : Host.Outcome State Fault Refusal :=
  lanes2 s t d a b fun x y => (x.extractLsb' 0 16).signExtend 32 * (y.extractLsb' 0 16).signExtend 32

/-- `MULW_N16` (R72). -/
def execMulwN16 (t : BitVec 6) (d : BitVec 5) (a : BitVec 5) (b : BitVec 5) (s : State) : Host.Outcome State Fault Refusal :=
  lanes2 s t d a b fun x y => (x.extractLsb' 0 16).zeroExtend 32 * (y.extractLsb' 0 16).zeroExtend 32

/-- `CEQ` (R73). -/
def execCeq (t : BitVec 6) (d : BitVec 5) (a : BitVec 5) (b : BitVec 5) (s : State) : Host.Outcome State Fault Refusal :=
  compare2 s t d a b fun x y => x == y

/-- `CNE` (R73). -/
def execCne (t : BitVec 6) (d : BitVec 5) (a : BitVec 5) (b : BitVec 5) (s : State) : Host.Outcome State Fault Refusal :=
  compare2 s t d a b fun x y => x != y

/-- `CLT_S32` (R73). -/
def execCltS32 (t : BitVec 6) (d : BitVec 5) (a : BitVec 5) (b : BitVec 5) (s : State) : Host.Outcome State Fault Refusal :=
  compare2 s t d a b fun x y => decide (x.toInt < y.toInt)

/-- `CLE_S32` (R73). -/
def execCleS32 (t : BitVec 6) (d : BitVec 5) (a : BitVec 5) (b : BitVec 5) (s : State) : Host.Outcome State Fault Refusal :=
  compare2 s t d a b fun x y => decide (x.toInt ≤ y.toInt)

/-- `CGT_S32` (R73). -/
def execCgtS32 (t : BitVec 6) (d : BitVec 5) (a : BitVec 5) (b : BitVec 5) (s : State) : Host.Outcome State Fault Refusal :=
  compare2 s t d a b fun x y => decide (y.toInt < x.toInt)

/-- `CGE_S32` (R73). -/
def execCgeS32 (t : BitVec 6) (d : BitVec 5) (a : BitVec 5) (b : BitVec 5) (s : State) : Host.Outcome State Fault Refusal :=
  compare2 s t d a b fun x y => decide (y.toInt ≤ x.toInt)

/-- `CLT_N32` (R73). -/
def execCltN32 (t : BitVec 6) (d : BitVec 5) (a : BitVec 5) (b : BitVec 5) (s : State) : Host.Outcome State Fault Refusal :=
  compare2 s t d a b fun x y => decide (x.toNat < y.toNat)

/-- `CLE_N32` (R73). -/
def execCleN32 (t : BitVec 6) (d : BitVec 5) (a : BitVec 5) (b : BitVec 5) (s : State) : Host.Outcome State Fault Refusal :=
  compare2 s t d a b fun x y => decide (x.toNat ≤ y.toNat)

/-- `CGT_N32` (R73). -/
def execCgtN32 (t : BitVec 6) (d : BitVec 5) (a : BitVec 5) (b : BitVec 5) (s : State) : Host.Outcome State Fault Refusal :=
  compare2 s t d a b fun x y => decide (y.toNat < x.toNat)

/-- `CGE_N32` (R73). -/
def execCgeN32 (t : BitVec 6) (d : BitVec 5) (a : BitVec 5) (b : BitVec 5) (s : State) : Host.Outcome State Fault Refusal :=
  compare2 s t d a b fun x y => decide (y.toNat ≤ x.toNat)

/-- `PAND` (R74). -/
def execPand (t : BitVec 6) (d : BitVec 5) (a : BitVec 5) (b : BitVec 5) (s : State) : Host.Outcome State Fault Refusal :=
  preds2 s t d a b fun p q => p && q

/-- `POR` (R74). -/
def execPor (t : BitVec 6) (d : BitVec 5) (a : BitVec 5) (b : BitVec 5) (s : State) : Host.Outcome State Fault Refusal :=
  preds2 s t d a b fun p q => p || q

/-- `PXOR` (R74). -/
def execPxor (t : BitVec 6) (d : BitVec 5) (a : BitVec 5) (b : BitVec 5) (s : State) : Host.Outcome State Fault Refusal :=
  preds2 s t d a b fun p q => p != q

/-- `PANDN` (R74). -/
def execPandn (t : BitVec 6) (d : BitVec 5) (a : BitVec 5) (b : BitVec 5) (s : State) : Host.Outcome State Fault Refusal :=
  preds2 s t d a b fun p q => p && !q

/-- `PNOT` (R74). -/
def execPnot (t : BitVec 6) (d : BitVec 5) (a : BitVec 5) (s : State) : Host.Outcome State Fault Refusal :=
  fireLanes s t d [] fun f => Lanes.ofFn fun i => bit (!(f.predLit a).get i)

/-- `PANY` (R74). -/
def execPany (t : BitVec 6) (d : BitVec 5) (a : BitVec 5) (s : State) : Host.Outcome State Fault Refusal :=
  fireLanes s t d [] fun f => Lanes.fill (bit ((f.predLit a).toList.any id))

/-- `PALL` (R74). -/
def execPall (t : BitVec 6) (d : BitVec 5) (a : BitVec 5) (s : State) : Host.Outcome State Fault Refusal :=
  fireLanes s t d [] fun f => Lanes.fill (bit ((f.predLit a).toList.all id))

/-- `BCAST` (R75). -/
def execBcast (t : BitVec 6) (d : BitVec 5) (a : BitVec 5) (b : BitVec 5) (s : State) : Host.Outcome State Fault Refusal :=
  fireLanes s t d [a] fun f => Lanes.fill (laneAt (f.src a).val b.toNat)

/-- `PERM` (R75). -/
def execPerm (t : BitVec 6) (d : BitVec 5) (a : BitVec 5) (b : BitVec 5) (s : State) : Host.Outcome State Fault Refusal :=
  fireLanes s t d [a, b] fun f => Lanes.ofFn fun i => laneAt (f.src a).val (((f.src b).val.get i).toNat % 8)

/-- `LROT` (R75). -/
def execLrot (t : BitVec 6) (d : BitVec 5) (a : BitVec 5) (b : BitVec 5) (s : State) : Host.Outcome State Fault Refusal :=
  fireLanes s t d [a] fun f => Lanes.ofFn fun i => laneAt (f.src a).val (i.val + b.toNat)

/-- `LSHD` (R75). -/
def execLshd (t : BitVec 6) (d : BitVec 5) (a : BitVec 5) (b : BitVec 5) (s : State) : Host.Outcome State Fault Refusal :=
  fireLanes s t d [a] fun f => Lanes.ofFn fun i =>
    if i.val + b.toNat ≤ 7 then laneAt (f.src a).val (i.val + b.toNat) else 0

/-- `PACK` (R76). -/
def execPack (t : BitVec 6) (d : BitVec 5) (a : BitVec 5) (s : State) : Host.Outcome State Fault Refusal :=
  fireAll s t d [a] fun f => packLanes f.g (f.src a).val

/-- `CSET` (R78). -/
def execCset (t : BitVec 6) (d : BitVec 5) (a : BitVec 5) (s : State) : Host.Outcome State Fault Refusal :=
  fireElem s t [a] (fun _ => none)
    (fun f x => { x with counters := Table.set x.counters d.toNat (counterOf (f.src a).val) }) (fun _ => id)

/-- `CSTEP` (R78). -/
def execCstep (t : BitVec 6) (d : BitVec 5) (b : BitVec 5) (s : State) : Host.Outcome State Fault Refusal :=
  fireElem s t [] (fun _ => none)
    (fun f x => let r := stepCounter x b.toNat 3; f.writeDest f.g d (Lanes.fill (bit r.2)) r.1) (fun _ => id)

/-- `CRD` (R78). -/
def execCrd (t : BitVec 6) (d : BitVec 5) (s : State) : Host.Outcome State Fault Refusal :=
  fireLanes s t d [] fun f => Lanes.ofFn fun i =>
    if i.val < 4 then (f.el.counter i.val).value else (f.el.counter (i.val - 4)).idx

/-- `POPC` (R79). -/
def execPopc (t : BitVec 6) (d : BitVec 5) (a : BitVec 5) (s : State) : Host.Outcome State Fault Refusal :=
  lanes1 s t d a fun x => wordOf (popCount x 32)

/-- `CLZ` (R79). -/
def execClz (t : BitVec 6) (d : BitVec 5) (a : BitVec 5) (s : State) : Host.Outcome State Fault Refusal :=
  lanes1 s t d a fun x => wordOf (leadZeros x 32)

/-- `CTZ` (R79). -/
def execCtz (t : BitVec 6) (d : BitVec 5) (a : BitVec 5) (s : State) : Host.Outcome State Fault Refusal :=
  lanes1 s t d a fun x => wordOf (trailZeros x 32)

/-- `BREV` (R79). -/
def execBrev (t : BitVec 6) (d : BitVec 5) (a : BitVec 5) (s : State) : Host.Outcome State Fault Refusal :=
  lanes1 s t d a fun x => revBits x 32

/-- `BSWAP` (R79). -/
def execBswap (t : BitVec 6) (d : BitVec 5) (a : BitVec 5) (s : State) : Host.Outcome State Fault Refusal :=
  lanes1 s t d a fun x => revBytes x

/-- `BFX_N32` (R79). -/
def execBfxN32 (t : BitVec 6) (d : BitVec 5) (a : BitVec 5) (b : BitVec 5) (s : State) : Host.Outcome State Fault Refusal :=
  lanes2 s t d a b fun x y => wordOf (bitField x y).1

/-- `BFX_S32` (R79). -/
def execBfxS32 (t : BitVec 6) (d : BitVec 5) (a : BitVec 5) (b : BitVec 5) (s : State) : Host.Outcome State Fault Refusal :=
  lanes2 s t d a b fun x y => signExt (bitField x y).1 (bitField x y).2

end Sys2Proof.Machine
end

