-- ==== Sys2Proof/Machine/Home.lean ====
section
/-!
DEFINITION. What happens to a request after its fire (R85 to R101, R103 to R106, R113 to R115, R195, R212, R217 to R222): the
memory interface, translation, the homes with their waiting requests, and the response.
-/

namespace Sys2Proof.Machine

/-! ## The pool of requests -/

/-- A request in flight. -/
def State.req? (s : State) (id : Nat) : Option Req := s.reqs.find? fun r => r.id == id

/-- The state with a request replaced by one of the same name. -/
def State.putReq (s : State) (q : Req) : State :=
  { s with reqs := s.reqs.map fun r => if r.id = q.id then q else r }

/-- The state without a request. -/
def State.dropReq (s : State) (id : Nat) : State := { s with reqs := s.reqs.filter fun r => r.id != id }

/-- A step that acts on a request in flight, and changes nothing where there is none. -/
def onReq (s : State) (id : Nat) (k : Req → State) : Host.Outcome State Fault Refusal :=
  match s.req? id with
  | some r => go (k r)
  | none => go s

/-- The requests that the same bank fired before this one: the party is the bank (R224), and a yield removes no arc (R242). -/
def State.earlier (s : State) (r : Req) : List Req :=
  (s.reqs.takeWhile fun q => q.id != r.id).filter fun q => q.elem == r.elem && q.bank == r.bank

/-- The operation writes q6 (R103, R342). -/
def Req.writesQ6 (r : Req) : Bool :=
  match r.op with
  | .atomic _ | .sealRange _ _ => true
  | _ => false

/-- The request has a destination that its response fills. -/
def Req.hasResponse (r : Req) : Bool :=
  decide (r.dest.toNat < 15) || (decide (16 ≤ r.dest.toNat) && decide (r.dest.toNat < 29)) || r.writesQ6

/-- The element with the ordering outputs of a performed request filled (R87). -/
def Elem.fillOrder (x : Elem) (r : Req) : Elem :=
  { x with oq := (queuesOf r.outs).foldl (fun t q => Table.set t q (fillResv (Table.get t q) r.id r.otok)) x.oq }

/-- One request is performed (R88): its ordering outputs are filled, and it stays for its response or is gone. -/
def State.performOne (s : State) (r : Req) : State :=
  let s1 := s.modElem r.elem fun x => x.fillOrder r
  if r.hasResponse then s1.putReq { r with stage := .performed } else s1.dropReq r.id

/-- A request is performed, and with it the agreeing entry of copy 1, which takes the same result (R435). -/
def State.perform (s : State) (r : Req) : State :=
  let s1 := s.performOne r
  match r.mate.bind s1.req? with
  | some m => s1.performOne { m with result := r.result, rpois := r.rpois }
  | none => s1

/-! ## Parking -/

/-- The scoreboard token of a command that has one (R247). -/
def Req.token? (r : Req) : Option Nat :=
  match r.op with
  | .stream _ | .copy | .pgsel => some r.sb
  | _ => none

/-- A command (R248, R324): it counts for R93 and R112, not for R92, and but for `gsend` not against the 32 of R84. -/
def ReqOp.isCommand (o : ReqOp) : Bool :=
  match o with
  | .gsend _ | .stream _ | .copy | .matrix | .drain | .thresh _ _ | .pgsel => true
  | _ => false

/-- The fault record of a parked access or command (R421, Table 22.3). -/
def State.reqFault (s : State) (r : Req) (c : Cause) (addr info : Nat) : FaultRec :=
  { region := (s.regionOf r.elem.tile).getD 0
    cause := c
    async := true
    elem := r.elem
    cc := r.cc
    slot := r.slot
    trig := r.trig
    bank := r.bank
    ctxno := r.ctxno
    reqtag := r.reqtag
    itertag := r.itertag
    sb := r.token?
    word := r.word
    info := info
    addr := addr
    opa := r.opa
    opb := r.opb
    req := some r.id
    inHandler := r.inHandler }

/-- An access parks with a final fault, which is recorded against its iteration (R220, R222). -/
def State.parkFinal (s : State) (r : Req) (c : Cause) (addr info : Nat) : State :=
  ((s.putReq { r with stage := .parked { cause := c, addr := addr, final := true }, parts := []
                      started := r.started && r.op.isCommand, pages := [] }).record (s.reqFault r c addr info)).markImpure
    ((s.regionOf r.elem.tile).getD 0) c

/-- Who asks for the translations of a request (R221). -/
def Req.asker (r : Req) : Asker :=
  { die := r.elem.tile.die, tile := some r.elem.tile, ctxno := r.ctxno, reqtag := r.reqtag }

/-- An access parks with a translation fault, and service is asked for (R221). -/
def State.parkAsk (s : State) (r : Req) (kind addr : Nat) : State :=
  let a := s.askService r.asker (s.space r.ctxno) kind addr
  a.1.putReq { r with stage := .parked { cause := 0x03, addr := addr, tr := some a.2 }, parts := [], pages := [] }

/-- An access parks with a failed translation (R220 to R222). -/
def State.park (s : State) (r : Req) (kind : Nat) (f : XFail) : State :=
  if f.serviceable then s.parkAsk r kind f.addr else s.parkFinal r f.cause f.addr 0

/-! ## Monitor samples -/

/-- The monitor of a compute tile with a sample (R355). -/
def Monitor.sample (m : Monitor) (v : Word) : Monitor :=
  let w := min 20 (bits m.cfg.toNat 14 5)
  let k := if v.toNat < m.base.toNat then 0 else min 15 ((v.toNat - m.base.toNat) >>> w)
  let n := (Table.get m.bins k).toNat
  { m with
    low := if v.toNat < m.low.toNat then v else m.low
    high := if m.high.toNat < v.toNat then v else m.high
    bins := Table.set m.bins k (wordOf (min 0xFFFFFFFF (n + 1))) }

/-- The source of a monitor (Table 16.12). -/
def Monitor.src (m : Monitor) : Nat := bits m.cfg.toNat 0 4

/-- A latency that the monitor samples: the model keeps no time, so it is a free value (log entry 10). -/
def State.sampleLatency (s : State) (t : TileId) : State :=
  { s.modTile t fun x => { x with mon := x.mon.sample (Config.latency s.fresh) } with fresh := s.fresh + 1 }

/-- The request is a load (R95). -/
def Req.isLoad (r : Req) : Bool :=
  match r.op with
  | .load .. => true
  | _ => false

/-- The sample of a `.g` load's latency, where the tile's monitor takes it (Table 16.12, src 1). -/
def State.sampleLoad (s : State) (r : Req) : State :=
  if (s.tile r.elem.tile).mon.src = 1 ∧ r.space = .g ∧ r.isLoad then s.sampleLatency r.elem.tile else s

/-! ## The memory interface -/

/-- The stage of an exit entry that its release has let go, or of any other request (R92, R420, R435). -/
def State.nextStage (s : State) (r : Req) : Stage := s.firstStage { r with release := false }

/-- The request is an access for R92: a copy is one until its block is read, and a page selection until its query is. -/
def Req.isAccess (r : Req) : Bool := !r.op.isCommand || r.capturing

/-- `RELEASE_SEND` (R92): a held release goes on once every access its bank issued before it is performed. -/
def execReleaseSend (req : Nat) (s : State) : Host.Outcome State Fault Refusal :=
  onReq s req fun r =>
    if r.stage = .held ∧ (s.earlier r).all (fun q => q.performed || !q.isAccess) then s.putReq { r with stage := s.nextStage r } else s

/-- The purity of the request is judged by the bytes it touches (Table 20.3): loads and stores of `.g`. -/
def Req.byteJudged (r : Req) : Bool :=
  match r.op with
  | .load .. | .store .. => true
  | _ => false

/-- The touch-fault count with failures added (R97). -/
def addTouch (c : BitVec 16) (n : Nat) : BitVec 16 := BitVec.ofNat 16 (min 0xFFFF (c.toNat + n))

/-- The translated ranges of a request, or the first failure in ascending lanes (R96). -/
def State.xlateAll (s : State) (w : Site) (space : Nat) (n : Need) (rs : List Range) :
    Except XFail (List (Range × List Seg) × List TlbEnt) :=
  match rs with
  | [] => .ok ([], [])
  | r :: rest =>
    match s.xlate w space n r.addr r.len with
    | .error e => .error e
    | .ok (segs, es) =>
      match s.xlateAll w space n rest with
      | .error e => .error e
      | .ok (l, es') => .ok ((r, segs) :: l, es ++ es')

/-- The failures of a touch of `.g` (R97): one for each lane that meets any, a poisoned walk (R215) among them (log entry 52). -/
def State.touchFails (s : State) (w : Site) (space : Nat) (rs : List Range) : Nat :=
  (rs.filter fun r => r.beyond.isSome ||
    (match s.xlate w space Need.read r.addr r.len with
     | .ok _ => false
     | .error _ => true)).length

/-- The pages of a range within the 57-bit space; an unmapped page counts as 64 KiB (log entry 9). -/
def State.touchPages (s : State) (w : Site) (space va len : Nat) : List (Nat × Walk) :=
  (s.pagesOf w space va len (len / 0x10000 + 2)).filter fun p => decide (p.1 < 2 ^ 57)

/-- The pages of a range that a range touch fails on (R98): a translation fault, a frame in another range of Table 10.4 than the
first page's, or no permission; a poisoned walk counts too (log entry 47). -/
def State.pageFails (s : State) (w : Site) (space va len : Nat) : Nat :=
  let ps := s.pagesOf w space va len (len / 0x10000 + 2)
  let range := fun (p : Nat × Walk) => match p.2 with
    | .page e => rangeOf (e.frame + (p.1 - e.vbase))
    | _ => none
  let first := (ps.head?.bind range)
  (ps.filter fun p => match p.2 with
    | .page e => decide (2 ^ 57 ≤ p.1) || !e.permits Need.read || (first.isSome && range p != first)
    | _ => true).length

/-- The state with the translations of some ranges installed, page by page (R97, R98). -/
def State.installAll (s : State) (w : Site) (space : Nat) (rs : List Range) : State :=
  rs.foldl (fun t r => t.addAll w ((t.touchPages w space r.addr r.len).filterMap fun p => match p.2 with
    | .page e => some e
    | _ => none)) s

/-- A touch or probe does its work at the memory interface (R97, R98). -/
def State.touchDone (s : State) (r : Req) : State :=
  let space := s.space r.ctxno
  let w := (siteOf r.elem.tile)
  let fails := match r.op, r.space with
    | .load _ _ _ .probe, _ => 0
    | .rangeTouch n, .g => s.pageFails w space r.addr.l0 n
    | .rangeTouch n, sp => if (s.holeIn r.elem.tile sp r.addr.l0 n).isSome then 1 else 0
    | _, .g => s.touchFails w space r.ranges
    | _, sp => (r.ranges.filter fun x => (s.holeIn r.elem.tile sp x.addr x.len).isSome).length
  let s1 := if r.space = .g then s.installAll w space r.ranges else s
  (s1.modElem r.elem fun x => { x with touchFaults := addTouch x.touchFaults fails }).perform r

/-- The parts of a translated request. -/
def Req.globalParts (r : Req) (l : List (Range × List Seg)) : List Part :=
  let ps := l.flatMap fun x => partsOfRuns x.1.lane x.1.len x.2 0
  match r.op with
  | .load _ _ true _ | .store _ true => vecParts ps
  | _ => ps

/-- The first address of `len` addresses from `a` on that satisfies a test. -/
def firstByte (f : Nat → Bool) (a len : Nat) : Option Nat :=
  match len with
  | 0 => none
  | n + 1 => if f a then some a else firstByte f (a + 1) n

/-- The first byte of some ranges that is sealed (R341). -/
def State.sealedByte (s : State) (space : Nat) (rs : List Range) : Option Nat :=
  rs.findSome? fun x => firstByte (fun a => s.sealHit space a 1) x.addr x.len

/-- The first byte of some ranges by whose access a pure task violates purity (Table 20.3). -/
def State.impureByte (s : State) (r : Region) (space : Nat) (write : Bool) (rs : List Range) : Option Nat :=
  rs.findSome? fun x => firstByte (fun a => s.impureAccess r space write a 1) x.addr x.len

/-- The translation of a global access (R96, R217): every guarded lane is translated and checked before any is performed; then
the seal of a written range (R341) and the purity of the task (R410) are judged. That an access with faults of several kinds takes its
translation, straddle or permission fault first, then 0x07, then 0x08, is log entry 52's. -/
def State.translate (s : State) (r : Req) : State :=
  let space := s.space r.ctxno
  let reg := s.regionAt r.elem.tile
  match s.xlateAll (siteOf r.elem.tile) space r.need r.ranges with
  | .error f => s.park r r.need.kind f
  | .ok (l, es) =>
    match (if r.writes then s.sealedByte space r.ranges else none),
        (if !r.waive && r.byteJudged then s.impureByte reg space r.writes r.ranges else none) with
    | some a, _ => s.parkFinal r 0x07 a 0
    | none, some a => s.parkFinal r 0x08 a 0
    | none, none => (s.addAll (siteOf r.elem.tile) es).putReq
        { r with stage := .atHome, parts := r.globalParts l, pages := es.map fun e => (e.vbase, e.size) }

/-! ## The miss queue, the walkers and the park list (R217, R220) -/

/-- The accesses that a miss queue and a park list hold, and the walks that a die makes at once (R18, R20, R220). -/
def missSize : Nat := 32
def walkerCount : Nat := 64
def parkSize : Nat := 64

/-- The request stands at the memory interface to be translated. -/
def Req.looks (r : Req) : Bool := r.stage == .sent && r.space == .g && (r.isHome || r.suppressed)

/-- The access stands in the park list: a `.g` access of a fire, or the block read of a copy (R220, R255). -/
def Req.isParked (r : Req) : Bool :=
  match r.stage with
  | .parked _ => r.space == .g && (r.isHome || (r.op == .copy && !r.started))
  | _ => false

/-- The park list of a tile has room (R220). -/
def State.parkRoom (s : State) (t : TileId) : Bool :=
  decide ((s.reqs.filter fun q => q.elem.tile == t && q.isParked).length < parkSize)

/-- Every page of a range has an entry in a TLB; `fuel` bounds the pages. -/
def tlbCovers (l : List TlbEnt) (space va len fuel : Nat) : Bool :=
  match fuel with
  | 0 => true
  | k + 1 =>
    len == 0 ||
      (match l.find? fun e => e.covers space va with
       | some e => let m := min len (e.vbase + e.size - va); tlbCovers l space (va + m) (len - m) k
       | none => false)

/-- A TLB serves every range of a request. -/
def Req.servedBy (r : Req) (l : List TlbEnt) (space : Nat) : Bool :=
  r.ranges.all fun x => tlbCovers l space x.addr x.len (x.len / 0x10000 + 2)

/-- The tile's TLB serves a request. -/
def State.tileHits (s : State) (r : Req) : Bool := r.servedBy (s.tile r.elem.tile).tlb (s.space r.ctxno)

/-- A request needs a walk. -/
def State.needsWalk (s : State) (r : Req) : Bool :=
  !r.servedBy ((s.tile r.elem.tile).tlb ++ (s.die r.elem.tile.die).tlb) (s.space r.ctxno)

/-- The miss queue keeps a faulting access, because the park list is full, and accepts no other (R220). -/
def State.stalled (s : State) (t : TileId) : Bool :=
  match (s.tile t).kept with
  | some i => !s.parkRoom t && s.reqs.any fun r => r.id == i && r.looks
  | none => false

/-- The miss queue of a tile with the accesses that have come to it since it was last looked at: those that the tile's TLB does not
serve, in the order in which they were fired, while it has room (R217). -/
def State.missNow (s : State) (t : TileId) : List Nat :=
  let here := s.reqs.filter fun r => r.elem.tile == t && r.looks
  let old := (s.tile t).missq.filter fun i => here.any fun r => r.id == i
  if s.stalled t then old
  else here.foldl (fun l r => if l.contains r.id || s.tileHits r || decide (missSize ≤ l.length) then l else l ++ [r.id]) old

/-- The miss queue accepts no access: a new one waits in its element's oq5 (R217). -/
def State.missFull (s : State) (t : TileId) : Bool := s.stalled t || decide (missSize ≤ (s.missNow t).length)

/-- The accesses of a tile that the full miss queue does not take. -/
def State.unqueued (s : State) (t : TileId) : List Req :=
  if s.missFull t then s.reqs.filter fun r => r.elem.tile == t && r.looks && !(s.missNow t).contains r.id else []

/-- A walker of the die is free for a request: fewer than 64 walks come before it in order of arrival (R217). -/
def State.walkerFree (s : State) (r : Req) : Bool :=
  decide (((s.reqs.takeWhile fun q => q.id != r.id).filter fun q =>
    q.elem.tile.die == r.elem.tile.die && q.looks && s.needsWalk q && (s.missNow q.elem.tile).contains q.id).length < walkerCount)

/-- A request whose lookup has failed, while the park list is full, stays in the miss queue (R220); any other has left it, and a
monitor takes the time it was there (Table 16.12, src 2). -/
def State.leaveMiss (s : State) (r : Req) (old : State) : State :=
  let t := r.elem.tile
  if s.reqs.any (fun q => q.id == r.id && q.isParked) && !old.parkRoom t then
    old.modTile t fun x => { x with kept := some r.id }
  else if (old.tile t).missq.contains r.id then
    let s1 := s.modTile t fun x => { x with missq := x.missq.filter (· != r.id) }
    if (s1.tile t).mon.src = 2 then s1.sampleLatency t else s1
  else s

/-- A request's lookup ends (R217): it waits in oq5 for the miss queue, and in the miss queue for a walker. -/
def State.look (s : State) (r : Req) : State :=
  let t := r.elem.tile
  let s1 := s.modTile t fun x => { x with missq := s.missNow t }
  if s.missFull t && !(s.missNow t).contains r.id then s
  else if s.needsWalk r && !s.walkerFree r then s1
  else (if r.suppressed then s1.touchDone r else s1.translate r).leaveMiss r s1

/-- `TRANSLATION_LOOKUP` (R217): an access at the memory interface is translated; where `useTlb` is not set the TLBs have lost its
pages before. -/
def execTranslationLookup (req : Nat) (useTlb : Bool) (s : State) : Host.Outcome State Fault Refusal :=
  onReq s req fun r =>
    if r.looks then
      (if useTlb then s
        else r.ranges.foldl (fun z x => z.evict (siteOf r.elem.tile) (s.space r.ctxno) x.addr x.len) s).look r
    else if r.stage = .sent ∧ r.suppressed then s.touchDone r
    else s

/-! ## The homes -/

/-- The new value of an atomic (Table 4.4, R105). -/
def AtomOp.apply (op : AtomOp) (x y e : Word) : Word :=
  match op with
  | .add => x + y
  | .minS => if x.toInt ≤ y.toInt then x else y
  | .minN => if x.toNat ≤ y.toNat then x else y
  | .maxS => if x.toInt ≤ y.toInt then y else x
  | .maxN => if x.toNat ≤ y.toNat then y else x
  | .and => x &&& y
  | .or => x ||| y
  | .xor => x ^^^ y
  | .fadd => wordOf (roundTo Fmt.f32 (sumX 0 [f32Of x, f32Of y]).1 0).1
  | .xch => y
  | .cas => if x = e then y else x

/-- A lane with an `n`-byte number put at a byte offset. -/
def putBytes (w : Word) (off n v : Nat) : Word := wordOf (setBits w.toNat (8 * off) (8 * n) v)

/-- A value with one lane replaced. -/
def setLane {α : Type} (v : Lanes α) (i : Nat) (x : α) : Lanes α := Lanes.ofFn fun j => if j.val = i then x else v.get j

/-- The bytes of lane `i` of a value. -/
def laneBytes (v : Vec) (i : Nat) : List Byte := bytesOf 4 (v.get (Fin.ofNat 8 i)).toNat

/-- A load reads one part (R95, R206); a lost link returns it poisoned (R212), its value free (log entry 27). -/
def State.readPart (s : State) (r : Req) (p : Part) : Req :=
  let lanes := if p.lane = 8 then (guarded r.guard).map fun i => (i.val, 0, p.addr + 4 * i.val, 4) else [(p.lane, p.off, p.addr, p.len)]
  lanes.foldl (fun q l =>
    let (i, off, a, n) := l
    let pois := if s.linkLost a then Poison.link else s.poisonOf a n
    { q with
      result := setLane q.result i (putBytes (q.result.get (Fin.ofNat 8 i)) off n (if s.linkLost a then Config.lostBytes r.id a else s.peek a n))
      rpois := setLane q.rpois i ((q.rpois.get (Fin.ofNat 8 i)).join pois) }) r

/-- A store writes one part (R95, R206): each lane of a scalar store is an access of its own, so that none of them covers a granule whole
(log entry 47). -/
def State.writePart (s : State) (r : Req) (p : Part) : State :=
  if p.lane = 8 then
    if r.guard.toList.all id then s.storeBytes p.addr (r.data.toList.flatMap fun w => bytesOf 4 w.toNat) .clean
    else (guarded r.guard).foldl (fun t i => t.storeBytes (p.addr + 4 * i.val) (laneBytes r.data i.val) .clean) s
  else s.storeBytes p.addr (((laneBytes r.data p.lane).drop p.off).take p.len) .clean

/-- An atomic acts on one word (R103, R106): a poisoned location keeps its value, and the lane's status is its poison; a lane lost with its
link returns poisoned (R212), with the status of a poisoned location (log entry 27). -/
def State.atomPart (s : State) (r : Req) (op : AtomOp) (p : Part) : State × Req :=
  let i := Fin.ofNat 8 p.lane
  let x := wordOf (if s.linkLost p.addr then Config.lostBytes r.id p.addr else s.peek p.addr 4)
  let pois := if s.linkLost p.addr then Poison.link else s.poisonOf p.addr 4
  let q := { r with result := setLane r.result p.lane x, rpois := setLane r.rpois p.lane pois }
  if pois ≠ .clean then (s, q)
  else (s.storeBytes p.addr (bytesOf 4 (op.apply x (r.data.get i) (r.expd.get i)).toNat) .clean, q)

/-- The barrier record after an arrival, and the phase before it (R115); `cnt + 1` wraps before it is compared (log entry 47). -/
def arrive (v : Nat) : Nat × Nat :=
  let cnt := (bits v 0 32 + 1) % 2 ^ 32
  let n := bits v 32 16
  let p := bits v 48 16
  if n ≤ cnt then (setBits (setBits v 0 32 0) 48 16 ((p + 1) % 65536), p) else (setBits v 0 32 cnt, p)

/-- A request with lane 0 of its result. -/
def Req.answer (r : Req) (v : Nat) (p : Poison) : Req :=
  { r with result := Lanes.fill (wordOf v), rpois := Lanes.fill p, parts := [] }

/-- The arrival number of a waiting request. -/
def Req.arrival (r : Req) : Option Nat :=
  match r.stage with
  | .waiting n => some n
  | _ => none

/-- The request is an atomic (R103). -/
def Req.isAtomic (r : Req) : Bool :=
  match r.op with
  | .atomic _ => true
  | _ => false

/-- An atomic acts on the lanes of one word one after the other, and each returns what the lane before it left (R103): from its first act
at a home on, the words there that several of its lanes address take no other write until the last of these lanes. -/
def Req.locks (q : Req) (a len : Nat) : Bool :=
  q.isAtomic && q.parts.any fun x => overlap x.addr 4 a len && (q.acted.any fun y => homeOf y == homeOf x.addr) &&
    (q.acted.contains x.addr || decide (2 ≤ (q.parts.filter fun y => y.addr == x.addr).length))

/-- Bytes that are kept from writes by an atomic other than request `id`. -/
def State.locked (s : State) (id a len : Nat) : Bool := s.reqs.any fun q => q.id != id && q.locks a len

/-- Runs of bytes that an engine must not write yet. -/
def State.heldRuns (s : State) (segs : List Seg) : Bool := segs.any fun g => s.locked s.nextId g.1 g.2

/-- A generator of a tile store waits on its buffer word, full for the reading one or empty for the writing one, and came before a
request; or the reading one sends the buffer, whose word it has taken and leaves empty when it has sent it (R101, R201). -/
def State.generatorFirst (s : State) (a : Nat) (full : Bool) (n : Nat) : Bool :=
  if a < 2 ^ 52 ∨ 2 ^ 53 ≤ a then false
  else
    let t := TileId.ofKey ((a - 2 ^ 52) / 2 ^ 20)
    let q := (a - 2 ^ 52) % 2 ^ 20 / 0x40000
    let k := s.quarter t q
    k.mode == 0 &&
      (if full then k.ev && k.bufWord t q k.nextR == a && (k.sending.isSome || decide (k.placeR < n))
       else k.whole && k.bufWord t q k.nextW == a && decide (k.placeW < n))

/-- A waiting request at its home is served, if the word or record lets it (R100, R115, R120), and no generator of a tile store that
waits on the word came before it (R201); an `ioread` fills its completion word as an `stf` would (R119, step 6). -/
def State.tryWaiter (s : State) (r : Req) : Option State :=
  match r.parts with
  | [] => none
  | p :: _ =>
    let a := p.addr
    let pois := s.poisonOf a p.len
    if (match r.op with
        | .ldf | .iowait => s.generatorFirst a true (r.arrival.getD 0)
        | .stf | .ioread => s.generatorFirst a false (r.arrival.getD 0)
        | _ => false) then none
    else match r.op with
    | .ldf => if s.isFull a then some ((s.setFull a false).perform (r.answer (s.peek a 4) pois)) else none
    | .iowait => if s.isFull a then some (s.perform (r.answer (s.peek a 4) pois)) else none
    | .stf =>
      if s.isFull a || s.locked r.id a 4 then none
      else some (((s.storeBytes a (bytesOf 4 r.data.l0.toNat) .clean).setFull a true).perform { r with parts := [] })
    | .ioread =>
      if s.isFull a || s.locked r.id a 4 then none
      else
        let z := (s.storeBytes a (bytesOf 4 (pack [(0, r.got), (28, r.st)])) .clean).setFull a true
        some (if r.parts.tail.isEmpty then z.perform { r with parts := [] } else z.putReq { r with parts := r.parts.tail })
    | .awt ph =>
      let now := bits (s.peek a 8) 48 16
      if now ≠ ph then some (s.perform (r.answer now pois)) else none
    | _ => none

/-- A request put into its place in a list in order of arrival. -/
def insertArrival (r : Req) (l : List Req) : List Req :=
  match l with
  | [] => [r]
  | q :: rest => if r.arrival.getD 0 ≤ q.arrival.getD 0 then r :: q :: rest else q :: insertArrival r rest

/-- Requests in order of arrival. -/
def sortArrivals (l : List Req) : List Req := l.foldr insertArrival []

/-- The waiting requests of a list that stand at the head of their tile's memory interface. -/
def interfaceHeads (l : List Req) : List Req :=
  l.foldl (fun m r => if m.any fun q => q.elem.tile == r.elem.tile then m else m ++ [r]) []

/-- The waiting requests that a home holds, in order of arrival: a bank or an S-element takes 32, and the others wait at the memory
interfaces of their tiles, where the first of each is looked at as it stands (R100; log entry 36). -/
def State.waitersAt (s : State) (a : Nat) : List Req :=
  let l := sortArrivals (s.reqs.filter fun r => r.arrival.isSome && r.parts.any fun p => homeOf p.addr == homeOf a)
  l.take 32 ++ interfaceHeads (l.drop 32)

/-- The waiting requests of a home are served in order of arrival, as long as one of them can be (R101, R115). -/
def State.serveWaiters (s : State) (a fuel : Nat) : State :=
  match fuel with
  | 0 => s
  | k + 1 =>
    match (s.waitersAt a).findSome? s.tryWaiter with
    | some s1 => s1.serveWaiters a k
    | none => s

/-- The waiting requests of a home are looked at after a word or record of it has changed. -/
def State.wake (s : State) (a : Nat) : State := s.serveWaiters a (s.reqs.filter fun r => r.arrival.isSome).length

/-- A synchronising or barrier request reaches its home (R100, R101, R115): `arv` and `arw` arrive at the record; the others
join the waiting requests; then the requests on the word are served in order of arrival. An `awt` behind a lost link that does not
park returns poisoned (R212). -/
def State.arriveSync (s : State) (r : Req) (p : Part) : State :=
  match r.op with
  | .arv =>
    let v := arrive (s.peek p.addr 8)
    ((s.storeBytes p.addr (bytesOf 8 v.1) .clean).perform (r.answer v.2 (s.poisonOf p.addr 8))).wake p.addr
  | .arw =>
    let v := arrive (s.peek p.addr 8)
    (({ s.storeBytes p.addr (bytesOf 8 v.1) .clean with nextId := s.nextId + 1 }).putReq
      { r with op := .awt v.2, stage := .waiting s.nextId, acted := [p.addr] }).wake p.addr
  | .awt _ =>
    if s.linkLost p.addr then s.perform (r.answer (Config.lostBytes r.id p.addr) .link)
    else (({ s with nextId := s.nextId + 1 }).putReq { r with stage := .waiting s.nextId }).wake p.addr
  | _ => (({ s with nextId := s.nextId + 1 }).putReq { r with stage := .waiting s.nextId }).wake p.addr

/-- The request waits at its home for a word or a phase. -/
def Req.isSync (r : Req) : Bool :=
  match r.op with
  | .ldf | .stf | .iowait | .arv | .awt _ | .arw => true
  | _ => false

/-- Two parts share a byte. -/
def Part.overlaps (p q : Part) : Bool := overlap p.addr p.len q.addr q.len

/-- A `launch` has not yet read its record: the read is an access of the bank (R333). -/
def Req.unread (r : Req) : Bool :=
  match r.op with
  | .launch _ => !r.started
  | _ => false

/-- The virtual bytes of the accesses of a request (R89). -/
def Req.heldRanges (r : Req) : List Range :=
  match r.op with
  | .launch va => [⟨0, 0, va, 64⟩]
  | _ => r.ranges

/-- The bytes that an untranslated request would touch if it were translated now, lane by lane. -/
def State.wouldTouch (s : State) (q : Req) : List Seg :=
  q.heldRanges.flatMap fun x => match s.xlate (siteOf q.elem.tile) (s.space q.ctxno) q.need x.addr x.len with
    | .ok l => l.1
    | .error _ => []

/-- An access of the same bank that fired earlier, is not performed and shares a byte comes first (R89); one that is not yet
translated is compared by its virtual bytes and by those it would touch now. -/
def State.blocked (s : State) (r : Req) (p : Part) : Bool :=
  (s.earlier r).any fun q =>
    !q.performed && (q.isHome || q.capturing || q.unread) &&
      (q.parts.any p.overlaps ||
        (q.parts.isEmpty && q.space == Space.g &&
          ((r.space == Space.g && q.heldRanges.any fun x => r.heldRanges.any fun y => overlap x.addr x.len y.addr y.len) ||
            (s.wouldTouch q).any fun g => overlap g.1 g.2 p.addr p.len)))

/-- A lower lane of the same request is served first at one home (R90). -/
def laneWaits (ps : List Part) (k : Nat) (p : Part) : Bool :=
  (ps.take k).any fun q => q.lane != p.lane && homeOf q.addr == homeOf p.addr

/-- A part of a writing request must wait for the lanes of another atomic (R103): one that acts on no word of the home yet waits for all
of its words there, so that no two atomics wait for one another. -/
def State.lanesWait (s : State) (r : Req) (p : Part) : Bool :=
  let new := r.isAtomic && !r.acted.any fun a => homeOf a == homeOf p.addr
  r.writes && (if new then r.parts.filter fun x => homeOf x.addr == homeOf p.addr else [p]).any fun x => s.locked r.id x.addr x.len

/-- One part is served at its home. -/
def State.serve (s : State) (r : Req) (p : Part) : State :=
  if r.isSync then s.arriveSync r p
  else
    let rest := { r with parts := r.parts.filter (· != p), started := true }
    let done := match r.op with
      | .load .. => (s, s.readPart rest p)
      | .store .. => (s.writePart rest p, rest)
      | .atomic op => s.atomPart { rest with acted := p.addr :: r.acted } op p
      | _ => (s, rest)
    if done.2.parts.isEmpty then done.1.perform done.2 else done.1.putReq done.2

/-- The remote device refuses the address of a peer window (R211). -/
def remoteRefuses (a : Nat) : Bool := decide (2 ^ 60 ≤ a) && Config.peerRefuses a

/-- A lost link leaves the access unperformed (R212): a load or atomic returns poisoned instead, and so does an `arw` that has
arrived and waits, since a parked access has performed nothing (R220; log entry 27). -/
def Req.lostStops (r : Req) : Bool :=
  match r.op with
  | .store .. | .arv | .arw => true
  | .awt _ => r.acted.isEmpty
  | _ => false

/-- The virtual address of a part of a `.g` access. -/
def Req.partVa (r : Req) (p : Part) : Nat := if p.lane = 8 then r.addr.l0 else r.addr.get (Fin.ofNat 8 p.lane) + p.off

/-- The fault that an access meets at its homes before any part of it is served, with the first failing address: a remote device
that refuses (R211), a seal marked since the translation (R341), a lost link (R212). A parked access has performed nothing
(R220). -/
def State.homeFault (s : State) (r : Req) : Option (Cause × Nat) :=
  if r.space ≠ .g ∨ r.started then none
  else match r.parts.find? fun p => remoteRefuses p.addr with
    | some p => some (0x04, r.partVa p)
    | none => match (if r.writes then s.sealedByte (s.space r.ctxno) r.ranges else none) with
      | some a => some (0x07, a)
      | none => if r.lostStops then (r.parts.find? fun p => s.linkLost p.addr).map fun p => (0x0C, r.partVa p) else none

/-- A home can serve a part of a request now (R89, R90, R103). -/
def State.served (s : State) (r : Req) (p : Part) (k : Nat) : Bool := !(s.blocked r p || laneWaits r.parts k p || s.lanesWait r p)

/-- `HOME_ACCESS` (R90, R195): a home serves one part of an access. An access that meets a fault there parks, once the park list
has room (R220). -/
def execHomeAccess (req : Nat) (part : Nat) (s : State) : Host.Outcome State Fault Refusal :=
  onReq s req fun r =>
    match r.parts[part]? with
    | none => s
    | some p =>
      if r.arrival.isNone ∧ (r.stage ≠ .atHome ∨ !s.served r p part) then s
      else match s.homeFault r with
        | some f => if s.parkRoom r.elem.tile then s.parkFinal r f.1 f.2 0 else s
        | none => if r.arrival.isSome && (r.lostStops || !s.linkLost p.addr) then s.wake p.addr else s.serve r p

/-! ## Responses -/

/-- A lane value of `w` bytes extended (R95). -/
def extend (w : Nat) (signed : Bool) (v : Word) : Word :=
  if signed then signExt (v.toNat % 2 ^ (8 * w)) (8 * w) else wordOf (v.toNat % 2 ^ (8 * w))

/-- What a request returns to its destination. -/
def Req.value (r : Req) : Vec :=
  match r.op with
  | .load w sg vec _ => if vec then r.result else Lanes.ofFn fun i => extend w sg (r.result.get i)
  | _ => r.result

/-- The poison of what a request returns (R85). -/
def Req.poison (r : Req) : Poison := (guarded r.guard).foldl (fun p i => p.join (r.rpois.get i)) .clean

/-- The poison that a request writes with a register: a failed seal returns 0 and its status, and no poison (R342). -/
def Req.regPoison (r : Req) : Poison :=
  match r.op with
  | .sealRange _ _ => .clean
  | _ => r.poison

/-- The token that fills a reserved entry (R86, R55). -/
def Req.token (r : Req) : Tok :=
  { data := merge r.guard r.value (Lanes.fill 0)
    tag := r.otag
    head := r.head
    tail := r.tail
    poison := r.poison
    reqtag := r.reqtag
    ctxno := r.ctxno
    itertag := r.itertag }

/-- The status that an atomic or a seal writes into q6 (R103, R342). -/
def Req.status (r : Req) : Vec := Lanes.ofFn fun i => if r.rpois.get i = .clean then 0 else 1

/-- A bank with the response of a request written (R85). -/
def Bank.respond (k : Bank) (r : Req) : Bank :=
  let k1 :=
    if r.dest.toNat < 15 then k.setReg r.dest.toNat ((k.reg r.dest.toNat).write r.guard r.value r.regPoison)
    else if 22 ≤ r.dest.toNat ∧ r.dest.toNat < 29 then
      k.setPred (r.dest.toNat - 22) ((k.pred (r.dest.toNat - 22)).write r.guard r.value)
    else k
  if r.writesQ6 then k1.setPred 6 ((k1.pred 6).write r.guard r.status) else k1

/-- The S-element that serves the spills of an element (R139). -/
def servingElem (e : ElemId) : ElemId := if e.kind = .s then e else ⟨e.tile, 112 + e.pos % 16 % 8⟩

/-- The state with a spill record changed. -/
def State.modSpill (s : State) (e : ElemId) (n : Nat) (f : SpillRec → SpillRec) : State :=
  s.modElem (servingElem e) fun x => { x with frame := { x.frame with spill := Table.modify x.frame.spill n f } }

/-- A number with bit `i` set where `p i` holds, for `i` below `n`. -/
def bitsWhere (n : Nat) (p : Nat → Bool) : Nat := (List.range n).foldl (fun a i => if p i then a + 2 ^ i else a) 0

/-- The wait condition of a record: wkind, wsp, waddr and wsb (Table 6.3). -/
def WaitCond.laid (c : WaitCond) : Nat :=
  match c with
  | .word m w _ => pack [(0, 1), (2, if m then 1 else 0), (3, w % 2 ^ 32)]
  | .tokens k => pack [(0, 2), (35, k.toNat)]
  | .release => 3

/-- The code of a record's state; a record that is being filled is not yet waiting (Table 6.3, log entry 49). -/
def SpillSt.laid (t : SpillSt) : Nat :=
  match t with
  | .free | .filling => 0
  | .waiting => 1
  | .eligible => 2
  | .reinstating => 3

/-- The 1,024 bytes of a spill record as a number (Table 6.3). -/
def SpillRec.laid (m : SpillRec) : Nat :=
  let k := m.image
  pack (((List.range 15).map fun n => (256 * n, natOfVec (k.reg n).val)) ++
    [(3840, bitsWhere 56 fun i => (k.pred (i / 8)).val.toList.getD (i % 8) false), (3896, k.e.toNat),
     (3904, bitsWhere 15 fun n => (k.reg n).valid), (3919, bitsWhere 15 fun n => (k.reg n).poison != .clean),
     (3934, bitsWhere 15 fun n => (k.reg n).pending), (3949, bitsWhere 7 fun n => (k.pred n).pending),
     (3956, k.reqtag.toNat), (3972, k.itertag.toNat), (3988, k.flags.toNat), (4000, m.cond.laid), (4043, m.bank),
     (4045, m.elem.pos), (4052, m.st.laid)])

/-- A spill record as a steward reads it for diagnosis (R142): what the record holds, or, where it is free, what its bytes kept. -/
def State.readSpill (s : State) (e : ElemId) (n : Nat) : Nat :=
  let m : SpillRec := Table.get (s.elem e).frame.spill n
  if m.st = .free then s.peek ((s.elem e).frame.spillAddr e n) 1024 else m.laid

/-- The state with a spill record of an S-element freed (R141, R143, R430): its bytes keep what it held. -/
def State.freeSpill (s : State) (e : ElemId) (n : Nat) : State :=
  let x := s.elem e
  let m : SpillRec := Table.get x.frame.spill n
  if m.st = .free then s
  else
    ((s.dropCached (x.frame.spillAddr e n) 1024).poke (x.frame.spillAddr e n) 1024 { m with st := .free }.laid).setElem e
      { x with frame := { x.frame with spill := Table.erase x.frame.spill n } }

/-- The image that a request followed still stands in its record (R121): a record that was freed, and perhaps taken by another
image, takes no response. -/
def SpillRec.isOf (m : SpillRec) (e : ElemId) (bank epoch : Nat) : Bool :=
  m.st != .free && m.elem == e && m.bank == bank && m.image.epoch == epoch

/-- `RESPONSE_ARRIVAL` (R85, R86, R121): a performed request writes its destination: a register or predicate of its bank, of
the spilled image of a bank that has yielded, or a reserved queue entry. A response to a bank that has been allocated since
is discarded. -/
def execResponseArrival (req : Nat) (s : State) : Host.Outcome State Fault Refusal :=
  onReq s req fun r =>
    if r.stage ≠ .performed then s
    else
      let s1 := (s.dropReq r.id).sampleLoad r
      if r.dest.toNat = 21 then
        s1.modElem r.elem fun x => { x with iq := Table.set x.iq 5 (fillResv (x.inq 5) r.id r.token) }
      else if 16 ≤ r.dest.toNat ∧ r.dest.toNat < 21 then
        s1.modElem r.elem fun x =>
          { x with oq := Table.set x.oq (r.dest.toNat - 16) (fillResv (x.outq (r.dest.toNat - 16)) r.id r.token) }
      else match r.image with
        | some n => s1.modSpill r.elem n fun m =>
            if m.isOf r.elem r.bank r.epoch then { m with image := m.image.respond r } else m
        | none => s1.modElem r.elem fun x =>
            if (x.bank r.bank).epoch = r.epoch then x.modBank r.bank fun k => k.respond r else x

end Sys2Proof.Machine
end

