-- ==== Sys2Proof/Machine/Frames.lean ====
section
/-!
DEFINITION. The frame allocators of the S-elements (R107 to R109, R143 to R149): frame requests, completed frames and their
tokens, and the loop-nest counter.
-/

namespace Sys2Proof.Machine

/-- The state with the frame unit of an S-element changed. -/
def State.modFrame (s : State) (e : ElemId) (f : FrameUnit → FrameUnit) : State :=
  s.modElem e fun x => { x with frame := f x.frame }

/-- A frame of an allocator. -/
def FrameUnit.at (u : FrameUnit) (n : Nat) : FrameSt := Table.get u.frames n

/-- The S-element that a frame request addresses (R108). -/
def Req.frameTarget (r : Req) : Option ElemId :=
  match r.op with
  | .falloc sel => some ⟨r.elem.tile, 112 + sel⟩
  | .fput h | .ffree h => some ⟨r.elem.tile, 112 + bits h.toNat 0 3⟩
  | _ => none

/-- Fields of a frame handle (Table 4.5). -/
def handleFrame (h : Word) : Nat := bits h.toNat 3 5
def handleOff (h : Word) : Nat := bits h.toNat 8 4
def handleGen (h : Word) : BitVec 4 := h.extractLsb' 12 4

/-- A stale handle (R109, R148). -/
def FrameUnit.isStale (u : FrameUnit) (free : Bool) (h : Word) : Bool :=
  bits h.toNat 16 16 != 0 ||
    (if u.loop then free || handleFrame h != 0 || handleGen h != 0 || decide (u.priv + u.ovl ≤ handleOff h)
     else decide (u.count ≤ handleFrame h) || !(u.at (handleFrame h)).alloc || (u.at (handleFrame h)).gen != handleGen h)

/-- The stale-handle count goes up, saturating (R109). -/
def FrameUnit.countStale (u : FrameUnit) : FrameUnit := { u with stale := addTouch u.stale 1 }

/-- The slots of a mask, ascending. -/
def slotsOf (m : BitVec 16) : List Nat := (List.range 16).filter fun i => m.getLsbD i

/-- The completion test of a frame (R145): one that is allocated and idle, and whose presence bits cover need, completes with the sideband
of its last `fput`. -/
def FrameUnit.completeInv (u : FrameUnit) (n : Nat) : FrameUnit :=
  let f := u.at n
  if !f.alloc ∨ f.emitting ∨ u.need = 0 ∨ f.here &&& u.need ≠ u.need then u
  else
    { u with
      frames := Table.set u.frames n { f with emitting := true, here := 0 }
      emitq := u.emitq ++ [{ frame := n, todo := (slotsOf u.need).map (16 * n + ·), first := true, ctxno := f.owner.ctxno
                             reqtag := f.owner.reqtag, itertag := f.itertag }] }

/-- The presence of an `fput` in invocation mode (R108). -/
def FrameUnit.putInv (u : FrameUnit) (h : Word) (r : Req) : FrameUnit :=
  let n := handleFrame h
  let f := u.at n
  { u with
    frames := Table.set u.frames n
      { f with here := f.here ||| (1#16 <<< handleOff h), owner := ⟨r.ctxno, r.reqtag⟩, itertag := r.itertag } }

/-- The storage slot of a window slot of the current level (R147). -/
def FrameUnit.windowSlot (u : FrameUnit) (i : Nat) : Nat := u.priv * u.lnc + i

/-- The completion test of the current level (R148, R149): where its window covers need, it emits with the sideband of the last
`fput`. -/
def FrameUnit.completeLoop (u : FrameUnit) : FrameUnit :=
  let slots := (slotsOf u.need).map u.windowSlot
  if u.need = 0 ∨ !u.emitq.isEmpty ∨ !slots.all u.here.contains then u
  else
    { u with
      here := u.here.filter fun x => !(slots.contains x && decide (u.windowSlot u.ovl ≤ x))
      emitq := [{ frame := 0, todo := slots, first := true, ctxno := u.lastOwner.ctxno, reqtag := u.lastOwner.reqtag
                  itertag := u.lastIter }] }

/-- The presence of an `fput` in loop-nest mode (R147, R148). -/
def FrameUnit.putLoop (u : FrameUnit) (h : Word) (r : Req) : FrameUnit :=
  { u with
    here := insertAsc u.here (u.windowSlot (handleOff h))
    lastOwner := ⟨r.ctxno, r.reqtag⟩
    lastIter := r.itertag }

/-- The completion tests of a cycle (R149, step 4), in ascending frame number (R146), where they are still to be made. -/
def FrameUnit.test (u : FrameUnit) (now : Nat) : FrameUnit :=
  if u.testAt.all (now < ·) then u
  else { (if u.loop then u.completeLoop else (List.range u.count).foldl FrameUnit.completeInv u) with testAt := none }

/-- The completion tests of an earlier cycle come before whatever is to be applied in this one (R149). -/
def FrameUnit.testDue (u : FrameUnit) (now : Nat) : Bool := u.testAt.any (· < now)

/-- A frame unit to which an `fput` has been applied in a cycle: its completion test follows (R149). -/
def FrameUnit.put (u : FrameUnit) (h : Word) (r : Req) (now : Nat) : FrameUnit :=
  { (if u.loop then u.putLoop h r else u.putInv h r) with steppedAt := some now, testAt := some now }

/-- The storage slot that an `fput` writes (R108, R147). -/
def FrameUnit.putSlot (u : FrameUnit) (h : Word) : Nat :=
  if u.loop then u.windowSlot (handleOff h) else 16 * handleFrame h + handleOff h

/-- The state with the data of an `fput` in its slot. -/
def State.writeSlot (s : State) (e : ElemId) (h : Word) (v : Vec) : State :=
  let u := (s.elem e).frame
  s.storeBytes (u.slotAddr e (u.putSlot h)) (bytesOf 32 (natOfVec v)) .clean

/-- `ffree` (R108). -/
def FrameUnit.free (u : FrameUnit) (n : Nat) : FrameUnit :=
  { u with frames := Table.set u.frames n { u.at n with alloc := false, here := 0, gen := (u.at n).gen + 1 } }

/-- The lowest-numbered free frame (R108). -/
def FrameUnit.firstFree (u : FrameUnit) : Option Nat :=
  if u.loop then none else (List.range u.count).find? fun n => !(u.at n).alloc

/-- The handle of a frame (Table 4.5). -/
def handleOf (sel n : Nat) (gen : BitVec 4) : Nat := pack [(0, sel), (3, n), (12, gen.toNat)]

/-- A frame that a request addresses is emitting, so the request waits (R146); in loop-nest mode the level is. -/
def FrameUnit.busy (u : FrameUnit) (h : Word) : Bool :=
  if u.loop then !u.emitq.isEmpty else (u.at (handleFrame h)).emitting

/-- A request waits for the end of an emission (R146); one with a stale handle does not. -/
def FrameUnit.holds (u : FrameUnit) (op : ReqOp) : Bool :=
  match op with
  | .fput h => !u.isStale false h && u.busy h
  | .ffree h => !u.isStale true h && u.busy h
  | _ => false

/-- The cycle of the clock of an element's region. -/
def State.clockOf (s : State) (e : ElemId) : Nat := (s.regionAt e.tile).clock

/-- The S-element applies a frame request. -/
def State.applyFrame (s : State) (r : Req) (e : ElemId) : State :=
  let u := (s.elem e).frame
  match r.op with
  | .falloc sel =>
    match u.firstFree with
    | none => s.parkFinal r 0x0E 0 0
    | some n =>
      (s.modFrame e fun v => { v with frames := Table.set v.frames n { v.at n with
          alloc := true, here := 0, owner := ⟨r.ctxno, r.reqtag⟩, itertag := r.itertag } }).perform
        { r with result := Lanes.fill (wordOf (handleOf sel n (u.at n).gen)) }
  | .fput h =>
    if u.isStale false h then (s.modFrame e FrameUnit.countStale).perform r
    else ((s.writeSlot e h r.data).modFrame e fun v => v.put h r (s.clockOf e)).perform r
  | .ffree h =>
    if u.isStale true h then (s.modFrame e FrameUnit.countStale).perform r
    else (s.modFrame e fun v => v.free (handleFrame h)).perform r
  | _ => s

/-- The S-element has an enter or a leave count to consume, and takes it in this cycle: no level is emitting, and in the cycle the level
has not yet changed and no `fput` has been applied (R147 to R149). -/
def State.levelDue (s : State) (e : ElemId) : Bool :=
  let x := s.elem e
  let u := x.frame
  u.loop && u.emitq.isEmpty && u.steppedAt != some (s.clockOf e) && !u.testDue (s.clockOf e) &&
    (decide (0 < (Table.get x.ctl u.enter : Nat)) || decide (0 < (Table.get x.ctl u.leave : Nat)))

/-- In this cycle a request of an element of a higher position has been applied already: those of one cycle go in ascending position
(R109). -/
def FrameUnit.passedBy (u : FrameUnit) (now pos : Nat) : Bool := u.servedAt.any fun x => x.1 == now && decide (pos < x.2)

/-- A frame unit that has applied a request of an element in a cycle. -/
def FrameUnit.served (u : FrameUnit) (now pos : Nat) : FrameUnit := { u with servedAt := some (now, pos) }

/-- `FRAME_REQUEST` (R109, R149): requests of one element to one S-element are applied in the order of their fires, those of different
elements in one cycle in ascending position, after the level change of the cycle and before its completion tests. -/
def execFrameRequest (req : Nat) (s : State) : Host.Outcome State Fault Refusal :=
  onReq s req fun r =>
    match r.frameTarget with
    | none => s
    | some e =>
      let u := (s.elem e).frame
      if r.stage ≠ .sent ∨ s.levelDue e ∨ u.testDue (s.clockOf e) ∨ u.passedBy (s.clockOf e) r.elem.pos ∨ u.holds r.op ∨
          (s.reqs.takeWhile fun q => q.id != r.id).any (fun q =>
            q.elem == r.elem && q.frameTarget == some e && !q.performed) then s
      else (s.applyFrame r e).modFrame e fun v => v.served (s.clockOf e) r.elem.pos

/-- The token of an emission (R145). -/
def Emission.token (m : Emission) (u : FrameUnit) (data : Vec) (last : Bool) : Tok :=
  { data := data
    tag := u.otag
    head := m.first
    tail := last
    poison := .clean
    reqtag := m.reqtag
    ctxno := m.ctxno
    itertag := m.itertag }

/-- The frame unit after the front emission has sent a token in a cycle; a level whose window still covers need completes again with the
tests of the next (R148, R149). -/
def FrameUnit.advance (u : FrameUnit) (m : Emission) (more : List Nat) (rest : List Emission) (now : Nat) : FrameUnit :=
  if more.isEmpty then
    if u.loop then { u with emitq := rest, testAt := some (now + 1) }
    else { u with emitq := rest, frames := Table.set u.frames m.frame { u.at m.frame with emitting := false } }
  else { u with emitq := { m with todo := more, first := false } :: rest }

/-- `FRAME_EMIT` (R145, R149, step 4): the completion tests of the cycle are made, and the frame at the front of the emission order sends one
token, where its queue has room. -/
def execFrameEmit (elem : ElemId) (s : State) : Host.Outcome State Fault Refusal :=
  let x := s.elem elem
  let now := s.clockOf elem
  let u := x.frame.test now
  let tested := if u = x.frame then s else s.setElem elem { x with frame := u }
  match u.emitq with
  | [] => go tested
  | m :: rest =>
    match m.todo with
    | [] => go (s.setElem elem { x with frame := u.advance m [] rest now })
    | slot :: more =>
      if x.outFree u.out then
        go (s.setElem elem ({ x with frame := u.advance m more rest now }.pushOut u.out
          (.tok (m.token u (vecOfNat (s.peek (u.slotAddr elem slot) 32)) more.isEmpty))))
      else go tested

/-- The frame unit after one enter token (R147). -/
def FrameUnit.enterLevel (u : FrameUnit) : FrameUnit :=
  if u.levels ≤ u.lnc + 1 then { u with loopOver := true }
  else
    let base := u.priv * (u.lnc + 1)
    { u with
      lnc := u.lnc + 1
      here := u.here.filter fun x => !(decide (base + u.ovl ≤ x) && decide (x < base + u.priv + u.ovl)) }

/-- The frame unit after one leave token (R147). -/
def FrameUnit.leaveLevel (u : FrameUnit) : FrameUnit :=
  if u.lnc = 0 then { u with loopOver := true } else { u with lnc := u.lnc - 1 }

/-- The element with one control token of a channel consumed. -/
def Elem.takeCtl (x : Elem) (c : Nat) : Elem := { x with ctl := Table.set x.ctl c (Table.get x.ctl c - 1) }

/-- `LOOP_LEVEL_CHANGE` (R147 to R149): the S-element consumes one enter or leave token in a cycle, enter first, unless a level
is emitting; the completion test follows in the cycle's last step. -/
def execLoopLevelChange (elem : ElemId) (s : State) : Host.Outcome State Fault Refusal :=
  let x := s.elem elem
  let u := x.frame
  let done := fun (v : FrameUnit) => { v with steppedAt := some (s.clockOf elem), testAt := some (s.clockOf elem) }
  if !s.levelDue elem then go s
  else if 0 < (Table.get x.ctl u.enter : Nat) then go (s.setElem elem { x.takeCtl u.enter with frame := done u.enterLevel })
  else go (s.setElem elem { x.takeCtl u.leave with frame := done u.leaveLevel })

end Sys2Proof.Machine
end

