-- ==== Sys2Proof/Machine/Picker.lean ====
section
/-!
DEFINITION. Readiness (R129, R130, R140): the conditions of Table 6.1 for a slot whose word has a given form, and the conditions
that the units of an element add.
-/

namespace Sys2Proof.Machine

/-! ## What a word uses -/

/-- The registers of the firing bank that a word reads or writes (R85). -/
def Form.regsUsed (f : Form) : List Nat :=
  (if f.aS.isSrc then [f.fields.a.toNat] else []) ++
    (if f.aS = .ae then [f.fields.a.toNat + 1] else []) ++
    (if f.bS.isSrc then [f.fields.b.toNat] else []) ++
    (if f.dS.isDst then [f.fields.d.toNat] else [])

/-- The predicates of the firing bank that a word reads or writes (R85): literals, destinations 22 to 28, the selector of
`sel.qn`, and q6 for atomics and `seal` (R103, R342). -/
def Form.predsUsed (f : Form) : List Nat :=
  (if f.aS = .p then [f.fields.a.toNat] else []) ++ (if f.bS = .p then [f.fields.b.toNat] else []) ++
    (if f.dS.isDst ∧ 22 ≤ f.fields.d.toNat then [f.fields.d.toNat - 22] else []) ++
    (if f.fields.major = 0x01 ∧ 8 ≤ f.fields.fn then [f.fields.fn.toNat - 8] else []) ++
    (if f.fields.major = 0x26 ∨ f.fields.major = 0x27 ∨ (f.fields.major = 0x38 ∧ f.fields.fn = 1) then [6] else [])

/-- No register or predicate the word uses is pending, nor is the guard (R85). -/
def notPending (k : Bank) (f : Form) (tr : Trig) : Bool :=
  (Form.regsUsed f).all (fun n => !(decide (n < 15) && (k.reg n).pending)) &&
    (Form.predsUsed f).all (fun n => !(decide (n < 7) && (k.pred n).pending)) &&
    (tr.gsel == 7 || !(k.pred tr.gsel.toNat).pending)

/-! ## Requests that are outstanding -/

/-- The request counts against the 32 of R84. -/
def Req.counts (r : Req) : Bool :=
  match r.op with
  | .falloc _ | .fput _ | .ffree _ | .stream _ | .copy | .matrix | .drain | .thresh _ _ | .pgsel => false
  | _ => true

/-- The requests of an element that count against the 32 of R84. -/
def State.outstanding (s : State) (e : ElemId) : Nat := (s.reqs.filter fun r => r.elem == e && r.counts).length

/-- The exit entry takes a place of its gateway's hold buffer (R420): one of a later iteration, in a twin pair from its arrival at the
comparator on (R435, R436). -/
def State.heldEntry (s : State) (r : Req) : Bool :=
  r.stage == .exitHeld || ((r.stage == .twin || r.stage == .mate) && !s.exitPasses r.elem.tile r.itertag r.inHandler)

/-- The exit entries for which the hold buffer of a tile's exit gateway has no room (R420): it holds 512, in the order in which they
came. -/
def State.unheld (s : State) (t : TileId) : List Req :=
  (s.reqs.filter fun r => r.elem.tile == t && s.heldEntry r).drop 512

/-- The request is an exit entry that the hold buffer has not yet taken. -/
def State.isUnheld (s : State) (r : Req) : Bool := (s.unheld r.elem.tile).any fun q => q.id == r.id

/-- The request goes by way of oq5 (R84, R420): a routed update and a command do not. -/
def Req.viaOq5 (r : Req) : Bool :=
  r.counts &&
    (match r.op with
     | .gsend _ => false
     | _ => true)

/-- The requests that wait in oq5 of an element: its exit entries that the full hold buffer does not take (R420), its `.g` accesses
that the full miss queue does not take (R217), and what the element has placed behind them; an exit entry that passes at once does
not wait behind one that is held. -/
def State.oq5 (s : State) (e : ElemId) : List Req :=
  let m := s.unqueued e.tile
  let u := s.unheld e.tile ++ m
  if u.isEmpty then []
  else
    ((s.reqs.filter fun r => r.elem == e && r.viaOq5).dropWhile fun r => !(u.any fun q => q.id == r.id)).filter fun r =>
      !(r.exit && !s.heldEntry r) || m.any fun q => q.id == r.id

/-- Every request that an element has issued is performed (R112). -/
def State.allPerformed (s : State) (e : ElemId) : Bool := s.reqs.all fun r => r.elem != e || r.performed

/-! ## Conditions of the units -/

/-- A scoreboard token is busy (R247). -/
def Elem.sbIsBusy (x : Elem) (n : Nat) : Bool := x.sbBusy.getLsbD n

/-- A stream port of a tile. -/
def State.port (s : State) (t : TileId) (p : Nat) : Port := Table.get (s.tile t).ports p

/-- The state with a port changed. -/
def State.modPort (s : State) (t : TileId) (p : Nat) (f : Port → Port) : State :=
  s.modTile t fun x => { x with ports := Table.modify x.ports p f }

/-- The accumulator is the target of the intake (R265). -/
def Elem.inIntake (x : Elem) (n : Nat) : Bool :=
  match x.intake with
  | some i => i.acc == n
  | none => false

/-- The accumulator is being drained (R265). -/
def Elem.inDrain (x : Elem) (n : Nat) : Bool :=
  match x.drain with
  | some d => d.acc == n
  | none => false

/-- The queues that the intake holds (R265). -/
def Elem.heldQueues (x : Elem) : List Nat :=
  match x.intake with
  | some i => match i.kind with
    | .macl => [i.aq]
    | _ => [i.aq, i.bq]
  | none => []

/-- A threshold request of the element is in progress (R347). -/
def State.threshBusy (s : State) (e : ElemId) : Bool := s.reqs.any fun r => r.elem == e &&
  (match r.op with
   | .thresh _ _ => true
   | _ => false)

/-- The I/O slots of a tile that are in use (R116). -/
def State.ioInUse (s : State) (t : TileId) : Nat := (s.reqs.filter fun r => r.elem.tile == t && r.op == .ioread).length

/-- The launches that a die's queue holds (R369). -/
def State.queued (s : State) (die : Nat) : Nat := (s.queue.filter fun l => l.die == die).length

/-- The images of an element that were spilled from a bank and are not reinstated (R140). -/
def State.imagesOf (s : State) (e : ElemId) (b : Nat) : List SpillRec :=
  ((s.elem (servingElem e)).frame.spill.filter fun p =>
    p.2.st != .free && p.2.st != .reinstating && p.2.elem == e && p.2.bank == b).map (·.2)

/-- The port that a page selection names, from the descriptor it reads (Table 16.10). -/
def Fire.pagePort (f : Fire) (c : BitVec 5) : Nat := bits (natOfVec (f.src c).val) 160 4

/-- The conditions of the units on a word (Table 6.1, R66, R112, R116, R247, R249, R250, R265, R333, R347, R348, R457). -/
def unitReady (s : State) (e : ElemId) (f : Form) (fr : Fire) : Bool :=
  let x := s.elem e
  let d := f.fields.d.toNat
  let a := f.fields.a.toNat
  let b := f.fields.b.toNat
  let fn := f.fields.fn.toNat
  let port := s.port e.tile b
  match f.fields.major.toNat with
  | 0x03 => fn != 2 || (decide (0 < (Table.get x.ctl b : Nat)) && !x.frame.steps b)
  | 0x29 => fn < 8 || s.allPerformed e
  | 0x2B => fn != 1 || decide (s.ioInUse e.tile < 16)
  | 0x2C => fn != 3 || (!x.sbIsBusy a && port.waiting.isNone && port.owner.isNone)
  | 0x2D => !x.sbIsBusy b
  | 0x2E => fn != 1 || ((fr.src f.fields.a).val.l0.extractLsb' 0 8 &&& x.sbBusy) == 0
  | 0x30 => x.intake.isNone && !x.inDrain (d % 2) && !s.threshBusy e
  | 0x31 =>
    if fn = 1 then !x.inIntake d && !x.inDrain d
    else if fn = 2 then x.intake.isNone && !x.inDrain d
    else !s.threshBusy e
  | 0x32 => x.drain.isNone && !x.inIntake d
  | 0x33 => !x.inIntake d && !x.inDrain d
  | 0x36 =>
    if fn = 1 then decide (s.queued e.tile.die < 1024)
    else if 4 ≤ fn then x.offer.isSome
    else true
  | 0x3A =>
    if fn = 1 then x.intake.isNone && !x.inDrain d && !s.threshBusy e
    else !x.inIntake b && !x.inDrain b && !s.threshBusy e
  | 0x3B =>
    let p := s.port e.tile (fr.pagePort f.fields.a)
    !x.sbIsBusy b && p.running.isNone && p.waiting.isNone && p.owner.isNone
  | _ => true

/-- A word or its trigger names a queue that the intake holds (R265). -/
def namesHeld (x : Elem) (f : Form) (tr : Trig) : Bool :=
  x.heldQueues.any fun q =>
    tr.inq.getLsbD q || (popsOf ((if f.aS.isSrc then [f.fields.a] else []) ++ (if f.bS.isSrc then [f.fields.b] else []))).contains q

/-- The word sends a request, a command or a frame request (R93, R248). -/
def Form.sends (f : Form) : Bool := f.path != .none

/-- The word counts against the 32 outstanding requests (R84). -/
def Form.counted (f : Form) : Bool := f.path == .req || f.path == .gsend

/-- The firing bank lets the slot fire (R130, R137, R140): it is active, or free and not awaited by an image's work, whether the image waits
or is eligible (log entry 47). -/
def bankReady (s : State) (e : ElemId) (fr : Fire) : Bool :=
  match fr.bk.st with
  | .active => !fr.bk.halted
  | .free => !fr.bk.halted &&
    (match fr.prim with
     | some h => !(s.imagesOf e fr.b).any fun m => m.image.reqtag == h.reqtag
     | none => (s.imagesOf e fr.b).isEmpty)
  | _ => false

/-- A quiesced region (R300): its elements fire nothing. -/
def Region.quiet (r : Region) : Bool :=
  (r.life == .loading && !r.waits) || r.sw == .settling || r.life == .saving || r.life == .restoring ||
    r.hphase == .entering || r.hphase == .leaving

/-- The hold of R301: quarters emit no token and read streams deliver none. -/
def Region.hold (r : Region) : Bool := r.sw != .running || r.life == .folding || (r.life == .loading && r.waits)

/-- The queue entries that a word reserves or fills have room (R86, R87, R130). -/
def queuesReady (x : Elem) (f : Form) (tr : Trig) : Bool :=
  (queuesOf tr.outq).all x.outFree && (!(f.dS.isDst && f.fields.d == 21) || x.inFree 5)

/-- A slot is ready (R130), for the fire it would make and the form of its word; the firing state is taken with `s.cur` at the
slot. -/
def slotReady (s : State) (e : ElemId) (f : Form) (fr : Fire) : Bool :=
  fr.reg.live && !fr.reg.quiet && fr.tr.holds (e.kind == .v) fr.el && queuesReady fr.el f fr.tr && bankReady s e fr &&
    notPending fr.bk f fr.tr && (!Form.counted f || decide (s.outstanding e < 32)) &&
    (!fr.tr.outq.getLsbD 5 || decide ((s.oq5 e).length < queueDepth)) &&
    (!Form.sends f || !s.acquireHeld e fr.b) && !namesHeld fr.el f fr.tr && unitReady s e f fr

end Sys2Proof.Machine
end

