-- ==== Sys2Proof/Machine/Bank.lean ====
section
/-!
DEFINITION. The picker's switch cycle (R131), spill-record offers (R457), and the spill and reinstatement of banks (R139, R141,
R336).
-/

namespace Sys2Proof.Machine

/-! ## The picker -/

/-- The state with the slot that is being considered named. -/
def State.at (s : State) (c : Cur) : State := { s with cur := c }

/-- The trigger index of a slot word. -/
def trigOf (w : Word) : BitVec 6 := w.extractLsb' 26 6

/-- The fire that the slot at a place would make. -/
def State.fireAt (s : State) (c : Cur) : Fire :=
  let x := s.elem c.elem
  let w : Word := Table.get (Table.get x.ctxs c.cc).slots c.slot
  fireOf (s.at c) (trigOf w)

/-- `SWITCH_CYCLE` (R131): the preferred bank becomes the firing bank of the lowest ready slot, which `s.cur` names. -/
def execSwitchCycle (elem : ElemId) (s : State) : Host.Outcome State Fault Refusal :=
  if s.cur.elem = elem then go (s.modElem elem fun x => { x with pref := BitVec.ofNat 2 (s.fireAt s.cur).b }) else go s

/-! ## Offers -/

/-- The form of a `yield` word (Table 16.1). -/
def yieldForm (w : Word) : Option Form :=
  (formOf w).filter fun f => f.fields.major == 0x36 && decide (4 ≤ f.fields.fn.toNat)

/-- The element has a `yield` slot that is ready under every other condition of Table 6.1 (R457). -/
def State.wantsSpill (s : State) (e : ElemId) : Bool :=
  let cc := (s.regionAt e.tile).active.toNat
  let t := s.modElem e fun x => { x with offer := some 0 }
  (List.range 32).any fun n =>
    match yieldForm (Table.get (Table.get (s.elem e).ctxs cc).slots n : Word) with
    | some f => slotReady (t.at ⟨e, cc, n⟩) e f (t.fireAt ⟨e, cc, n⟩)
    | none => false

/-- The elements that an S-element serves, in ascending position (R139). -/
def servedBy (e : ElemId) : List ElemId :=
  ((List.range 124).map fun p => (⟨e.tile, p⟩ : ElemId)).filter fun x => servingElem x == e

/-- The free spill records of an S-element, the lowest first (R457). -/
def FrameUnit.freeSpills (u : FrameUnit) : List Nat :=
  (List.range u.spills).filter fun n => (Table.get u.spill n).st == .free

/-- The records given to the elements that ask, one to each, until none is left (R457). -/
def offerAll (s : State) (es : List ElemId) (free : List Nat) : State :=
  match es, free with
  | e :: rest, n :: more =>
    if s.wantsSpill e then offerAll (s.modElem e fun x => { x with offer := some n }) rest more else offerAll s rest free
  | _, _ => s

/-- `SPILL_RECORD_OFFER` (R457): an S-element offers its free records to the elements it serves that have none. -/
def execSpillRecordOffer (elem : ElemId) (s : State) : Host.Outcome State Fault Refusal :=
  if elem.kind ≠ .s then go s
  else
    let es := servedBy elem
    let taken := es.filterMap fun e => (s.elem e).offer
    go (offerAll s (es.filter fun e => (s.elem e).offer.isNone)
      ((s.elem elem).frame.freeSpills.filter fun n => !taken.contains n))

/-! ## Yield -/

/-- The spill begins (R139): the bank is copied into the record that the element was offered, and is spilling; its outstanding
requests follow the image (R121). -/
def State.startSpill (s : State) (e : ElemId) (b : Nat) (n : Nat) (c : WaitCond) (outs : BitVec 6) (tok : Tok) : State :=
  let k := (s.elem e).bank b
  let s1 := { (s.dropCached ((s.elem (servingElem e)).frame.spillAddr (servingElem e) n) 1024).modSpill e n fun _ =>
      { st := .filling, image := k, elem := e, bank := b, cond := c, outs := outs, resv := s.nextId, otok := tok } with
      nextId := s.nextId + 1 }
  let s2 := s1.modElem e fun x => { x.modBank b fun k => { k with st := .spilling } with offer := none }
  { s2 with
    reqs := s2.reqs.map fun r =>
      if r.elem = e ∧ r.bank = b ∧ r.image = none ∧ r.epoch = k.epoch then { r with image := some n } else r
    switches := s2.switches.map fun q =>
      if q.elem = e ∧ q.bank = b ∧ q.image = none ∧ q.epoch = k.epoch then { q with image := some n } else q }

/-- A `yield` (R336): privileged in handler mode (R325); the fire completes, and then the bank is spilled. -/
def yieldFire (s : State) (t : BitVec 6) (srcs : List (BitVec 5)) (hole : Fire → Option Trap) (c : Fire → WaitCond) :
    Host.Outcome State Fault Refusal :=
  let f := fireOf s t
  let own := if f.reg.handler then some { cause := 0x10 } else hole f
  let outs := orderOut f 15
  fire s f srcs (srcs.map f.src) own (popsOf srcs ++ orderIn f srcs)
    (fun x => outs.foldl (fun y q => y.pushOut q (.resv s.nextId)) x) id fun z =>
    match f.el.offer with
    | some n => z.startSpill f.cur.elem f.b n (c f) (maskOf outs) (f.orderTok (orderIn f srcs))
    | none => z

/-- The hole check of `yield.f` (R336). -/
def yieldHole (s : State) (sp : Space) (a : BitVec 5) (f : Fire) : Option Trap :=
  match s.holeIn f.cur.elem.tile sp ((f.src a).val.l0.toNat / 4 * 4) 4 with
  | some x => some { cause := 0x05, addr := x }
  | none => none

/-- The wait condition of `yield.f` (R336). -/
def yieldWord (s : State) (sp : Space) (a : BitVec 5) (f : Fire) : WaitCond :=
  let addr := (f.src a).val.l0.toNat / 4 * 4
  .word (sp == .m) addr ((s.localByte f.cur.elem.tile sp addr).getD 0)

/-- `YIELD_F_X` (R336). -/
def execYieldFX (t : BitVec 6) (a : BitVec 5) (s : State) : Host.Outcome State Fault Refusal :=
  yieldFire s t [a] (yieldHole s .x a) (yieldWord s .x a)

/-- `YIELD_F_M` (R336). -/
def execYieldFM (t : BitVec 6) (a : BitVec 5) (s : State) : Host.Outcome State Fault Refusal :=
  yieldFire s t [a] (yieldHole s .m a) (yieldWord s .m a)

/-- `YIELD_SB` (R336). -/
def execYieldSb (t : BitVec 6) (a : BitVec 5) (s : State) : Host.Outcome State Fault Refusal :=
  yieldFire s t [a] (fun _ => none) fun f => .tokens ((f.src a).val.l0.extractLsb' 0 8)

/-- `YIELD_REL` (R336). -/
def execYieldRel (t : BitVec 6) (s : State) : Host.Outcome State Fault Refusal :=
  yieldFire s t [] (fun _ => none) fun _ => .release

/-! ## Spill and reinstatement -/

/-- The wait condition of a record is met (R336, R337). -/
def State.condMet (s : State) (r : SpillRec) : Bool :=
  match r.cond with
  | .release => true
  | .tokens m => (m &&& (s.elem r.elem).sbBusy) == 0
  | .word _ _ a => s.isFull a

/-- The record into which a bank is being copied. -/
def State.fillingRec (s : State) (e : ElemId) (b : Nat) : Option Nat :=
  ((s.elem (servingElem e)).frame.spill.find? fun p => p.2.st == .filling && p.2.elem == e && p.2.bank == b).map (·.1)

/-- The element with the ordering outputs of a `yield` filled (R324). -/
def Elem.fillYield (x : Elem) (m : SpillRec) : Elem :=
  { x with oq := (queuesOf m.outs).foldl (fun t q => Table.set t q (fillResv (Table.get t q) m.resv m.otok)) x.oq }

/-- The state with a bank allocated (R136) and free. -/
def State.freeBank (s : State) (e : ElemId) (b : Nat) : State :=
  s.modElem e fun x => x.modBank b fun k => k.alloc (s.regionAt e.tile).reqtag .free

/-- `SPILL_END` (R139, R141): the image waits, and is eligible at once where its condition holds; the bank is allocated and
free, also where a purge has freed the record during the copy (R137, R430). -/
def execSpillEnd (elem : ElemId) (bank : BitVec 2) (s : State) : Host.Outcome State Fault Refusal :=
  match s.fillingRec elem bank.toNat with
  | none => if ((s.elem elem).bank bank.toNat).st = .spilling then go (s.freeBank elem bank.toNat) else go s
  | some n =>
    let m : SpillRec := Table.get (s.elem (servingElem elem)).frame.spill n
    let s1 := (s.modSpill elem n fun r => { r with st := .waiting }).modElem elem fun x => x.fillYield m
    let s2 := s1.noteMet fun r => r.elem == elem && r.bank == bank.toNat && s.condMet r
    go (s2.freeBank elem bank.toNat)

/-- `REINSTATEMENT_START` (R141): an eligible image returns to its bank when the bank is free, the first eligible first. -/
def execReinstatementStart (elem : ElemId) (rec : Nat) (s : State) : Host.Outcome State Fault Refusal :=
  let m : SpillRec := Table.get (s.elem (servingElem elem)).frame.spill rec
  if m.st = .eligible ∧ m.elem = elem ∧ ((s.elem elem).bank m.bank).st = .free ∧
      (s.imagesOf elem m.bank).all (fun q => q.st != .eligible || decide (m.order ≤ q.order)) then
    go ((s.modSpill elem rec fun r => { r with st := .reinstating }).modElem elem fun x =>
      x.modBank m.bank fun k => { k with st := .reinstating })
  else go s

/-- `REINSTATEMENT_END` (R141): the bank stands as the record holds it, and the record is free; outstanding requests of the
image find the bank again. -/
def execReinstatementEnd (elem : ElemId) (rec : Nat) (s : State) : Host.Outcome State Fault Refusal :=
  let m : SpillRec := Table.get (s.elem (servingElem elem)).frame.spill rec
  if m.st = .reinstating ∧ m.elem = elem then
    let ep := ((s.elem elem).bank m.bank).epoch
    let s1 := s.freeSpill (servingElem elem) rec
    let s2 := s1.modElem elem fun x => x.setBank m.bank { m.image with st := .active, epoch := ep }
    go { s2 with
      reqs := s2.reqs.map fun r =>
        if r.elem = elem ∧ r.image = some rec ∧ m.isOf elem r.bank r.epoch then { r with image := none, epoch := ep } else r
      switches := s2.switches.map fun q =>
        if q.elem = elem ∧ q.image = some rec ∧ m.isOf elem q.bank q.epoch then { q with image := none, epoch := ep } else q }
  else go s

end Sys2Proof.Machine
end

