-- ==== Sys2Proof/Machine/Fabric.lean ====
section
/-!
DEFINITION. The fabric of a region: neighbour queues (R133), route classes and their windows (R285 to R290), memory-tile quarters
(R201 to R203), partition gateways (R22, R308), control tokens (R65) and the switch controller (R64, R301 to R304).
-/

namespace Sys2Proof.Machine

/-! ## Neighbour queues -/

/-- `NEIGHBOUR_TRANSFER` (R133): the head of an output queue moves to the paired input queue of the neighbour, if it has room. -/
def execNeighbourTransfer (elem : ElemId) (dir : BitVec 2) (s : State) : Host.Outcome State Fault Refusal :=
  let d := dir.toNat
  let n := elem.neighbour d
  let q := (d + 2) % 4
  match headTok ((s.elem elem).outq d) with
  | none => go s
  | some t =>
    if elem.hasQueue d && (s.elem n).inFree q then
      go ((s.modElem elem fun x => x.popOut d).modElem n fun x => x.pushIn q (.tok t))
    else go s

/-! ## Route classes -/

/-- Fields of a route-class entry (Table 14.7). -/
structure Route where
  v : Bool
  tk : Nat
  trow : Nat
  tcol : Nat
  tgt : Nat
  fv : Bool
  src : Nat
  win : Nat
  deriving DecidableEq, Repr, Inhabited

/-- A route-class word (Table 14.7). -/
def Route.ofWord (w : BitVec 64) : Route :=
  let n := w.toNat
  { v := bits n 0 1 = 1, tk := bits n 1 2, trow := bits n 3 6, tcol := bits n 9 8, tgt := bits n 17 7
    fv := bits n 24 1 = 1, src := bits n 25 7, win := if bits n 32 6 = 0 then 64 else bits n 32 6 }

/-- A route class of a compute tile. -/
def State.route (s : State) (t : TileId) (c : Nat) : Route := Route.ofWord (Table.get (s.tile t).routes c)

/-- The tokens in a route class (R288: each holds a window slot). -/
def State.inClass (s : State) (t : TileId) (c : Nat) : List Flit := Table.get (s.tile t).classes c

/-- The state with the tokens of a class replaced. -/
def State.setClass (s : State) (t : TileId) (c : Nat) (l : List Flit) : State :=
  s.modTile t fun x => { x with classes := if l.isEmpty then Table.erase x.classes c else Table.set x.classes c l }

/-- The misroute count goes up, saturating (R290). -/
def State.misroute (s : State) (t : TileId) : State := s.modTile t fun x => { x with misroute := addTouch x.misroute 1 }

/-- A router. -/
def State.router (s : State) (t : TileId) : Router := Table.get s.routers t.key

/-- The state with a router changed. -/
def State.modRouter (s : State) (t : TileId) (f : Router → Router) : State := { s with routers := Table.modify s.routers t.key f }

/-- The class that an element's oq4 feeds (R286). -/
def State.classOf (s : State) (e : ElemId) : Option Nat :=
  ((s.tile e.tile).routes.find? fun p => (Route.ofWord p.2).v && (Route.ofWord p.2).fv && (Route.ofWord p.2).src == e.pos).map (·.1)

/-- The place of a token's source among those that enter a class of a tile in one cycle (R286): elements by position, then stream ports by
number, then quarters, which have no order among them. Of one element the head of oq4 comes before a drain's token (log entry 52). -/
def Flit.place (f : Flit) : Nat :=
  match f.skind with
  | 0 => 2 * f.sid
  | 1 => 2 * f.sid + 1
  | 2 => 256 + f.sid
  | _ => 272

/-- The source of a place has a token for a class of its tile: at the head of its oq4, the next one of its drain, or the next one of the
port's read stream (R251, R286). -/
def State.placeEnters (s : State) (c : Nat) (t : TileId) (m : Nat) : Bool :=
  let e : ElemId := ⟨t, m / 2⟩
  if 256 ≤ m then
    ((s.port t (m - 256)).running.bind s.req?).any fun r => bits r.blk 0 1 == 0 && bits r.blk 21 1 == 1 && bits r.blk 15 6 == c &&
      r.stage == .sent && !(s.regionAt t).hold && (r.ahead.head?).any (·.parts.isEmpty)
  else if m % 2 = 0 then (headTok ((s.elem e).outq 4)).isSome && s.classOf e == some c
  else (s.elem e).drain.any fun d => d.cls == c && (s.req? d.req).isSome

/-- The source of a place has had its turn at a class in this cycle: its token, or that of a later place, has entered (R286). -/
def State.hadTurn (s : State) (c : Nat) (t : TileId) (m : Nat) : Bool :=
  decide (m < 272) && (Table.find (s.tile t).entered c).any fun x => x.1 == (s.regionAt t).clock && decide (m ≤ x.2)

/-- A token waits at its source for its turn at a class (R286): its source has had it in this cycle, or one of an earlier place stands at
the class and has not. -/
def State.awaitsTurn (s : State) (c : Nat) (t : TileId) (m : Nat) : Bool :=
  s.hadTurn c t m || (List.range (Nat.min m 272)).any fun n => !s.hadTurn c t n && s.placeEnters c t n

/-- A token enters a class (R286, R288): into a window slot, if one is free and it is the token's turn, and into its source router; a
token handed to an invalid class is dropped, and counts at the tile whose table holds the class, also where a quarter emits it (R290; log
entry 52). None where it must wait at its source. -/
def State.enterClass (s : State) (t : TileId) (c : Nat) (f : Flit) : Option State :=
  let r := s.route t c
  if !r.v then some (s.misroute t)
  else if (s.inClass t c).length < r.win ∧ !s.awaitsTurn c t f.place then
    let s1 := (s.setClass t c (s.inClass t c ++ [{ f with arr := (s.router f.src).count }])).modTile t fun x =>
      { x with entered := Table.set x.entered c ((s.regionAt t).clock, f.place) }
    some (s1.modRouter f.src fun x => { x with count := x.count + 1 })
  else none

/-- `ROUTE_CLASS_ENTRY` (R286, R288): the head of an element's oq4 enters its class. -/
def execRouteClassEntry (elem : ElemId) (s : State) : Host.Outcome State Fault Refusal :=
  match headTok ((s.elem elem).outq 4), s.classOf elem with
  | some t, some c =>
    match s.enterClass elem.tile c { tok := t, skind := 0, sid := elem.pos, src := elem.tile } with
    | some s1 => go (s1.modElem elem fun x => x.popOut 4)
    | none => go s
  | _, _ => go s

/-! ## Quarters -/

/-- Fields of a quarter word (Table 14.8). -/
def Quarter.depth (q : Quarter) : Nat := bits q.word.toNat 4 13
def Quarter.lineToks (q : Quarter) : Nat := bits q.word.toNat 17 8 + 1
def Quarter.ring (q : Quarter) : Nat := bits q.word.toNat 25 13 + 1
def Quarter.h (q : Quarter) : Nat := bits q.word.toNat 38 13 + 1
def Quarter.sv (q : Quarter) : Bool := bits q.word.toNat 51 1 == 1
def Quarter.sctx (q : Quarter) : Nat := bits q.word.toNat 52 2
def Quarter.emitRow (q : Quarter) : Nat := bits q.word.toNat 64 6
def Quarter.emitCol (q : Quarter) : Nat := bits q.word.toNat 70 8
def Quarter.emitClass (q : Quarter) : Nat := bits q.word.toNat 78 6

/-- The state with a quarter changed. -/
def State.modQuarter (s : State) (t : TileId) (q : Nat) (f : Quarter → Quarter) : State :=
  { s with mtiles := Table.modify s.mtiles t.key fun m => { m with quarters := Table.modify m.quarters q f } }

/-- The bytes of a token's data. -/
def tokBytes (t : Tok) : List Byte := t.data.toList.flatMap fun w => bytesOf 4 w.toNat

/-- The 32 bytes of memory from an address, as token data, with their poison (R206). -/
def State.dataAt (s : State) (a : Nat) : Vec × Poison := (vecOfNat (s.peek a 32), s.poisonOf a 32)

/-- The tokens of a line of a line buffer (R203): all of its sideband, the tag with it (log entry 47), is that of the last token
written into the line. -/
def State.lineToks (s : State) (t : TileId) (q : Nat) (k : Quarter) (l : Nat × Tok) : List Tok :=
  (List.range k.lineToks).map fun j =>
    let d := s.dataAt (quarterAddr t q + l.1 * (32 * k.lineToks) + 32 * j)
    { l.2 with data := d.1, poison := d.2, head := false, tail := false }

/-- A burst with its head on its first token and its tail on its last. -/
def frameBurst (l : List Tok) : List Tok :=
  match l with
  | [] => []
  | [t] => [{ t with head := true, tail := true }]
  | t :: r => { t with head := true } :: (r.dropLast ++ (r.getLast?.map fun u => { u with tail := true }).toList)

/-- The line under way is complete (R203): its bytes are written into the ring, and where h lines are held the burst of the h
most recent lines is due, the oldest first. -/
def State.lineDone (s : State) (t : TileId) (q : Nat) : State :=
  let k := s.quarter t q
  match k.held.getLast? with
  | none => s
  | some last =>
    let a := quarterAddr t q + k.nextW * (32 * k.lineToks)
    let s1 := (k.held.foldl (fun p tok => (p.1.storeBytes p.2 (tokBytes tok) tok.poison, p.2 + 32)) (s, a)).1
    let lines := (k.lines ++ [(k.nextW, last)]).drop (k.lines.length + 1 - k.ring)
    let k1 := { k with held := [], lines := lines, nextW := (k.nextW + 1) % k.ring }
    let s2 := s1.modQuarter t q fun _ => k1
    if k.ev ∧ k.h ≤ lines.length then
      let due := lines.drop (lines.length - k.h)
      s2.modQuarter t q fun x => { x with
        bursts := x.bursts ++ [(due.map (·.1), frameBurst (due.flatMap fun l => s2.lineToks t q k l))] }
    else s2

/-- The next line to be written would overwrite a line that a burst still to leave contains (R203). -/
def Quarter.lineWaits (k : Quarter) : Bool := k.bursts.any fun b => b.1.contains k.nextW

/-- A quarter takes a token (R201 to R203); none where it has no room, and the router holds the token (R289). The writing generator
of a tile store takes its place at the buffer word with the last token of its burst. -/
def State.quarterTake (s : State) (t : TileId) (q : Nat) (tok : Tok) : Option State :=
  let k := s.quarter t q
  match k.mode with
  | 0 =>
    if k.whole then none
    else
      let s1 := s.modQuarter t q fun x => { x with held := x.held ++ [tok] }
      some (if tok.tail then { s1.modQuarter t q fun x => { x with placeW := s.nextId } with nextId := s.nextId + 1 } else s1)
  | 1 => if k.held.length < k.depth then some (s.modQuarter t q fun x => { x with held := x.held ++ [tok] }) else none
  | 2 =>
    if k.lineWaits then none
    else
      let s1 := s.modQuarter t q fun x => { x with held := x.held ++ [tok] }
      some (if k.held.length + 1 < k.lineToks then s1 else s1.lineDone t q)
  | _ => none

/-- A token that a quarter emits enters the emit class at the memory tile's router (R291); the hold of R301 stops it. -/
def State.emitQuarter (s : State) (t : TileId) (q : Nat) (tok : Tok) : Option State :=
  let k := s.quarter t q
  let r := s.regionAt t
  if r.hold || !k.ev then none
  else match r.tileAt k.emitRow k.emitCol with
    | some c => s.enterClass c k.emitClass { tok := tok, skind := 3, sid := q, src := t }
    | none => none

/-- `FIFO_EMIT` (R202): the first token of a FIFO goes out. -/
def execFifoEmit (tile : TileId) (q : BitVec 2) (s : State) : Host.Outcome State Fault Refusal :=
  let k := s.quarter tile q.toNat
  match k.held with
  | tok :: rest =>
    if k.mode = 1 then
      match s.emitQuarter tile q.toNat tok with
      | some s1 => go (s1.modQuarter tile q.toNat fun x => { x with held := rest })
      | none => go s
    else go s
  | [] => go s

/-- `LINE_BUFFER_EMIT` (R203): the next token of the burst that is due goes out. -/
def execLineBufferEmit (tile : TileId) (q : BitVec 2) (s : State) : Host.Outcome State Fault Refusal :=
  let k := s.quarter tile q.toNat
  match k.bursts with
  | (places, tok :: rest) :: more =>
    if k.mode = 2 then
      match s.emitQuarter tile q.toNat tok with
      | some s1 => go (s1.modQuarter tile q.toNat fun x =>
          { x with bursts := if rest.isEmpty then more else (places, rest) :: more })
      | none => go s
    else go s
  | _ => go s

/-- A buffer word is filled or emptied, and the requests that wait on it are served (R101, R201). -/
def State.handWord (s : State) (a : Nat) (f : Bool) : State := (s.setFull a f).wake a

/-- A request that waits for a word to be full, or empty, came before a generator of a tile store (R101, R201). -/
def State.waiterFirst (s : State) (a : Nat) (full : Bool) (n : Nat) : Bool :=
  (s.waitersAt a).any fun r => decide (r.arrival.getD 0 < n) && (r.parts.any fun p => p.addr == a) &&
    (match r.op with
     | .ldf => full
     | .stf | .ioread => !full
     | _ => false)

/-- `TILE_STORE_WRITE` (R201): a whole burst is written into the next buffer once its word is empty; a burst that does not fit is
dropped, and the word says so. -/
def execTileStoreWrite (tile : TileId) (q : BitVec 2) (s : State) : Host.Outcome State Fault Refusal :=
  let k := s.quarter tile q.toNat
  let w := k.bufWord tile q.toNat k.nextW
  if k.mode ≠ 0 ∨ !k.whole ∨ s.isFull w ∨ s.waiterFirst w false k.placeW then go s
  else
    let next := s.modQuarter tile q.toNat fun x => { x with held := [], nextW := (x.nextW + 1) % x.bufs }
    if k.bufSize - 32 < 32 * k.held.length then go ((next.storeBytes w (bytesOf 4 0xFFFFFFFF) .clean).handWord w true)
    else
      let a := k.bufAddr tile q.toNat k.nextW
      let s1 := (k.held.foldl (fun p tok => (p.1.storeBytes p.2 (tokBytes tok) tok.poison, p.2 + 32)) (next, a)).1
      let s2 := s1.storeBytes (w + 4) (bytesOf 4 k.held.length) .clean
      go ((s2.storeBytes w (bytesOf 4 1) .clean).handWord w true)

/-- Token `j` of `n` of a buffer, as the reading generator sends it (R201); the spec states no tags for it, and no data beyond the
buffer. -/
def State.storeTok (s : State) (t : TileId) (k : Quarter) (a j n : Nat) : Tok :=
  let r := s.regionAt t
  let g := (Config.storeTags s.fresh).toNat
  let d := if 32 * (j + 1) ≤ k.bufSize then s.dataAt (a + 32 * j) else (vecOfNat (Config.beyondBuffer s.fresh), .clean)
  { data := d.1, tag := BitVec.ofNat 4 (bits g 0 4), head := j == 0, tail := j + 1 == n, poison := d.2
    reqtag := BitVec.ofNat 16 (bits g 4 16), ctxno := r.ctxno, itertag := BitVec.ofNat 16 (bits g 20 16) }

/-- The buffer is sent: its word is left empty, and the reading generator waits on the next (R201). -/
def State.bufferSent (s : State) (t : TileId) (q : Nat) : State :=
  let k := s.quarter t q
  let s1 := s.modQuarter t q fun x => { x with sending := none, nextR := (x.nextR + 1) % x.bufs, placeR := s.nextId }
  { s1 with nextId := s.nextId + 1 }.handWord (k.bufWord t q k.nextR) false

/-- `TILE_STORE_READ` (R201): once the next buffer's word is full, word 1 tokens are sent from it, and the word is left empty. -/
def execTileStoreRead (tile : TileId) (q : BitVec 2) (s : State) : Host.Outcome State Fault Refusal :=
  let k := s.quarter tile q.toNat
  let w := k.bufWord tile q.toNat k.nextR
  if k.mode ≠ 0 ∨ !k.ev then go s
  else match k.sending with
    | none =>
      if s.isFull w ∧ !s.waiterFirst w true k.placeR then
        let n := s.peek (w + 4) 4
        if n = 0 then go (s.bufferSent tile q.toNat)
        else go (s.modQuarter tile q.toNat fun x => { x with sending := some (0, n) })
      else go s
    | some (j, n) =>
      match s.emitQuarter tile q.toNat (s.storeTok tile k (k.bufAddr tile q.toNat k.nextR) j n) with
      | some s1 =>
        let s2 := { s1 with fresh := s.fresh + 1 }
        if j + 1 < n then go (s2.modQuarter tile q.toNat fun x => { x with sending := some (j + 1, n) })
        else go (s2.bufferSent tile q.toNat)
      | none => go s

/-! ## Paths -/

/-- The die of a block. -/
def blockDie (b : BlockId) : Nat := b.br / 10 * 4 + b.bc / 20

/-- The owner of a block: the context of the region that holds it (R22). -/
def State.blockOwner (s : State) (b : BlockId) : Option (BitVec 14) :=
  (s.regions.find? fun p => p.2.hasBlock b).map (·.2.ctxno)

/-- The target tile of a class. -/
def State.targetOf (s : State) (t : TileId) (c : Nat) : Option TileId :=
  (s.regionAt t).tileAt (s.route t c).trow (s.route t c).tcol

/-! ## The routers -/

/-- The tile at package coordinates; one outside the package where there is none. -/
def tileAtP (r c : Nat) : TileId := ⟨r / 20 * 4 + c / 40, r % 20, c % 40⟩

/-- The tile hops of a path (R287): along the row, and along the column. -/
def rowHops (src dst : TileId) : Nat := Nat.max src.pcol dst.pcol - Nat.min src.pcol dst.pcol
def colHops (src dst : TileId) : Nat := Nat.max src.prow dst.prow - Nat.min src.prow dst.prow

/-- The tile that a path reaches after some hops (R287). -/
def hopTile (src dst : TileId) (n : Nat) : TileId :=
  let h := Nat.min n (rowHops src dst)
  let v := Nat.min (n - h) (colHops src dst)
  tileAtP (if dst.prow < src.prow then src.prow - v else src.prow + v) (if dst.pcol < src.pcol then src.pcol - h else src.pcol + h)

/-- The block that a token goes into next, where its owner is another than that of the block in which the token stands, and than the
token's (R22, R307). -/
def State.foreign (s : State) (t : TileId) (c : Nat) (f : Flit) : Option BlockId :=
  match s.targetOf t c with
  | some d =>
    let a := (hopTile f.src d f.hop).block
    let b := (hopTile f.src d (f.hop + 1)).block
    if a = b ∨ s.blockOwner a = s.blockOwner b ∨ s.blockOwner b = some f.tok.ctxno then none else some b
  | none => none

/-- The output that a flit asks for after some hops: a direction, or 4, the local one, at the target (R287, R383). -/
def hopOut (src dst : TileId) (n : Nat) : Nat :=
  if n < rowHops src dst then (if dst.pcol < src.pcol then 3 else 1)
  else if n < rowHops src dst + colHops src dst then (if dst.prow < src.prow then 0 else 2)
  else 4

/-- The input by which a flit has come after some hops. -/
def hopIn (src dst : TileId) (n : Nat) : Nat :=
  match n with
  | 0 => 4
  | k + 1 => (hopOut src dst k + 2) % 4

/-- A flit on its way: its class, its place in the class, the flit, its source and target. -/
structure Moving where
  tile : TileId
  cls : Nat
  nth : Nat
  flit : Flit
  dst : TileId
  deriving DecidableEq, Repr, Inhabited

/-- A list with the places of its members. -/
def numbered {α : Type} (n : Nat) (l : List α) : List (Nat × α) :=
  match l with
  | [] => []
  | x :: r => (n, x) :: numbered (n + 1) r

/-- A flit of a class stands in the router of a tile, in one of its buffers or held for delivery, or holds a slot of one of its windows. -/
def State.inRouter (s : State) (t src : TileId) (c : Nat) (f : Flit) : Bool :=
  src == t || (s.targetOf src c).any fun d => hopTile f.src d f.hop == t

/-- The flits that stand in a router and are not yet held for delivery. -/
def State.movingAt (s : State) (t : TileId) : List Moving :=
  s.tiles.flatMap fun p => p.2.classes.flatMap fun c =>
    match s.targetOf (TileId.ofKey p.1) c.1 with
    | some d => (numbered 0 c.2).filterMap fun x =>
        if !x.2.landed && hopTile x.2.src d x.2.hop == t then some ⟨TileId.ofKey p.1, c.1, x.1, x.2, d⟩ else none
    | none => []

/-- A flit at its target waits for a flit of its class that entered before it and came from another tile (R287). -/
def State.waitsTurn (s : State) (m : Moving) : Bool :=
  hopOut m.flit.src m.dst m.flit.hop == 4 && !((s.inClass m.tile m.cls).take m.nth).all (·.landed)

/-- The flit at the head of an input buffer (R383); one that waits for its turn in its class does not hold up those behind it, among
which the one that it waits for may be (R287; log entry 48). -/
def State.bufferHead (s : State) (t : TileId) (i : Nat) : Option Moving :=
  ((s.movingAt t).filter fun m => hopIn m.flit.src m.dst m.flit.hop == i && !s.waitsTurn m).foldl (fun b m => match b with
    | none => some m
    | some x => if m.flit.arr < x.flit.arr then some m else some x) none

/-- The next number after the last one granted, in cyclic order, of those that ask (R383, R384). -/
def nextAfter (last : Option Nat) (l : List Nat) : Option Nat :=
  let lo := fun (m : List Nat) => m.foldl (fun b n => match b with
    | none => some n
    | some x => some (Nat.min x n)) none
  match last with
  | none => lo l
  | some k => match lo (l.filter fun n => decide (k < n)) with
    | some n => some n
    | none => lo l

/-- A flit may go on: no gateway drops it (R22), and the flits of its class before it are held for delivery where it is to be. -/
def State.mayMove (s : State) (m : Moving) : Bool := !s.waitsTurn m && (s.foreign m.tile m.cls m.flit).isNone

/-- The state with a flit changed. -/
def State.setFlit (s : State) (m : Moving) (f : Flit) : State :=
  s.setClass m.tile m.cls ((s.inClass m.tile m.cls).set m.nth f)

/-- A flit leaves a router by an output: for the next router, or to be held for delivery. -/
def State.moveFlit (s : State) (t : TileId) (out : Nat) (m : Moving) : State :=
  let s1 := s.setFlit m (if out = 4 then { m.flit with landed := true }
    else { m.flit with hop := m.flit.hop + 1, arr := (s.router t).count })
  s1.modRouter t fun x => { x with count := x.count + 1 }

/-- The inputs of a router whose first flit asks for an output and may go on, each with that flit (R383). -/
def State.asksFor (s : State) (t : TileId) (out : Nat) : List (Nat × Moving) :=
  (List.range 6).filterMap fun i => (s.bufferHead t i).bind fun m =>
    if hopOut m.flit.src m.dst m.flit.hop == out && s.mayMove m then some (i, m) else none

/-- An output of a router grants one flit (R383): round-robin among the inputs whose first flit asks for it, and in alternation with
memory traffic where both wait; which memory traffic waits is free (log entry 48). -/
def State.grantOutput (s : State) (t : TileId) (out : Nat) : State :=
  let asks := s.asksFor t out
  let r := s.router t
  let mem := Config.memoryWaits s.fresh
  let s1 := { s with fresh := s.fresh + 1 }
  match (nextAfter (Table.find r.grants out) (asks.map (·.1))).bind fun i => asks.find? fun x => x.1 == i with
  | none => if mem then s1.modRouter t fun x => { x with memory := Table.set x.memory out true } else s1
  | some (i, m) =>
    if mem && !Table.get r.memory out then s1.modRouter t fun x => { x with memory := Table.set x.memory out true }
    else (s1.moveFlit t out m).modRouter t fun x =>
      { x with grants := Table.set x.grants out i, memory := Table.set x.memory out false }

/-! ## Delivery -/

/-- Fields of a stream descriptor (Table 12.3). -/
def sdDir (n : Nat) : Nat := bits n 0 1
def sdSpc (n : Nat) : Nat := bits n 1 2
def sdBase (n : Nat) : Nat := bits n 32 57
/-- A count coded with 0 for 65,536. -/
def count16 (n : Nat) : Nat := if n = 0 then 65536 else n
def sdN0 (n : Nat) : Nat := count16 (bits n 96 16)
def sdN1 (n : Nat) : Nat := count16 (bits n 112 16)
def sdN2 (n : Nat) : Nat := count16 (bits n 128 16)
def sdBlen (n : Nat) : Nat := if bits n 22 10 = 0 then 1024 else bits n 22 10
def sdTotal (n : Nat) : Nat := sdN0 n * sdN1 n * sdN2 n
/-- Where a class delivers (Table 14.7, R289). -/
inductive Target where
  | queue (e : ElemId)
  | port (t : TileId) (p : Nat)
  | quarter (t : TileId) (q : Nat)
  deriving DecidableEq, Repr, Inhabited

/-- The target of a class. -/
def State.targetAt (s : State) (t : TileId) (c : Nat) : Option Target :=
  let r := s.route t c
  match s.targetOf t c with
  | none => none
  | some d => match r.tk with
    | 0 => some (.queue ⟨d, r.tgt⟩)
    | 1 => some (.port d r.tgt)
    | 2 => some (.quarter d r.tgt)
    | _ => none

/-- The class that the router granted last at a target (R384). -/
def State.lastGrant (s : State) (g : Target) : Option Nat :=
  match g with
  | .queue e => (s.elem e).granted
  | .port t p => (s.port t p).granted
  | .quarter t q => (s.quarter t q).granted

/-- The state with the class that was granted at a target noted. -/
def State.noteGrant (s : State) (g : Target) (n : Nat) : State :=
  match g with
  | .queue e => s.modElem e fun x => { x with granted := some n }
  | .port t p => s.modPort t p fun x => { x with granted := some n }
  | .quarter t q => s.modQuarter t q fun x => { x with granted := some n }

/-- The place of a class in the order of R384: by class index, and classes of one index by the number of their table's tile. -/
def classRank (t : TileId) (c : Nat) : Nat := c * 6400 + t.key

/-- The classes whose first token is held for a target. -/
def State.contenders (s : State) (g : Target) : List Nat :=
  s.tiles.flatMap fun p => p.2.classes.filterMap fun c =>
    let t := TileId.ofKey p.1
    match c.2 with
    | f :: _ => if f.landed && s.targetAt t c.1 == some g && (s.foreign t c.1 f).isNone then some (classRank t c.1) else none
    | [] => none

/-- A write stream runs on a port and takes a further token (R253). -/
def State.portTakes (s : State) (t : TileId) (p : Nat) : Bool :=
  (s.port t p).inbox.isEmpty &&
    (match (s.port t p).running.bind s.req? with
     | some r => sdDir r.blk == 1 && !r.stop && decide (r.prog < sdTotal r.blk)
     | none => false)

/-- A token goes into its target (R289); none where the target has no room. -/
def State.deliver (s : State) (g : Target) (tok : Tok) : Option State :=
  match g with
  | .queue e => if (s.elem e).inFree 4 then some (s.modElem e fun x => x.pushIn 4 (.tok tok)) else none
  | .port t p => if s.portTakes t p then some (s.modPort t p fun x => { x with inbox := [tok] }) else none
  | .quarter t q => s.quarterTake t q tok

/-- The first token of a class is delivered, and its window slot returns (R288, R289): where the router holds it for its target and
grants its class (R384). -/
def State.deliverHead (s : State) (t : TileId) (c : Nat) : Option State :=
  match s.inClass t c, s.targetAt t c with
  | f :: rest, some g =>
    if f.landed && nextAfter (s.lastGrant g) (s.contenders g) == some (classRank t c) then
      (s.deliver g f.tok).map fun z => (z.noteGrant g (classRank t c)).setClass t c rest
    else none
  | _, _ => none

/-- `TOKEN_DELIVERY` (R289): the first token of a class is delivered where its target has room. -/
def execTokenDelivery (tile : TileId) (cls : BitVec 6) (s : State) : Host.Outcome State Fault Refusal :=
  go ((s.deliverHead tile cls.toNat).getD s)

/-- `QUARTER_ACCEPT` (R202, R384): a quarter accepts the token of the class that its router grants. -/
def execQuarterAccept (tile : TileId) (q : BitVec 2) (s : State) : Host.Outcome State Fault Refusal :=
  let g := Target.quarter tile q.toNat
  go (((nextAfter (s.lastGrant g) (s.contenders g)).bind fun n => s.deliverHead (TileId.ofKey (n % 6400)) (n / 6400)).getD s)

/-! ## The fault log -/

/-- A notification bit of a die (Table 23.1, R440). -/
def State.notify (s : State) (d : Nat) (b : Nat) : State :=
  s.modDie d fun x => x.raise b

/-- A write of bytes at a virtual address of a space by the device itself: none where a page is missing or lacks wr, a byte is
sealed (R341), or the link is lost. -/
def State.writeVirtual (s : State) (w : Site) (space va : Nat) (bs : List Byte) : Option State :=
  match s.xlate w space Need.write va bs.length with
  | .error _ => none
  | .ok (segs, _) =>
    if s.sealHit space va bs.length || s.lostIn segs then none
    else some (segs.foldl (fun p g => (p.1.storeBytes g.1 (p.2.take g.2) .clean, p.2.drop g.2)) (s, bs)).1

/-- One entry into the fault log of a context (R428): a slot of 256 bytes with its kind and sequence number, the entry from byte
64 on; an entry that cannot be written is counted by the die. -/
def State.logEntry (s : State) (ctxno : BitVec 14) (die kind : Nat) (entry : List Byte) : State :=
  let base := s.ccb ctxno 192 57
  let lwi := s.ccb ctxno 288 32
  let slots := 2 ^ (min 12 (s.ccb ctxno 256 4) + 4)
  let pad := fun (n : Nat) (l : List Byte) => l ++ List.replicate (n - l.length) (0 : Byte)
  let bs := pad 256 (pad 64 (bytesOf 8 (kind + lwi * 2 ^ 32)) ++ entry)
  let lost := s.modDie die fun x => { x with lostl := addTouch x.lostl 1 }
  if base = 0 then lost
  else match s.writeVirtual ⟨die, none⟩ (s.space ctxno) (base + 256 * (lwi % slots)) bs with
    | some s1 => s1.setCcb ctxno 288 32 ((lwi + 1) % 2 ^ 32)
    | none => lost

/-- The gateway reject entry of a dropped token (Table 14.12). -/
def rejectEntry (r : Region) (c : Nat) (f : Flit) (b : BlockId) : Nat :=
  let p := r.rel f.src
  pack [(0, f.tok.ctxno.toNat), (14, f.tok.reqtag.toNat), (30, f.tok.itertag.toNat), (46, c), (52, f.skind), (54, f.sid),
    (61, p.1), (67, p.2), (75, b.br - r.origin.br), (80, b.bc - r.origin.bc)]

/-- `GATEWAY_REJECT` (R22, R307, R308, R428): a token that meets a foreign owner is dropped, its window slot returns, the entry is
logged on the die of the dropping gateway, and the fault is recorded against the token's iteration. -/
def execGatewayReject (tile : TileId) (cls : BitVec 6) (s : State) : Host.Outcome State Fault Refusal :=
  match s.inClass tile cls.toNat with
  | [] => go s
  | f :: rest =>
    match s.foreign tile cls.toNat f with
    | none => go s
    | some b =>
      let r := s.regionAt tile
      let s1 := (s.setClass tile cls.toNat rest).logEntry f.tok.ctxno (blockDie b) 2 (bytesOf 16 (rejectEntry r cls.toNat f b))
      go (s1.record
        { region := (s.regionOf tile).getD 0, cause := 0x0A, async := true, elem := ⟨f.src, f.sid⟩, ctxno := f.tok.ctxno
          reqtag := f.tok.reqtag, itertag := f.tok.itertag
          inHandler := r.handler && (match r.hfault with
            | some h => h.reqtag == f.tok.reqtag
            | none => false) })

/-! ## Control tokens -/

/-- `CONTROL_TOKEN_ARRIVAL` (R65): a control token on its way to the element is counted. -/
def execControlTokenArrival (elem : ElemId) (chan : BitVec 4) (s : State) : Host.Outcome State Fault Refusal :=
  if s.ctlFlight.contains (elem, chan.toNat) then
    let n := (Table.get (s.elem elem).ctl chan.toNat : Nat)
    go ({ s with ctlFlight := s.ctlFlight.erase (elem, chan.toNat) }.modElem elem fun x =>
      if n < 15 then { x with ctl := Table.set x.ctl chan.toNat (n + 1) } else { x with ctlOver := true })
  else go s

/-! ## The switch controller -/

/-- The status of a switch request, and whether it makes a switch pending (R63, Table 3.4); the cycles in which a region enters handler mode,
and those in which it is quiesced after an `hret` (R423), count as handler mode (log entry 52). -/
def Region.settle (r : Region) (c : BitVec 2) : Bool × Bool :=
  if r.handler || r.hphase != .off then (false, false)
  else if r.sw != .running then (false, false)
  else if !r.loaded.getLsbD c.toNat then (false, false)
  else if c = r.active then (true, false)
  else (true, true)

/-- A switch is pending: the region drains (R301). -/
def Region.startSwitch (r : Region) (c : BitVec 2) : Region := { r with sw := .draining, target := c, swAge := 0 }

/-- A list with the first element that satisfies a test changed. -/
def modFirst {α : Type} (p : α → Bool) (f : α → α) (l : List α) : List α :=
  match l with
  | [] => []
  | x :: r => if p x then f x :: r else x :: modFirst p f r

/-- A list without the first element that satisfies a test. -/
def dropFirst {α : Type} (p : α → Bool) (l : List α) : List α :=
  match l with
  | [] => []
  | x :: r => if p x then r else x :: dropFirst p r

/-- A switch request reaches the controller of its region before another: in an earlier cycle, or in the same cycle in ascending
row, column and position (R64). -/
def SwitchReq.ahead (p q : SwitchReq) : Bool := decide (p.due < q.due) || (p.due == q.due && elemBefore p.elem q.elem)

/-- A switch request has reached the controller of a region, and is to be settled in this cycle (R64). -/
def State.requestDue (s : State) (r : Region) : Bool :=
  s.switches.any fun q => q.status.isNone && r.hasTile q.elem.tile && decide (q.due ≤ r.clock)

/-- `SWITCH_REQUEST_ARRIVAL` (R64, R303): once a request has reached the controller it is settled by Table 3.4, those that reach it before
first. -/
def execSwitchRequestArrival (elem : ElemId) (s : State) : Host.Outcome State Fault Refusal :=
  let mine := fun (q : SwitchReq) => q.elem == elem && q.status.isNone
  match s.switches.find? mine, s.regionOf elem.tile with
  | some q, some rid =>
    if (s.region rid).clock < q.due ∨ s.switches.any (fun p => p.status.isNone && (s.region rid).hasTile p.elem.tile && p.ahead q) then go s else
    let v := (s.region rid).settle q.target
    let s1 := { s with switches := modFirst mine (fun q => { q with status := some v.1 }) s.switches }
    go (if v.2 then s1.modRegion rid fun r => r.startSwitch q.target else s1)
  | _, _ => go s

/-- `SWITCH_STATUS_ARRIVAL` (R303): the status is written to d through the guard of the fire. -/
def execSwitchStatusArrival (elem : ElemId) (s : State) : Host.Outcome State Fault Refusal :=
  let mine := fun (q : SwitchReq) => q.elem == elem && q.status.isSome
  match s.switches.find? mine with
  | none => go s
  | some q =>
    let v : Vec := Lanes.fill (bit (q.status == some true))
    let put := fun (k : Bank) =>
      if 22 ≤ q.dest.toNat ∧ q.dest.toNat < 29 then k.setPred (q.dest.toNat - 22) ((k.pred (q.dest.toNat - 22)).write q.guard v) else k
    let s1 := { s with switches := dropFirst mine s.switches }
    match q.image with
    | some n => go (s1.modSpill elem n fun m => if m.isOf elem q.bank q.epoch then { m with image := put m.image } else m)
    | none => go (s1.modElem elem fun x => if (x.bank q.bank).epoch = q.epoch then x.modBank q.bank put else x)

/-- A region is drained (R302); a memory request that waits in an oq5 is an access, which may remain, and no token (log entry 52). -/
def State.drained (s : State) (r : Region) : Bool :=
  (s.elemsOf r).all (fun p => p.2.iq.all (·.2.isEmpty) && p.2.oq.all (·.2.isEmpty) && (p.2.frame.test r.clock).emitq.isEmpty &&
    p.2.intake.isNone && p.2.drain.isNone) &&
    (s.tilesOf r).all fun p => p.2.classes.all (·.2.isEmpty)

/-- The stillness window of a region, in cycles (R386). -/
def State.window (s : State) (r : Region) : Nat := 2 ^ (min 12 (s.ccb r.ctxno 22 4) + 8)

/-- Stillness is taken at the region (R385): it is recorded against the head, and the counter returns to 0. -/
def State.takeStillness (s : State) (rid : Nat) : State :=
  let r := s.region rid
  (s.modRegion rid fun x => { x with still := 0 }).record
    { region := rid, cause := 0x0B, ctxno := r.ctxno, reqtag := r.reqtag, itertag := r.head, inHandler := r.handler
      elem := ⟨⟨0, 0, 0⟩, 0⟩ }

/-- `REGION_DRAINED` (R301): a drained region is quiesced, and settles, once the requests of the cycle are settled (R64). -/
def execRegionDrained (region : Nat) (s : State) : Host.Outcome State Fault Refusal :=
  let r := s.region region
  if r.live && r.sw == .draining && s.drained r && !s.requestDue r then go (s.modRegion region fun x => { x with sw := .settling, swAge := 0 })
  else go s

/-- `SETTLING_END` (R301): after two cycles the target is active and the hold is lifted; the requests of the cycle are settled before
(R64). -/
def execSettlingEnd (region : Nat) (s : State) : Host.Outcome State Fault Refusal :=
  let r := s.region region
  if r.live && r.sw == .settling && decide (2 ≤ r.swAge) && !s.requestDue r then
    go (s.modRegion region fun x => { x with sw := .running, active := x.target, swAge := 0, dry := 0 })
  else go s

/-- `SWITCH_DRAIN_TIMEOUT` (R301): a region that is still not drained keeps its context, and takes stillness. -/
def execSwitchDrainTimeout (region : Nat) (s : State) : Host.Outcome State Fault Refusal :=
  let r := s.region region
  if r.live && r.sw == .draining && decide (s.window r ≤ r.swAge) && !s.drained r && !s.requestDue r then
    go ((s.modRegion region fun x => { x with sw := .running, swAge := 0 }).takeStillness region)
  else go s

/-- The stage inputs of a context: the FIFO quarters with sv set (R304). -/
def State.stageInputs (s : State) (r : Region) (c : Nat) : List Quarter :=
  (s.mtilesOf r).flatMap fun p => (p.2.quarters.map (·.2)).filter fun q => q.mode == 1 && q.sv && q.sctx == c

/-- The active context's stage is dry (R304): all of its stage inputs, if it has any, are empty. -/
def State.stageDry (s : State) (r : Region) : Bool :=
  (s.stageInputs r r.active.toNat).all (·.held.isEmpty)

/-- `STAGE_DRY` (R304): after 64 dry cycles the controller asks for the next context, in cyclic order, that has a stage input
holding a token; it is settled after the requests of elements that have reached the controller (R303). -/
def execStageDry (region : Nat) (s : State) : Host.Outcome State Fault Refusal :=
  let r := s.region region
  if r.live && decide (64 ≤ r.dry) && s.stageDry r && !r.handler && r.hphase == .off && !s.requestDue r then
    match [1, 2, 3].find? fun k => (s.stageInputs r ((r.active.toNat + k) % 4)).any (!·.held.isEmpty) with
    | some k =>
      let c := BitVec.ofNat 2 (r.active.toNat + k)
      go (if (r.settle c).2 then s.modRegion region fun x => { x.startSwitch c with dry := 0 } else s)
    | none => go s
  else go s

end Sys2Proof.Machine
end

