-- ==== Sys2Proof/Machine/Engine.lean ====
section
/-!
DEFINITION. Scoreboard tokens, streams, copies and routed updates (R247 to R264, R391 to R395).
-/

namespace Sys2Proof.Machine

/-! ## Commands at the fire -/

/-- A fire that is performed at once: its ordering inputs go, and its ordering outputs are filled (R248, R324). -/
def instant (s : State) (t : BitVec 6) (d : BitVec 5) (srcs : List (BitVec 5)) (own : Fire → Option Trap)
    (eff : Fire → Elem → Elem) (post : Fire → State → State) : Host.Outcome State Fault Refusal :=
  let f := fireOf s t
  fire s f srcs (srcs.map f.src) (own f) (popsOf srcs ++ orderIn f srcs)
    (fun x => (orderOut f d).foldl (fun y q => y.pushOut q (.tok (f.orderTok (orderIn f srcs)))) (eff f x)) id (post f)

/-- A fire that issues a command (R248): `named` are the codes of its queues, `srcs` the sources it reads. -/
def command (s : State) (t : BitVec 6) (named srcs : List (BitVec 5)) (op : ReqOp) (own : Fire → Option Trap)
    (mk : Fire → Req → Req) (eff : Fire → Elem → Elem) (post : Fire → Req → State → State) : Host.Outcome State Fault Refusal :=
  let f := fireOf s t
  let q0 := { mk f (f.req s.nextId srcs 15 op) with exitNo := f.el.exits, otok := f.orderTok (orderIn f named) }
  let q := { q0 with stage := s.firstStage { q0 with parts := [] } }
  fire s f srcs (srcs.map f.src) (own f) (popsOf srcs ++ orderIn f named)
    (fun x => (orderOut f 15).foldl (fun y p => y.pushOut p (.resv s.nextId))
      (eff f (if q.exit || q.op == .copy then { x with exits := x.exits + 1 } else x))) id
    (fun z => post f q (z.send q))

/-- A scoreboard token made busy. -/
def Elem.sbStart (x : Elem) (n : Nat) : Elem := { x with sbBusy := x.sbBusy ||| (1#8 <<< n) }

/-- A command status word (Table 12.1). -/
def statusWord (got st : Nat) : Word := wordOf (pack [(0, min 0xFFFFFF got), (28, st)])

/-- A scoreboard token becomes idle with a status (R247), and the images that wait for it become eligible (R337). -/
def State.sbIdle (s : State) (e : ElemId) (n got st : Nat) : State :=
  let s1 := s.modElem e fun x => { x with sbBusy := x.sbBusy &&& ~~~(1#8 <<< n), sbStat := Table.set x.sbStat n (statusWord got st) }
  s1.noteMet fun m => match m.cond with
    | .tokens k => m.elem == e && (k &&& (s1.elem e).sbBusy) == 0
    | _ => false

/-- A command is performed (R247, R248): its token is idle with its final status, and its ordering outputs are filled. -/
def State.complete (s : State) (r : Req) (got st : Nat) : State :=
  let s1 := s.perform r
  let s2 := s1.sbIdle r.elem r.sb got st
  match r.mate.bind s.req? with
  | some m => s2.sbIdle m.elem m.sb got st
  | none => s2

/-! ## Translation by engines -/

/-- What an engine meets when it translates (R254, R260). -/
inductive EngineX where
  | ok (segs : List Seg)
  /-- A serviceable fault, and the address that failed. -/
  | service (va : Nat)
  | final
  deriving DecidableEq, Repr, Inhabited

/-- The driver has refused the fault under which the engine parked: what it meets where it stands is final (R222, R261). -/
def Svc.isRefused (v : Svc) : Bool :=
  match v with
  | .refused _ => true
  | _ => false

/-- The addresses whose faults the driver has refused. -/
def Svc.old (v : Svc) : List Nat :=
  match v with
  | .clear => []
  | .asked _ _ l => l
  | .refused l => l

/-- The driver has refused a page of a range: its fault stays final, also where the page has been mapped since (R222). -/
def Svc.refuses (v : Svc) (va len : Nat) : Bool :=
  v.old.any fun x => decide (va / 0x10000 ≤ x / 0x10000) && decide (x / 0x10000 ≤ (va + (len - 1)) / 0x10000)

/-- The engine waits for the driver. -/
def Svc.waits (v : Svc) : Bool :=
  match v with
  | .asked _ _ _ => true
  | _ => false

/-- The translation of `len` bytes at an address by an engine (R254): what the driver has refused is final. -/
def State.engineX (s : State) (w : Site) (space : Nat) (n : Need) (v : Svc) (va : Int) (len : Nat) : EngineX :=
  if va < 0 ∨ (2 ^ 57 : Int) < va + len ∨ (v.isRefused ∧ v.refuses va.toNat len) then .final
  else match s.xlate w space n va.toNat len with
    | .ok (segs, _) => if segs.any (fun g => remoteRefuses g.1) then .final else .ok segs
    | .error f => if f.serviceable && !v.isRefused then .service f.addr else .final

/-- The translation of a byte range, page by page, by an engine (R119, R342). -/
def State.engineRange (s : State) (w : Site) (space : Nat) (n : Need) (v : Svc) (va len : Nat) : EngineX :=
  if 2 ^ 57 < va + len ∨ (v.isRefused ∧ v.refuses va len) then .final
  else match s.pageRuns w space n va len (len / 0x10000 + 2) with
    | .ok segs => if segs.any (fun g => remoteRefuses g.1) then .final else .ok segs
    | .error f => if f.serviceable && !v.isRefused then .service f.addr else .final

/-- The TLBs of a tile after an engine has translated a range there: its pages are held, and where the tile's TLB lacked them the
monitor takes the time of the translation (Table 16.12, src 2), failed or not. -/
def State.fillTlb (s : State) (r : Req) (va : Int) (len : Nat) : State :=
  let space := s.space r.ctxno
  if va < 0 ∨ (2 ^ 57 : Int) < va + len ∨ tlbCovers (s.tile r.elem.tile).tlb space va.toNat len (len / 0x10000 + 2) then s
  else
    let s1 := s.installAll (siteOf r.elem.tile) space [⟨0, 0, va.toNat, len⟩]
    if (s.tile r.elem.tile).mon.src = 2 then s1.sampleLatency r.elem.tile else s1

/-- A command asks the driver for service, and waits (R221). -/
def State.engineAsk (s : State) (r : Req) (kind va : Nat) : State :=
  let a := s.askService r.asker (s.space r.ctxno) kind va
  a.1.putReq { r with svc := .asked a.2 va [] }

/-- The runs of a `.x` or `.m` range; a hole is a final fault. -/
def State.engineLocal (s : State) (t : TileId) (sp : Space) (a len : Nat) : EngineX :=
  if (s.holeIn t sp a len).isSome then .final else .ok (s.localRuns t sp a len)

/-- The space of an engine address, and the address that its arithmetic gives (R253, R259). -/
def spaceCode (n : Nat) : Space := if n = 0 then .x else if n = 1 then .m else .g

/-- The runs of an engine access in its space. -/
def State.engineRuns (s : State) (r : Req) (sp : Space) (n : Need) (va : Int) (len : Nat) : EngineX :=
  match sp with
  | .g => s.engineX (siteOf r.elem.tile) (s.space r.ctxno) n r.svc va len
  | _ => s.engineLocal r.elem.tile sp (va % 2 ^ 32).toNat len

/-- Bytes read by an engine from its runs, with their poison; bytes behind a lost link are lost (R254, R260). -/
def State.engineRead (s : State) (segs : List Seg) : List Byte × Poison :=
  (cutRuns segs).foldl (fun p g =>
    if s.linkLost g.1 then (p.1 ++ List.replicate g.2 (0 : Byte), p.2.join .link)
    else (p.1 ++ Mem.readBytes s.mem g.1 g.2, p.2.join (s.poisonOf g.1 g.2))) ([], .clean)

/-- Bytes written by an engine to its runs (R206). -/
def State.engineWrite (s : State) (segs : List Seg) (bs : List Byte) (p : Poison) : State :=
  (segs.foldl (fun z g => (z.1.storeBytes g.1 (z.2.take g.2) p, z.2.drop g.2)) (s, bs)).1

/-- The first byte by which a command violates purity (R410): the command is then not performed. -/
def State.engineImpure (s : State) (r : Req) (sp : Space) (write : Bool) (va : Int) (len : Nat) : Option Nat :=
  let g := s.regionAt r.elem.tile
  if sp == .g && !r.waive && g.pure then s.impureByte g (s.space r.ctxno) write [⟨0, 0, va.toNat, len⟩] else none

/-! ## Streams -/

/-- A signed field. -/
def sbits (v lo w : Nat) : Int := if bits v (lo + w - 1) 1 = 1 then (bits v lo w : Int) - 2 ^ w else bits v lo w

/-- A descriptor that the dispatcher refuses (R253). -/
def sdBad (n : Nat) : Bool :=
  bits n 3 1 != 0 || bits n 89 7 != 0 || bits n 208 48 != 0 || sdSpc n == 3 || (decide (sdSpc n < 2) && bits n 64 25 != 0)

/-- The address of token t (R253). -/
def sdAddr (n : Nat) (off : Word) (t : Nat) : Int :=
  let i0 := t % sdN0 n
  let i1 := t / sdN0 n % sdN1 n
  let i2 := t / (sdN0 n * sdN1 n)
  (sdBase n : Int) + off.toInt + 32 * i0 + sbits n 144 32 * i1 + sbits n 176 32 * i2

/-- A write stream to `.g` is an exit entry (R420). -/
def sdExit (n : Nat) : Bool := sdDir n == 1 && sdSpc n == 2

/-- The offset of a start: the value of the bound counter before the fire, or 0 (R250). -/
def State.boundValue (s : State) (t : TileId) (port : Nat) : Word :=
  match (s.port t port).bound with
  | some (pos, c) => (Table.get (s.elem ⟨t, pos⟩).counters c).value
  | none => 0

/-- The captured start of `sgo` (R250). -/
def startReq (s : State) (port sb : Nat) (f : Fire) (q : Req) : Req :=
  let d := (s.port f.cur.elem.tile port).staging
  { q with sb := sb, blk := d, off := s.boundValue f.cur.elem.tile port, exit := sdExit d }

/-- A start has ended (R250): its command completes; a start of a page selection adds to its command, which completes with its last
start and gives its port free (R349, R400). -/
def State.endStart (s : State) (r : Req) (port got st : Nat) : State :=
  let s1 := { s with reqs := s.reqs.map fun (q : Req) =>
      if q.stage = Stage.mate ∧ q.mate = some r.id then { q with got := got, st := st, started := true } else q }
  match r.parent.bind s1.req? with
  | some m =>
    let m1 := { m with got := m.got + got, st := max m.st st, off := m.off + 1 }
    let s2 := s1.dropReq r.id
    if m1.off.toNat = m1.picks.length then
      (s2.modPort r.elem.tile port fun p => { p with owner := none }).complete m1 m1.got m1.st
    else s2.putReq m1
  | none => s1.complete r got st

/-- A stream has ended: its port is idle. -/
def State.endStream (s : State) (r : Req) (port got st : Nat) : State :=
  (s.modPort r.elem.tile port fun p => { p with running := none }).endStart r port got st

/-- A waiting start of a port that is stopped completes at once (R250, R400). -/
def State.dropWaiting (s : State) (t : TileId) (port : Nat) : State :=
  match (s.port t port).waiting.bind s.req? with
  | some q => (s.modPort t port fun p => { p with waiting := none }).endStart q port 0 7
  | none => s

/-- `sstop` of a port (R250, R400): the running stream issues no further token, the waiting start ends, and so do the starts that the
page selection that owns the port has not yet handed over. -/
def State.stopPort (s : State) (t : TileId) (port : Nat) : State :=
  let s1 := match (s.port t port).running.bind s.req? with
    | some q => s.putReq { q with stop := true }
    | none => s
  let s2 := match (s.port t port).owner.bind s1.req? with
    | some q => s1.putReq { q with stop := true }
    | none => s1
  s2.dropWaiting t port

/-- `STREAM_START` (R250, R253): a port's waiting start begins when no stream runs; one with an invalid descriptor completes. -/
def execStreamStart (tile : TileId) (port : BitVec 4) (s : State) : Host.Outcome State Fault Refusal :=
  let p := s.port tile port.toNat
  match p.running, p.waiting.bind s.req? with
  | none, some r =>
    if r.stage ≠ .sent ∧ r.stage ≠ .mate then go s
    else
      let s1 := s.modPort tile port.toNat fun x => { x with running := some r.id, waiting := none }
      if sdBad r.blk then go (s1.endStream { r with mate := none } port.toNat 0 4) else go s1
  | _, _ => go s

/-- The first byte of a stream, all of its tokens judged, that violates purity (R409, R410). -/
def State.streamImpure (s : State) (r : Req) : Option Nat :=
  if (s.regionAt r.elem.tile).pure then (List.range (sdTotal r.blk)).findSome? fun t =>
    s.engineImpure r (spaceCode (sdSpc r.blk)) (sdDir r.blk == 1) (sdAddr r.blk r.off t) 32
  else none

/-- The stream after one token. -/
def Req.step (r : Req) (st : Nat) : Req := { r with prog := r.prog + 1, got := r.got + 1, st := max r.st st, svc := .clear }

/-- A token of a read stream goes to its element or its class (R253); none where it must wait. -/
def State.sendToken (s : State) (r : Req) (port : Nat) (tok : Tok) : Option State :=
  if bits r.blk 21 1 = 1 then s.enterClass r.elem.tile (bits r.blk 15 6) { tok := tok, skind := 2, sid := port, src := r.elem.tile }
  else
    let e : ElemId := ⟨r.elem.tile, bits r.blk 8 7⟩
    if (s.elem e).inFree 4 then some (s.modElem e fun x => x.pushIn 4 (.tok tok)) else none

/-- The token of a read stream (R253). -/
def Req.streamTok (r : Req) (data : Vec) (p : Poison) : Tok :=
  let n := sdBlen r.blk
  { data := data, tag := BitVec.ofNat 4 (bits r.blk 4 4), head := r.prog % n == 0
    tail := r.prog % n == n - 1 || r.prog + 1 == sdTotal r.blk, poison := p
    reqtag := r.reqtag, ctxno := r.ctxno, itertag := r.itertag }

/-- Bytes as token data. -/
def vecOfBytes (bs : List Byte) : Vec := vecOfNat (numOf bs)

/-- The state as a command in progress reads it: the links that were lost under it stay lost for it (R395, R444). -/
def State.linksOf (s : State) (r : Req) : State := { s with lost := s.lost ++ r.lostPorts }

/-- A list in an order that a free value names: `f` says, from the last member back, where each goes among those after it. -/
def freeOrder {α : Type} (f : Nat → Nat) (n : Nat) (l : List α) : List α :=
  match l with
  | [] => []
  | x :: r =>
    let t := freeOrder f (n + 1) r
    let k := f n % (t.length + 1)
    t.take k ++ x :: t.drop k

/-- The aligned 32-byte blocks of some runs, as the parts of one token (R236). -/
def tokenParts (segs : List Seg) : List Part :=
  (segs.foldl (fun (a : List Part × Nat) g =>
    (a.1 ++ (List.range ((g.1 % 32 + g.2 + 31) / 32)).map (fun i =>
      let lo := max g.1 ((g.1 / 32 + i) * 32)
      ⟨0, a.2 + (lo - g.1), lo, min (g.1 + g.2) ((g.1 / 32 + i + 1) * 32) - lo⟩), a.2 + g.2)) ([], 0)).1

/-- The number of the token that a read stream issues next. -/
def Req.issued (r : Req) : Nat := r.prog + r.ahead.length

/-- A read stream issues its next token (R253, R254): the token's pages are translated, and its blocks are to be read; a token that meets
a final fault is to be delivered with zero data and poison. -/
def State.issueToken (s : State) (r : Req) : State :=
  match s.engineRuns r (spaceCode (sdSpc r.blk)) Need.read (sdAddr r.blk r.off r.issued) 32 with
  | .service va => s.engineAsk r 0 va
  | .final => s.putReq { r with ahead := r.ahead ++ [{ pois := .data, st := 1 }], svc := .clear }
  | .ok segs => s.putReq { r with ahead := r.ahead ++ [{ parts := tokenParts segs }], svc := .clear }

/-- An issued token with one of its blocks read (R253, R254, R395); bytes that are lost with a link are free (log entry 27). -/
def State.readAhead (s : State) (id : Nat) (a : Ahead) (p : Part) : Ahead :=
  let lost := s.linkLost p.addr
  let pois := if lost then Poison.link else s.poisonOf p.addr p.len
  { a with
    parts := a.parts.filter (· != p)
    data := setBits a.data (8 * p.off) (8 * p.len) (if lost then Config.lostBytes id p.addr else s.peek p.addr p.len)
    pois := a.pois.join pois
    st := max a.st (if lost then 5 else if pois = .clean then 0 else 1) }

/-- A read stream delivers its first issued token (R253). -/
def State.deliverAhead (s : State) (r : Req) (port : Nat) (a : Ahead) (rest : List Ahead) : Option State :=
  (s.sendToken r port (r.streamTok (vecOfNat a.data) a.pois)).map fun z => z.putReq { r.step a.st with ahead := rest, svc := r.svc }

/-- What a read stream can do next (R253): deliver its first issued token, read a block of an issued token, issue a token. -/
inductive StreamAct where
  | deliver
  | read (n : Nat) (p : Part)
  | issue
  deriving DecidableEq, Repr, Inhabited

/-- The first issued token is complete, and finds a place (R288): nothing is issued behind one that waits for a place. -/
def State.canDeliver (s : State) (r : Req) (port : Nat) : Option Bool :=
  match r.ahead with
  | a :: rest => if a.parts.isEmpty then some (s.deliverAhead r port a rest).isSome else none
  | [] => none

/-- The acts that a read stream can take; `stopped` engines and a stream that waits for the driver issue nothing. -/
def State.streamActs (s : State) (r : Req) (port : Nat) (stopped : Bool) : List StreamAct :=
  let d := s.canDeliver r port
  (if d = some true then [.deliver] else []) ++
    (r.ahead.zipIdx.flatMap fun x => x.1.parts.map fun p => StreamAct.read x.2 p) ++
    (if stopped || r.stop || r.svc.waits || decide (sdTotal r.blk ≤ r.issued) || d == some false then [] else [.issue])

/-- A read stream takes one of the acts that it can take; which one is free, since the homes answer in any order (R253). -/
def State.readStep (s : State) (r : Req) (port : Nat) (stopped : Bool) : State :=
  let acts := s.streamActs r port stopped
  let z := { s with fresh := s.fresh + 1 }
  match acts[Config.blockPlace s.fresh % acts.length]? with
  | none => s
  | some .issue => z.issueToken r
  | some (.read n p) => z.putReq { r with ahead := r.ahead.modify n fun a => (z.linksOf r).readAhead r.id a p }
  | some .deliver => match r.ahead with
    | a :: rest => (z.deliverAhead r port a rest).getD s
    | [] => s

/-- A write stream has written a block of its token and not yet all of them. -/
def Req.midToken (r : Req) : Bool :=
  (match r.op with
   | .stream _ => sdDir r.blk == 1
   | _ => false) && !r.ahead.isEmpty

/-- A write stream writes the first of the blocks of its token that are still to be written, in one step (R236), but not behind a lost link
(R444; log entry 12); with the last block the token is done. -/
def State.writePiece (s : State) (r : Req) (port : Nat) (tok : Tok) (ps : List Part) : State :=
  match ps with
  | [] => s
  | p :: rest =>
    let lost := (s.linksOf r).linkLost p.addr
    let st := if lost then 6 else if tok.poison = .clean then 0 else 1
    let z := if lost then s else s.storeBytes p.addr (((tokBytes tok).drop p.off).take p.len) tok.poison
    if s.heldRuns [(p.addr, p.len)] then s
    else if rest.isEmpty then (z.modPort r.elem.tile port fun x => { x with inbox := [] }).putReq ({ r with ahead := [] }.step st)
    else z.putReq { r with ahead := [{ parts := rest }], st := max r.st st, svc := .clear }

/-- One token of a write stream (R253, R254, R341): it is checked as a whole, and its blocks are written in a free order (R236). -/
def State.writeToken (s : State) (r : Req) (port : Nat) (tok : Tok) : State :=
  let sp := spaceCode (sdSpc r.blk)
  let va := sdAddr r.blk r.off r.prog
  let took := s.modPort r.elem.tile port fun p => { p with inbox := [] }
  match r.ahead with
  | a :: _ => s.writePiece r port tok a.parts
  | [] =>
    match s.engineRuns r sp Need.write va 32 with
    | .service a => s.engineAsk r 1 a
    | .final => took.putReq (r.step 6)
    | .ok segs =>
      if sp == .g && s.sealHit (s.space r.ctxno) va.toNat 32 then took.putReq (r.step 6)
      else if s.lostIn segs then took.putReq (r.step 6)
      else if s.heldRuns segs then s
      else
        let ps := tokenParts segs
        { s with fresh := s.fresh + (ps.length - 1) }.writePiece r port tok (freeOrder (fun k => Config.blockPlace (s.fresh + k)) 0 ps)

/-- Engines of a region that is being saved or restored stand still (R381, R382). -/
def Region.enginesStop (r : Region) : Bool := r.life == .saving || r.life == .restoring

/-- The agreeing write stream of copy 1 takes its token, which copy 0 has performed for both (R435). -/
def State.dropMateToken (s : State) (r : Req) (port : Nat) : State :=
  if (s.port r.elem.tile port).inbox.isEmpty then s
  else (s.modPort r.elem.tile port fun p => { p with inbox := [] }).putReq { r with prog := r.prog + 1 }

/-- The token of a stream in `.g` that comes next has been translated at its tile (R217). -/
def State.streamTlb (s : State) (r : Req) : State :=
  if spaceCode (sdSpc r.blk) = .g ∧ r.issued < sdTotal r.blk ∧ !r.svc.waits ∧ !r.midToken then s.fillTlb r (sdAddr r.blk r.off r.issued) 32
  else s

/-- The stream completes right after its last token (R253): its completion is the next step. -/
def State.lastToken (s : State) (r : Req) (tile : TileId) (port : BitVec 4) : State :=
  match s.req? r.id with
  | some q =>
    if r.prog + 1 = sdTotal r.blk ∧ q.prog = r.prog + 1 then { s with agenda := .event (.streamComplete tile port) :: s.agenda } else s
  | none => s

/-- `STREAM_TOKEN` (R253, R254): the running stream of a port takes a token one step further. -/
def execStreamToken (tile : TileId) (port : BitVec 4) (s : State) : Host.Outcome State Fault Refusal :=
  let p := s.port tile port.toNat
  let reg := s.regionAt tile
  match p.running.bind s.req? with
  | none => go s
  | some r =>
    if r.stage = .mate then go (if r.prog < sdTotal r.blk then s.dropMateToken r port.toNat else s)
    else if r.stage ≠ .sent ∨ sdTotal r.blk ≤ r.prog then go s
    else match (if r.issued = 0 then s.streamImpure r else none) with
      | some a => go (s.parkFinal r 0x08 a 0)
      | none =>
        if sdDir r.blk = 0 then
          (if reg.hold then go s else go (((s.readStep r port.toNat reg.enginesStop).streamTlb r).lastToken r tile port))
        else if r.svc.waits || (reg.enginesStop && !r.midToken) then go s
        else match p.inbox with
          | tok :: _ => go (((s.writeToken r port.toNat tok).streamTlb r).lastToken r tile port)
          | [] => go s

/-- `STREAM_COMPLETE` (R250, R253): a stream whose tokens are all moved, or that `sstop` has ended once the tokens that it has issued or
taken are done, completes. -/
def execStreamComplete (tile : TileId) (port : BitVec 4) (s : State) : Host.Outcome State Fault Refusal :=
  match (s.port tile port.toNat).running.bind s.req? with
  | none => go s
  | some r =>
    let rest := !r.ahead.isEmpty || !(s.port tile port.toNat).inbox.isEmpty
    if r.stage = .mate ∧ r.started ∧ ((r.st = 7 ∧ !rest) ∨ sdTotal r.blk ≤ r.prog) then
      go (s.endStream { r with mate := none } port.toNat r.got r.st)
    else if r.stage = .sent ∧ ((r.stop ∧ !rest) ∨ sdTotal r.blk ≤ r.prog) then
      go (s.endStream r port.toNat r.got (if r.stop then 7 else r.st))
    else go s

/-! ## Copies -/

/-- A copy of an element that holds a scoreboard token. -/
def State.copyOf (s : State) (e : ElemId) (sb : Nat) : Option Req :=
  s.reqs.find? fun r => r.elem == e && r.sb == sb && r.op == .copy

/-- Fields of a copy parameter block (Table 12.4). -/
def cbNd (n : Nat) : Nat := bits n 0 3
def cbEsz (n : Nat) : Nat := 2 ^ bits n 3 3
def cbDir (n : Nat) : Nat := bits n 6 1
def cbW (n d : Nat) : Nat := count16 (bits n (64 + 16 * d) 16)
def cbIv (n d : Nat) : Nat := if d < 3 then bits n (12 + 4 * d) 4 + 1 else 1
/-- The stride of dimension d ≥ 1. -/
def cbSt (n d : Nat) : Int := sbits n (176 + 56 * (d - 1)) 56
/-- The source or destination space code. -/
def cbSsp (n : Nat) : Nat := bits n 7 2
def cbDsp (n : Nat) : Nat := bits n 9 2
/-- The number of elements (R259). -/
def cbCount (n : Nat) : Nat := (List.range (cbNd n)).foldl (fun p d => p * cbW n d) 1

/-- The captured bases of a copy (R255). -/
def Req.srcBase (r : Req) : Nat := if cbSsp r.blk = 2 then r.data.l0.toNat + r.data.l1.toNat * 2 ^ 32 else r.data.l0.toNat
def Req.dstBase (r : Req) : Nat := if cbDsp r.blk = 2 then r.data.l2.toNat + r.data.l3.toNat * 2 ^ 32 else r.data.l2.toNat

/-- A copy that completes at once with st 4 (R258). -/
def copyBad (r : Req) : Bool :=
  let n := r.blk
  cbNd n == 0 || decide (6 ≤ bits n 3 3) || cbSsp n == 3 || cbDsp n == 3 || bits n 11 1 != 0 || bits n 24 40 != 0 ||
    (List.range 7).any (fun d => decide (cbNd n ≤ d) && (bits n (64 + 16 * d) 16 != 0 ||
      (decide (d < 3) && bits n (12 + 4 * d) 4 != 0) || (decide (1 ≤ d) && bits n (176 + 56 * (d - 1)) 56 != 0))) ||
    decide (2 ^ 36 < cbEsz n * cbCount n) || (cbSsp n == 2 && decide (2 ^ 57 ≤ r.srcBase)) ||
    (cbDsp n == 2 && decide (2 ^ 57 ≤ r.dstBase))

/-- The strided offset of element e, from dimension d on (R259). -/
def strideFrom (n e d fuel : Nat) : Int :=
  match fuel with
  | 0 => 0
  | k + 1 =>
    let i := e % cbW n d
    (if d = 0 then ((i * cbEsz n * cbIv n 0 : Nat) : Int) else i * cbSt n d * cbIv n d) + strideFrom n (e / cbW n d) (d + 1) k

/-- The source and the destination address of element e (R259). -/
def Req.copyAddr (r : Req) (e : Nat) : Int × Int :=
  let s := strideFrom r.blk e 0 (cbNd r.blk)
  let d : Int := cbEsz r.blk * e
  -- the strided sum is one of 64 bits; those of `.x` and `.m` are cut to 32 where they are used
  let wrap := fun (x : Int) => x % 2 ^ 64
  if cbDir r.blk = 0 then (wrap (r.srcBase + s), r.dstBase + d) else (r.srcBase + d, wrap (r.dstBase + s))

/-- The chunks of a copy (R259). -/
def Req.chunks (r : Req) : Nat := (cbCount r.blk * cbEsz r.blk + 4095) / 4096

/-- The elements of chunk c. -/
def Req.chunkElems (r : Req) (c : Nat) : List Nat :=
  let per := 4096 / cbEsz r.blk
  (List.range (min per (cbCount r.blk - c * per))).map (c * per + ·)

/-- The read of a copy's parameter block (R255): the runs it reads, or the failure. -/
def State.blockRuns (s : State) (r : Req) : Except XFail (List Seg) :=
  match r.space with
  | .g => (s.xlate (siteOf r.elem.tile) (s.space r.ctxno) Need.read r.addr.l0 64).map (·.1)
  | sp => .ok (s.localRuns r.elem.tile sp r.addr.l0 64)

/-- The copy's block is captured (R255, R256, R258): it goes on to chunk 0, or completes. -/
def State.capture (s : State) (r : Req) (segs : List Seg) : State :=
  let d := s.engineRead segs
  let a := (segs.head?.map (·.1)).toList
  let s1 := s.modTile r.elem.tile fun t => { t with cache := (a ++ t.cache.filter fun x => !a.contains x).take 16 }
  let q := { r with blk := numOf d.1, started := true, parts := [], svc := .clear }
  if d.2 ≠ .clean then s1.complete q 0 1
  else if copyBad q then s1.complete q 0 4
  else
    let q1 := { q with exit := cbDsp q.blk == 2 }
    s1.putReq { q1 with stage := s.firstStage q1 }

/-- The earlier accesses of the bank that the block read waits for (R89), by the bytes it reads and by its virtual bytes. -/
def State.blockWaits (s : State) (r : Req) : Bool :=
  s.blocked r ⟨8, 0, 0, 0⟩ ||
    (match s.blockRuns r with
     | .ok segs => segs.any fun g => s.blocked r ⟨8, 0, g.1, g.2⟩
     | .error _ => false)

/-- `COPY_CAPTURE` (R255, R261): the block is read as one access of the bank, and captured; its faults park once the park list has room
(R220). -/
def execCopyCapture (elem : ElemId) (sb : BitVec 3) (s : State) : Host.Outcome State Fault Refusal :=
  match s.copyOf elem sb.toNat with
  | none => go s
  | some r =>
    let room := fun (z : State) => if s.parkRoom elem.tile then go z else go s
    if r.started ∨ r.stage ≠ .sent ∨ s.blockWaits r then go s
    else match s.blockRuns r with
      | .error f => room (s.park r 0 f)
      | .ok segs =>
        match s.engineImpure r r.space false r.addr.l0 64 with
        | some a => room (s.parkFinal r 0x08 a 0)
        | none =>
          if segs.any (fun g => remoteRefuses g.1) then room (s.parkFinal r 0x04 r.addr.l0 0)
          else go ((if r.space = .g then s.fillTlb r r.addr.l0 64 else s).capture r segs)

/-- The runs of one element, source and destination. -/
def State.elemRuns (s : State) (r : Req) (e : Nat) : EngineX × EngineX :=
  (s.engineRuns r (spaceCode (cbSsp r.blk)) Need.read (r.copyAddr e).1 (cbEsz r.blk),
    s.engineRuns r (spaceCode (cbDsp r.blk)) Need.write (r.copyAddr e).2 (cbEsz r.blk))

/-- The first serviceable fault of a chunk, with its kind (R259). -/
def State.chunkService (s : State) (r : Req) (es : List Nat) : Option (Nat × Nat) :=
  es.findSome? fun e => match s.elemRuns r e with
    | (.service a, _) => some (0, a)
    | (_, .service a) => some (1, a)
    | _ => none

/-- The bytes of some runs. -/
def segBytes (segs : List Seg) : List Nat := segs.flatMap fun g => (List.range g.2).map (g.1 + ·)

/-- The bytes that element `e` moves, and the code that its faults add to st (R259, R260); a destination behind a lost link counts as one
that meets a final fault (log entry 12). -/
def State.elemMoves (s : State) (r : Req) (e : Nat) : List ByteMove × Nat :=
  let x := s.elemRuns r e
  match x.2 with
  | .ok dst =>
    if cbDsp r.blk = 2 ∧ s.sealHit (s.space r.ctxno) (r.copyAddr e).2.toNat (cbEsz r.blk) then ([], 6)
    else if s.lostIn dst then ([], 6)
    else match x.1 with
      | .ok src => (((segBytes dst).zip (segBytes src)).map fun p => ⟨p.1, some p.2⟩, 0)
      | _ => ((segBytes dst).map fun a => ⟨a, none⟩, 1)
  | _ => ([], 6)

/-- The moves of each aligned 32-byte block of the destination, the blocks in the order in which they first occur (R236). -/
def blockMoves (c : Nat) (ms : List ByteMove) : List CopyBlock :=
  ms.foldl (fun bs m =>
    let b := m.dst / 32
    if bs.any fun x => x.block == b then bs.map fun x => if x.block = b then { x with moves := x.moves ++ [m] } else x
    else bs ++ [⟨c, b, [m]⟩]) []

/-- The source block of a move is read for its chunk, or it needs none. -/
def Req.hasSource (r : Req) (c : Nat) (m : ByteMove) : Bool :=
  match m.src with
  | some a => r.cache.any fun x => x.chunk == c && x.block == a / 32
  | none => true

/-- The byte that a move of a chunk brings, with its poison and the code that it adds to st (R260); the byte of an element that meets a
fault, or is lost with a link, is free (log entry 12). -/
def Req.moved (r : Req) (c : Nat) (m : ByteMove) : Byte × Poison × Nat :=
  let lost := BitVec.ofNat 8 (Config.lostBytes r.id m.dst)
  match m.src with
  | none => (lost, .data, 1)
  | some a => match r.cache.find? fun x => x.chunk == c && x.block == a / 32 with
    | some x => if x.lost then (lost, .link, 5) else (x.bytes.getD (a % 32) 0, x.pois, if x.pois = .clean then 0 else 1)
    | none => (lost, .data, 0)

/-- One block of a copy's destination is written in one step (R206, R236). -/
def State.writeBlock (s : State) (vs : List (Nat × Byte × Poison × Nat)) (b : Nat) : State :=
  let p := vs.foldl (fun p v => p.join v.2.2.1) Poison.clean
  let s1 := vs.foldl (fun z v => z.pokeBytes v.1 [v.2.1]) s
  let whole := (List.range 32).all fun k => vs.any fun v => v.1 == b + k
  (if whole then s1.storeGranule (granuleOf b) b (b + 32) p else s1.storeGranule (granuleOf b) b b p).dropCached b 32

/-- A chunk's last block is written: it counts where no element of it met a fault (R260), and its source blocks are let go. -/
def Req.endChunk (r : Req) (c : Nat) : Req :=
  if r.todo.any fun x => x.chunk == c then r
  else { r with got := if r.badChunks.contains c then r.got else r.got + 1, cache := r.cache.filter fun x => x.chunk != c }

/-- A copy with a code added to its status for a chunk. -/
def Req.copySt (r : Req) (c st : Nat) : Req :=
  { r with st := max r.st st, badChunks := if st = 0 then r.badChunks else c :: r.badChunks }

/-- What a copy can do next (R259, R236): check its next chunk, read a source block, write a destination block. -/
inductive CopyAct where
  | check
  | read (b : Nat)
  | write (b : Nat)
  deriving DecidableEq, Repr, Inhabited

/-- A block is one that the chunk which is checked next reads or writes too: its access waits for that chunk, so that the engine makes it
in one step (R236), unless nothing more is checked for now. -/
def State.sharesNext (s : State) (r : Req) (stopped : Bool) (p : ByteMove → Bool) : Bool :=
  !(stopped || r.svc.waits || decide (r.chunks ≤ r.prog)) && (r.chunkElems r.prog).any fun e => (s.elemMoves r e).1.any p

/-- The blocks of the source that checked chunks are still to read, and those of the destination that they are to write. -/
def Req.toRead (r : Req) : List Nat :=
  (r.todo.flatMap fun x => x.moves.filterMap fun m => if r.hasSource x.chunk m then none else m.src.map (· / 32)).eraseDups
def Req.toWrite (r : Req) : List Nat := (r.todo.map (·.block)).eraseDups

/-- Every source of a destination block has been read, for all chunks that have passed their check. -/
def Req.sourced (r : Req) (b : Nat) : Bool := r.todo.all fun x => x.block != b || x.moves.all (r.hasSource x.chunk)

/-- The acts that a copy can take; one that is stopped, or waits for the driver, performs what it has checked and checks nothing more. -/
def State.copyActs (s : State) (r : Req) (stopped : Bool) : List CopyAct :=
  (if stopped || r.svc.waits || decide (r.chunks ≤ r.prog) then [] else [.check]) ++
    ((r.toRead.filter fun b => !s.sharesNext r stopped fun m => m.src.any fun a => a / 32 == b).map .read) ++
    (r.toWrite.filter fun b => r.sourced b && !s.heldRuns [(b * 32, 32)] && !s.sharesNext r stopped fun m => m.dst / 32 == b).map .write

/-- A chunk that has passed its check is to be performed (R259). -/
def State.checkChunk (s : State) (r : Req) (es : List Nat) : State :=
  let all : List (List ByteMove × Nat) := es.map (s.elemMoves r)
  let st := all.foldl (fun m x => Nat.max m x.2) 0
  let q := { r.copySt r.prog st with todo := r.todo ++ blockMoves r.prog (all.flatMap Prod.fst), prog := r.prog + 1, svc := .clear }
  s.putReq (q.endChunk r.prog)

/-- A copy reads a block of its source in one step, for every chunk that is to read it (R236). -/
def State.readBlock (s : State) (r : Req) (b : Nat) : State :=
  let d := s.engineRead [(32 * b, 32)]
  let lost := (s.linksOf r).linkLost (32 * b)
  let cs := (r.todo.filter fun x => x.moves.any fun m => !r.hasSource x.chunk m && m.src.any fun a => a / 32 == b).map (·.chunk)
  s.putReq { r with cache := r.cache ++ cs.eraseDups.map fun c => ⟨c, b, d.1, d.2, lost⟩ }

/-- A copy writes a block of its destination in one step, with what every chunk that has passed its check brings to it (R236); not behind
a lost link (R444; log entry 12). -/
def State.putBlock (s : State) (r : Req) (b : Nat) : State :=
  let xs := r.todo.filter fun x => x.block == b
  let lost := (s.linksOf r).linkLost (32 * b)
  let vs := xs.flatMap fun x => x.moves.map fun m => (m.dst, r.moved x.chunk m)
  let code := fun (x : CopyBlock) => if lost then 6 else x.moves.foldl (fun m y => Nat.max m (r.moved x.chunk y).2.2) 0
  let q := xs.foldl (fun q x => (q.copySt x.chunk (code x)).endChunk x.chunk) { r with todo := r.todo.filter fun x => x.block != b }
  (if lost then s else s.writeBlock vs (32 * b)).putReq q

/-- The first byte of a copy, all of its elements judged, that violates purity (R409, R410). -/
def State.copyImpure (s : State) (r : Req) : Option Nat :=
  if (s.regionAt r.elem.tile).pure then (List.range (cbCount r.blk)).findSome? fun e =>
    match s.engineImpure r (spaceCode (cbSsp r.blk)) false (r.copyAddr e).1 (cbEsz r.blk) with
    | some a => some a
    | none => s.engineImpure r (spaceCode (cbDsp r.blk)) true (r.copyAddr e).2 (cbEsz r.blk)
  else none

/-- The pages of a chunk have been translated at the copy's tile (R217). -/
def State.chunkTlb (s : State) (r : Req) (es : List Nat) : State :=
  es.foldl (fun z e =>
    let z1 := if cbSsp r.blk = 2 then z.fillTlb r (r.copyAddr e).1 (cbEsz r.blk) else z
    if cbDsp r.blk = 2 then z1.fillTlb r (r.copyAddr e).2 (cbEsz r.blk) else z1) s

/-- A copy translates and checks its next chunk on both sides, or parks (R259, R261). -/
def State.nextChunk (s : State) (r : Req) : State :=
  let es := r.chunkElems r.prog
  let s1 := s.chunkTlb r es
  match s1.chunkService r es with
  | some (k, a) => s1.engineAsk r k a
  | none => s1.checkChunk r es

/-- `COPY_CHUNK` (R259, R261): a copy checks its next chunk, or performs a part of those that it has checked, in a free order (R236). Where
it is pre-empted it finishes those and then stands still. -/
def execCopyChunk (elem : ElemId) (sb : BitVec 3) (s : State) : Host.Outcome State Fault Refusal :=
  match s.copyOf elem sb.toNat with
  | none => go s
  | some r =>
    let reg := s.regionAt elem.tile
    let stopped := reg.life == .folding || reg.enginesStop
    let acts := s.copyActs r stopped
    if !r.started ∨ r.stage ≠ .sent then go s
    else if stopped ∧ r.todo = [] then go (if r.prog < r.chunks then s.putReq { r with preempted := true } else s)
    else match (if r.prog = 0 then s.copyImpure r else none) with
      | some a => go (s.parkFinal r 0x08 a 0)
      | none =>
        let z := { s with fresh := s.fresh + 1 }
        let q := { r with preempted := false }
        match acts[Config.blockPlace s.fresh % acts.length]? with
        | none => go s
        | some .check => go (z.nextChunk q)
        | some (.read b) => go (z.readBlock q b)
        | some (.write b) => go (z.putBlock q b)

/-- `COPY_COMPLETE` (R261): the last chunk is performed. -/
def execCopyComplete (elem : ElemId) (sb : BitVec 3) (s : State) : Host.Outcome State Fault Refusal :=
  match s.copyOf elem sb.toNat with
  | none => go s
  | some r => if r.started ∧ r.stage = .sent ∧ r.chunks ≤ r.prog ∧ r.todo = [] then go (s.complete r r.got r.st) else go s

/-- The trap of `cpy` at its fire (R255, step 1). -/
def copyTrap (s : State) (f : Fire) (a : Nat) (sp : Nat) : Option Trap :=
  if sp = 3 then none
  else if sp = 2 then (if 2 ^ 57 < a + 64 then some { cause := 0x03, addr := a } else none)
  else match s.holeIn f.cur.elem.tile (spaceCode sp) a 64 with
    | some x => some { cause := 0x05, addr := x }
    | none => none

/-- The block address and space that `cpy` reads of its operand (R255). -/
def copyBlock (v : Vec) : Nat × Nat :=
  let sp := v.l6.toNat % 4
  (if sp = 2 then v.l4.toNat + v.l5.toNat * 2 ^ 32 else v.l4.toNat, sp)

/-! ## Routed updates -/

/-- The new word of a routed update (Table 12.8). -/
def routedOp (op : Nat) (x y : Word) : Word :=
  match op with
  | 1 => y
  | 2 => AtomOp.add.apply x y 0
  | 3 => AtomOp.fadd.apply x y 0
  | 4 => AtomOp.minS.apply x y 0
  | 5 => AtomOp.maxS.apply x y 0
  | 6 => AtomOp.minN.apply x y 0
  | 7 => AtomOp.maxN.apply x y 0
  | 8 => AtomOp.and.apply x y 0
  | 9 => AtomOp.or.apply x y 0
  | 10 => AtomOp.xor.apply x y 0
  | _ => x

/-- `gsend` (R264, R392): the routed-update entry is read at the fire, and each guarded lane addresses a word of `.m`. -/
def gsendFire (s : State) (t : BitVec 6) (d a b : BitVec 5) (n : Nat) : Host.Outcome State Fault Refusal :=
  let f := fireOf s t
  let e : Nat × Nat := Table.get (s.tile f.cur.elem.tile).ents n
  let addr : Lanes Nat := Lanes.ofFn fun i => (e.2 + 4 * ((f.src a).val.get i).toNat) % 2 ^ 32 / 4 * 4
  let q0 := { f.req s.nextId [a, b] d (.gsend e.1) with space := .m, addr := addr, data := (f.src b).val }
  let q := { q0 with parts := s.localParts q0, stage := .sent }
  let own := match f.purity (decide (2 ≤ e.1) && decide (e.1 ≤ 10)) with
    | some x => some x
    | none => match q0.ranges.findSome? (fun x => s.holeIn f.cur.elem.tile .m x.addr x.len) with
      | some x => some { cause := 0x05, addr := x }
      | none => none
  fire s f [a, b] ([a, b].map f.src) own (popsOf [a, b] ++ orderIn f [a, b]) (f.reserve s.nextId d false) id (fun z => z.send q)

/-- The tokens of a `gsend` that may be applied next: the first for each bank, since those for one bank arrive in lane order, and
those for different banks in none (R391). -/
def firstAtBank (ps : List Part) : List Part :=
  ps.foldl (fun l p => if l.any fun q => homeOf q.addr == homeOf p.addr then l else l ++ [p]) []

/-- The coordinate-value token that a node applies next: the choice among banks is free. -/
def State.nextToken (s : State) (r : Req) : Option Part :=
  (firstAtBank r.parts)[Config.lanePlace s.fresh % (firstAtBank r.parts).length]?

/-- `RMW_APPLY` (R264, R391): the node of a target bank applies the next coordinate-value token of a `gsend`. -/
def execRmwApply (req : Nat) (s : State) : Host.Outcome State Fault Refusal :=
  onReq s req fun r =>
    match r.op, s.nextToken r with
    | .gsend op, some p =>
      if s.heldRuns [(p.addr, 4)] then s else
      let rest := r.parts.filter (· != p)
      let x := wordOf (s.peek p.addr 4)
      let pois := s.poisonOf p.addr 4
      let q := { r with parts := rest, result := setLane r.result p.lane x, rpois := setLane r.rpois p.lane pois }
      let s0 := { s with fresh := s.fresh + 1 }
      let s1 := if pois ≠ .clean ∧ op ≠ 1 then s0
        else s0.storeBytes p.addr (bytesOf 4 (routedOp op x (r.data.get (Fin.ofNat 8 p.lane))).toNat) .clean
      if rest.isEmpty then s1.perform q else s1.putReq q
    | .gsend _, none => s.perform r
    | _, _ => s

/-! ## The instructions -/

/-- `SCFG` (R250). -/
def execScfg (t : BitVec 6) (a : BitVec 5) (b : BitVec 5) (s : State) : Host.Outcome State Fault Refusal :=
  instant s t 15 [a] (fun _ => none) (fun _ => id) fun f z =>
    z.modPort f.cur.elem.tile b.toNat fun p => { p with staging := natOfVec (f.src a).val }

/-- `SBIND` (R250). -/
def execSbind (t : BitVec 6) (a : BitVec 5) (b : BitVec 5) (s : State) : Host.Outcome State Fault Refusal :=
  instant s t 15 [] (fun _ => none) (fun _ => id) fun f z =>
    z.modPort f.cur.elem.tile b.toNat fun p => { p with bound := if a.toNat < 4 then some (f.cur.elem.pos, a.toNat) else none }

/-- `SGO` (R250). -/
def execSgo (t : BitVec 6) (a : BitVec 5) (b : BitVec 5) (s : State) : Host.Outcome State Fault Refusal :=
  command s t [] [] (.stream b.toNat) (fun _ => none) (startReq s b.toNat a.toNat) (fun _ x => x.sbStart a.toNat) fun f q z =>
    z.modPort f.cur.elem.tile b.toNat fun p => { p with waiting := some q.id }

/-- `SSTOP` (R250). -/
def execSstop (t : BitVec 6) (b : BitVec 5) (s : State) : Host.Outcome State Fault Refusal :=
  instant s t 15 [] (fun _ => none) (fun _ => id) fun f z => z.stopPort f.cur.elem.tile b.toNat

/-- `CPY` (R255). -/
def execCpy (t : BitVec 6) (a : BitVec 5) (b : BitVec 5) (s : State) : Host.Outcome State Fault Refusal :=
  let f := fireOf s t
  let v := (f.src a).val
  let k := copyBlock v
  if k.1 % 64 ≠ 0 ∨ k.2 = 3 then
    instant s t 15 [a] (fun f => copyTrap s f k.1 k.2) (fun _ => id) fun f z => z.sbIdle f.cur.elem b.toNat 0 4
  else
    command s t [a] [a] .copy (fun f => copyTrap s f k.1 k.2)
      (fun _ q =>
        let q1 := { q with sb := b.toNat, space := spaceCode k.2, addr := Lanes.fill k.1, data := v }
        { q1 with parts := if k.2 = 2 then [] else s.localParts { q1 with guard := Lanes.fill true } })
      (fun _ x => x.sbStart b.toNat) fun _ _ => id

/-- `SBWAIT` (R249). -/
def execSbwait (t : BitVec 6) (d : BitVec 5) (a : BitVec 5) (s : State) : Host.Outcome State Fault Refusal :=
  instant s t d [a] (fun _ => none)
    (fun f => f.writeDest f.g d (Lanes.ofFn fun i => Table.get f.el.sbStat i.val)) fun _ => id

/-- `SBTEST` (R249). -/
def execSbtest (t : BitVec 6) (d : BitVec 5) (s : State) : Host.Outcome State Fault Refusal :=
  instant s t d [] (fun _ => none)
    (fun f => f.writeDest f.g d (Lanes.ofFn fun i => bit (!f.el.sbIsBusy i.val))) fun _ => id

/-- `GSEND_ENT0` (R264). -/
def execGsendEnt0 (t : BitVec 6) (d : BitVec 5) (a : BitVec 5) (b : BitVec 5) (s : State) : Host.Outcome State Fault Refusal :=
  gsendFire s t d a b 0

/-- `GSEND_ENT1` (R264). -/
def execGsendEnt1 (t : BitVec 6) (d : BitVec 5) (a : BitVec 5) (b : BitVec 5) (s : State) : Host.Outcome State Fault Refusal :=
  gsendFire s t d a b 1

/-- `GSEND_ENT2` (R264). -/
def execGsendEnt2 (t : BitVec 6) (d : BitVec 5) (a : BitVec 5) (b : BitVec 5) (s : State) : Host.Outcome State Fault Refusal :=
  gsendFire s t d a b 2

/-- `GSEND_ENT3` (R264). -/
def execGsendEnt3 (t : BitVec 6) (d : BitVec 5) (a : BitVec 5) (b : BitVec 5) (s : State) : Host.Outcome State Fault Refusal :=
  gsendFire s t d a b 3

/-- `RMWCFG` (R263). -/
def execRmwcfg (t : BitVec 6) (a : BitVec 5) (b : BitVec 5) (s : State) : Host.Outcome State Fault Refusal :=
  instant s t 15 [a] (fun _ => none) (fun _ => id) fun f z =>
    z.modTile f.cur.elem.tile fun x => { x with
      ents := Table.set x.ents b.toNat (bits (f.src a).val.l0.toNat 0 4, (f.src a).val.l1.toNat) }

end Sys2Proof.Machine
end

