-- ==== Sys2Proof/Machine/Hash.lean ====
section
/-!
DEFINITION. SHA3-256, as the seal engine, the loader, the reuse table and the boot ROM use it (R281, R342, R403, R448), and the
SHAKE functions that ML-DSA-44 uses. The spec names the functions and leaves their definition to FIPS 202 (log entry 13).
-/

namespace Sys2Proof.Machine

/-- The sponge's 1,600 bits as 25 lanes, the lane of column x and row y at place x + 5y. -/
abbrev Sponge := List (BitVec 64)

/-- The lane of a column and a row, each taken modulo 5. -/
def Sponge.lane (a : Sponge) (x y : Nat) : BitVec 64 := a.getD (x % 5 + 5 * (y % 5)) 0

/-- A sponge whose lane in column x and row y is `f x y`. -/
def Sponge.make (f : Nat → Nat → BitVec 64) : Sponge :=
  (List.range 5).flatMap fun y => (List.range 5).map fun x => f x y

/-- The step of the shift register that makes the round constants. -/
def lfsrStep (r : Nat) : Nat := if 128 ≤ r then (2 * r) ^^^ 0x171 else 2 * r

/-- The constant that the register makes from state r: its j-th output stands at bit 2^j − 1; and the register after it. -/
def lfsrWord (r : Nat) (n : Nat) : BitVec 64 × Nat :=
  match n with
  | 0 => (0, r)
  | k + 1 =>
    let p := lfsrWord r k
    (if p.2 % 2 = 1 then p.1 ||| (1#64 <<< (2 ^ k - 1)) else p.1, lfsrStep p.2)

/-- The column parities. -/
def Sponge.parity (a : Sponge) (x : Nat) : BitVec 64 := (List.range 5).foldl (fun v y => v ^^^ a.lane x y) 0

/-- The lane at column x and row y moves on along the walk that starts at (1, 0), turned by the triangular numbers, and the walk goes
on with the place it moved to. -/
def Sponge.walk (a b : Sponge) (x y t fuel : Nat) : Sponge :=
  match fuel with
  | 0 => b
  | k + 1 =>
    let z := (2 * x + 3 * y) % 5
    a.walk (b.set (y + 5 * z) ((a.lane x y).rotateLeft ((t + 1) * (t + 2) / 2 % 64))) y z (t + 1) k

/-- One round, with its constant. -/
def Sponge.turn (a : Sponge) (rc : BitVec 64) : Sponge :=
  let par := (List.range 5).map a.parity
  let mixed := Sponge.make fun x y => a.lane x y ^^^ par.getD ((x + 4) % 5) 0 ^^^ (par.getD ((x + 1) % 5) 0).rotateLeft 1
  let moved := mixed.walk mixed 1 0 0 24
  Sponge.make fun x y =>
    let v := moved.lane x y ^^^ (moved.lane (x + 2) y &&& ~~~(moved.lane (x + 1) y))
    if x + y = 0 then v ^^^ rc else v

/-- Rounds of the permutation, with the register that makes their constants. -/
def Sponge.turns (a : Sponge) (r n : Nat) : Sponge :=
  match n with
  | 0 => a
  | k + 1 => let c := lfsrWord r 7; (a.turn c.1).turns c.2 k

/-- A block of `rate` bytes taken into the sponge: bytes 8n to 8n + 7 into the n-th lane. -/
def Sponge.take (a : Sponge) (rate : Nat) (bs : List Byte) : Sponge :=
  let word := fun (n : Nat) => BitVec.ofNat 64 (numOf ((bs.drop (8 * n)).take 8))
  (Sponge.make fun x y => if x + 5 * y < rate / 8 then a.lane x y ^^^ word (x + 5 * y) else a.lane x y).turns 1 24

/-- The bytes that pad a message of a length to whole blocks of `rate` bytes; `dom` are the bits that tell the functions apart, with the
first of the padding. -/
def spongePad (rate dom len : Nat) : List Byte :=
  match rate - 1 - len % rate with
  | 0 => [BitVec.ofNat 8 (dom + 128)]
  | k + 1 => BitVec.ofNat 8 dom :: (List.replicate k (0 : Byte) ++ [0x80])

/-- `n` blocks of bytes taken one after another. -/
def Sponge.takeAll (a : Sponge) (rate : Nat) (bs : List Byte) (n : Nat) : Sponge :=
  match n with
  | 0 => a
  | k + 1 => (a.take rate (bs.take rate)).takeAll rate (bs.drop rate) k

/-- The sponge after a whole message. -/
def Sponge.ofMessage (rate dom : Nat) (bs : List Byte) : Sponge :=
  Sponge.takeAll (Sponge.make fun _ _ => 0) rate (bs ++ spongePad rate dom bs.length) (bs.length / rate + 1)

/-- The first `n` lanes, as a number. -/
def Sponge.low (a : Sponge) (n : Nat) : Nat := (List.range n).foldr (fun k v => (a.lane k (k / 5)).toNat + v * 2 ^ 64) 0

/-- SHA3-256 of bytes, as a number whose byte j is digest byte j. -/
def sha3 (bs : List Byte) : Nat := (Sponge.ofMessage 136 6 bs).low 4

/-- Blocks of output of a sponge. -/
def Sponge.give (a : Sponge) (rate n : Nat) : List Byte :=
  match n with
  | 0 => []
  | k + 1 => bytesOf rate (a.low (rate / 8)) ++ (a.turns 1 24).give rate k

/-- SHAKE128 output of a message, in blocks of 168 bytes. -/
def shake128 (bs : List Byte) (blocks : Nat) : List Byte := (Sponge.ofMessage 168 31 bs).give 168 blocks

/-- SHAKE256 output of a message, in blocks of 136 bytes. -/
def shake256 (bs : List Byte) (blocks : Nat) : List Byte := (Sponge.ofMessage 136 31 bs).give 136 blocks

end Sys2Proof.Machine
end

