-- ==== Sys2Proof/Machine/Matrix.lean ====
section
/-!
DEFINITION. The matrix elements (R265 to R273, R309 to R319), the scout and the threshold unit (R346, R347, R399).
-/

namespace Sys2Proof.Machine

/-! ## Formats -/

/-- A row of Table 12.9. -/
structure MFmt where
  kt : Nat
  g : Nat
  /-- The width of an element in the dense image. -/
  w : Nat
  /-- Data tokens of a dense image. -/
  data : Nat
  scaled : Bool
  /-- Metadata tokens of a compressed A burst. -/
  info : Nat
  /-- The products are exact integers (R167). -/
  int : Bool := false
  deriving DecidableEq, Repr, Inhabited

/-- The rows of Table 12.9. -/
def mfmt (c : Nat) : MFmt :=
  match c with
  | 1 | 2 => ⟨16, 1, 16, 16, false, 1, false⟩
  | 3 | 4 => ⟨32, 2, 8, 16, false, 2, false⟩
  | 5 => ⟨32, 2, 8, 16, false, 2, true⟩
  | 6 | 7 => ⟨32, 2, 8, 16, true, 2, false⟩
  | 8 | 9 => ⟨64, 4, 6, 24, true, 4, false⟩
  | 10 => ⟨64, 4, 4, 16, true, 4, false⟩
  | _ => ⟨64, 4, 4, 16, false, 4, true⟩

/-- A two's-complement integer as an exact value. -/
def intX (v w : Nat) : XVal :=
  let x : Int := if 2 ^ (w - 1) ≤ v then (v : Int) - 2 ^ w else v
  .dy (decide (x < 0)) x.natAbs 0

/-- The value of an element of a format (R150 to R156). -/
def mval (c v : Nat) : XVal :=
  match c with
  | 1 => Fmt.bf16.value v
  | 2 => Fmt.f16.value v
  | 3 | 6 => Fmt.e4m3.value v
  | 4 | 7 => Fmt.e5m2.value v
  | 5 => intX v 8
  | 8 => Fmt.e3m2.value v
  | 9 => Fmt.e2m3.value v
  | 10 => Fmt.e2m1.value v
  | _ => intX v 4

/-- A value scaled by an e8m0 scale (R154, R155). -/
def scaleX (x : XVal) (sc : Nat) : XVal := if sc = 255 then .nan else x.scale ((sc : Int) - 127)

/-- The dense image of data tokens (R266). -/
def imageOf (l : List Tok) : Nat := l.foldr (fun t a => natOfVec t.data + a * 2 ^ 256) 0

/-- An operand of a tile: its scale token, its metadata and its data (R266, R269). -/
structure Burst where
  scales : Nat
  info : Nat
  image : Nat
  deriving DecidableEq, Repr, Inhabited

/-- The parts of a burst (R266). -/
def Burst.ofToks (f : MFmt) (sparse : Bool) (l : List Tok) : Burst :=
  let l1 := if f.scaled then l.tail else l
  let m := if sparse then f.info else 0
  { scales := if f.scaled then imageOf (l.take 1) else 0, info := imageOf (l1.take m), image := imageOf (l1.drop m) }

/-- The tokens of a burst of an operand (R270). -/
def MFmt.size (f : MFmt) (sparse : Bool) : Nat :=
  (if f.scaled then 1 else 0) + (if sparse then f.info + f.data / 2 else f.data)

/-- The scale of a row of A or a column of B at a k. -/
def MFmt.scaleAt (f : MFmt) (b : Burst) (r k : Nat) : Nat :=
  if f.scaled then bits b.scales (8 * (f.kt / 32 * r + k / 32)) 8 else 127

/-- The scaled value of A[r][k]: none, one or two kept elements (R266, R269). -/
def aVals (c : Nat) (sparse : Bool) (b : Burst) (r k : Nat) : List XVal :=
  let f := mfmt c
  if sparse then
    [0, 1].filterMap fun i =>
      let v := 2 * (k / 4) + i
      if bits b.info (f.kt * r + 2 * v) 2 = k % 4 then
        some (scaleX (mval c (bits b.image (f.w * (f.kt / 2 * r + v)) f.w)) (f.scaleAt b r k))
      else none
  else [scaleX (mval c (bits b.image (f.w * (f.kt * r + k)) f.w)) (f.scaleAt b r k)]

/-- The scaled value of B[k][n]. -/
def bVal (c : Nat) (b : Burst) (k n : Nat) : XVal :=
  scaleX (mval c (bits b.image ((mfmt c).w * (16 * k + n)) (mfmt c).w)) ((mfmt c).scaleAt b n k)

/-! ## Accumulation -/

/-- The exact product of two scaled values; an integer product of zero is the integer 0, without a sign (R167). -/
def MFmt.mul (f : MFmt) (p : XVal × XVal) : XVal × Flags :=
  let r := mulX p.1 p.2
  if f.int && r.1.isZero then (.dy false 0 0, r.2) else r

/-- One group of products added to an entry (R167): the new bits and the flags. An entry that is infinite stays so (R315, log entry
49). -/
def accGroup (f : MFmt) (acc : Word × Flags) (ps : List (XVal × XVal)) : Word × Flags :=
  if ps.isEmpty then acc
  else
    let prods := ps.map f.mul
    let sum := sumX 0 (prods.map (·.1))
    let bad := ps.any fun p => p.1.isNan || p.2.isNan
    let fl : Flags := if bad then 0 else prods.foldl (fun a p => a ||| p.2) sum.2
    if (f32Of acc.1).isInf then (acc.1, acc.2 ||| fl)
    else
      let r := roundWith Fmt.f32 0 (sumX 0 [f32Of acc.1, sum.1])
      (wordOf r.1, acc.2 ||| fl ||| r.2)

/-- The groups of a tile, added to an entry in ascending k (R167): the products at each k come from `pair`; `hit` gives the bits that a
soft error changes in the running sum after a group (R311). -/
def accTile (f : MFmt) (hit : Nat → Word) (pair : Nat → List (XVal × XVal)) (acc : Word × Flags) : Word × Flags :=
  (List.range (f.kt / f.g)).foldl (fun a j =>
    let r := accGroup f a ((List.range f.g).flatMap fun i => pair (f.g * j + i))
    (r.1 ^^^ hit j, r.2)) acc

/-- An entry of a vector or array of an accumulator. -/
def entry (t : Table Word) (n : Nat) : Word := Table.get t n

/-- A table of the values `f 0` … `f (n - 1)`, with their flags. -/
def tabulate (n : Nat) (f : Nat → Word × Flags) : Table Word × Flags :=
  (List.range n).foldr (fun i a => let v := f i; ((i, v.1) :: a.1, v.2 ||| a.2)) ([], 0)

/-- The exact sum of scaled values (R273). A sum that is a NaN only because it holds both infinities is a NaN operand, and raises no nv:
the spec is silent there (DESIGN CHOICE, log entry 47). -/
def sumVals (l : List XVal) : XVal := (sumX 0 l).1

/-- One tile of an operation (R268, R273): the entries, and with the checksum bit rc and cc; `hit` gives the soft errors of a cell
(R311). -/
def Acc.tile (x : Acc) (c : Nat) (sparse : Bool) (hit : Nat → Nat → Word) (a b : Burst) : Acc × Flags :=
  let f := mfmt c
  let prods := fun (xs : List XVal) (y : XVal) => xs.map fun v => (v, y)
  let e := tabulate 256 fun i => accTile f (hit i) (fun k => prods (aVals c sparse a (i / 16) k) (bVal c b k (i % 16))) (entry x.ent i, 0)
  if x.chk then
    let rc := tabulate 16 fun n => accTile f (fun _ => 0) (fun k =>
      let col := (List.range 16).flatMap fun r => aVals c sparse a r k
      if col.isEmpty then [] else [(sumVals col, bVal c b k n)]) (entry x.rc n, 0)
    let cc := tabulate 16 fun r => accTile f (fun _ => 0) (fun k =>
      prods (aVals c sparse a r k) (sumVals ((List.range 16).map fun n => bVal c b k n))) (entry x.cc r, 0)
    ({ x with ent := e.1, rc := rc.1, cc := cc.1 }, e.2 ||| rc.2 ||| cc.2)
  else ({ x with ent := e.1 }, e.2)

/-- rc and cc made from the entries (R273). -/
def Acc.checksums (x : Acc) : Acc × Flags :=
  let sum := fun (l : List Nat) =>
    let r := roundWith Fmt.f32 0 (sumX 0 (l.map fun i => f32Of (entry x.ent i)))
    (wordOf r.1, r.2)
  let rc := tabulate 16 fun n => sum ((List.range 16).map fun r => 16 * r + n)
  let cc := tabulate 16 fun r => sum ((List.range 16).map fun n => 16 * r + n)
  ({ x with rc := rc.1, cc := cc.1 }, rc.2 ||| cc.2)

/-- `macl.clr` (R271). -/
def Acc.clear (x : Acc) : Acc := { x with ent := [], poison := .clean, rc := [], cc := [] }

/-- The largest score of a key tile (R346): the scores are made from +0, and ranked as `fmax` ranks. -/
def scoutBest (q k : Burst) : Word :=
  let s := (List.range 256).map fun i =>
    (accTile (mfmt 10) (fun _ => 0) (fun j => (aVals 10 false q (i / 16) j).map fun v => (v, bVal 10 k j (i % 16))) (0, 0)).1
  match s with
  | [] => 0
  | w :: r => r.foldl (fun a v => wordOf (fminmax Fmt.f32 true a.toNat v.toNat)) w

/-! ## The intake -/

/-- An accumulator. -/
def Elem.acc (x : Elem) (n : Nat) : Acc := Table.get x.acs n

/-- The element with an accumulator replaced. -/
def Elem.setAcc (x : Elem) (n : Nat) (a : Acc) : Elem := { x with acs := Table.set x.acs n a }

/-- Flags raised by an M-element go into bank 0 (R163). -/
def Elem.raise0 (x : Elem) (fl : Flags) : Elem := x.modBank 0 fun k => { k with flags := k.flags ||| fl }

/-- The operation compresses A (R269). -/
def Intake.sparse (i : Intake) : Bool := i.kind == .mmas

/-- The tokens that each burst of an operand should hold (R270, R271, R346). -/
def Intake.asize (i : Intake) : Nat := if i.kind = .macl then 32 else (mfmt i.fmt).size i.sparse
def Intake.bsize (i : Intake) : Nat := if i.kind = .macl then 0 else (mfmt i.fmt).size false

/-- One token taken into a burst (R270): it ends at its tail or at its full size. -/
def takeTok (cur : List Tok) (size : Nat) (t : Tok) : List Tok × Bool := (cur ++ [t], t.tail || cur.length + 1 == size)

/-- What a burst that is taken leaves of poison in its accumulator, with its cause (R270, R394): that of its tokens, and poison where it is
malformed. -/
def burstBad (size : Nat) (l : List Tok) : Poison :=
  let p := l.foldl (fun p t => p.join t.poison) Poison.clean
  if l.isEmpty || (l.getLast?.any fun t => t.tail == (l.length == size)) then p else p.join .data

/-- The next operand token of A, and then of B, where their queues hold one. -/
def Intake.takeA (i : Intake) (x : Elem) : Intake × Elem :=
  match x.head i.aq with
  | some t =>
    if i.adone then (i, x)
    else
      let r := takeTok i.acur i.asize t
      ({ i with acur := r.1, adone := r.2 }, x.pop i.aq)
  | none => (i, x)
def Intake.takeB (i : Intake) (x : Elem) : Intake × Elem :=
  match x.head i.bq with
  | some t =>
    if i.bdone || i.kind == .macl || (i.kind == .scout && !i.adone) then (i, x)
    else
      let r := takeTok i.bcur i.bsize t
      ({ i with bcur := r.1, bdone := r.2 }, x.pop i.bq)
  | none => (i, x)

/-- A tile whose bursts are both taken is put away, with the poison that they leave; a scout keeps its query (R346). -/
def Intake.close (i : Intake) : Intake :=
  if i.adone && (i.bdone || i.kind == .macl) then
    { i with
      todo := i.todo.tail
      tiles := i.tiles ++ [(i.acur, i.bcur)]
      bad := (i.bad.join (burstBad i.asize i.acur)).join (burstBad i.bsize i.bcur)
      acur := if i.kind = .scout then i.acur else []
      adone := i.kind == .scout
      bcur := []
      bdone := false }
  else i

/-- `INTAKE_BURST` (R270): the intake takes what its queues hold of the bursts of the tile under way. -/
def execIntakeBurst (elem : ElemId) (s : State) : Host.Outcome State Fault Refusal :=
  let x := s.elem elem
  match x.intake with
  | none => go s
  | some i =>
    if i.todo.isEmpty then go s
    else
      let a := i.takeA x
      let b := a.1.takeB a.2
      go (s.setElem elem { b.2 with intake := some b.1.close })

/-- A burst filled to its size: what a malformed burst lacks is a free value (R270). -/
def padBurst (l : List Tok) (size at0 : Nat) : List Tok :=
  l ++ (List.range (size - l.length)).map fun k => { data := vecOfNat (Config.missingToken (at0 + l.length + k)) }

/-- What an operation writes (R268, R269, R271, R346). -/
def Intake.result (i : Intake) (x : Acc) (at0 : Nat) : Acc × Flags :=
  let f := mfmt i.fmt
  let hit := fun (n j cell step : Nat) => ((i.upsets.filter fun u => u.1 == cell && u.2.1 == n / f.g * j + step).map (·.2.2)).foldl
    (· ^^^ ·) (0 : Word)
  let tile := fun (p : List Tok × List Tok) =>
    (Burst.ofToks f i.sparse (padBurst p.1 i.asize at0), Burst.ofToks f false (padBurst p.2 i.bsize (at0 + 32)))
  match i.kind with
  | .macl =>
    let l := padBurst ((i.tiles.head?.map (·.1)).getD []) 32 at0
    let e := tabulate 256 fun n => (((l.getD (n / 8) {}).data.get (Fin.ofNat 8 (n % 8))), 0)
    let y := { x with ent := e.1, poison := i.bad }
    if x.chk then y.checksums else (y, 0)
  | .scout =>
    let m := i.tiles.map fun p => scoutBest (tile p).1 (tile p).2
    ({ x with ent := (tabulate 256 fun n => (m.getD n 0xFF800000, 0)).1, poison := i.bad, chk := false, rc := [], cc := [] }, 0)
  | _ =>
    let r := (i.tiles.mapIdx fun j p => (j, p)).foldl (fun (a : Acc × Flags) p =>
      let t := tile p.2
      let y := a.1.tile i.fmt i.sparse (hit f.kt p.1) t.1 t.2
      (y.1, a.2 ||| y.2)) (x, 0)
    ({ r.1 with poison := x.poison.join i.bad }, r.2)

/-- The injected flip (R312): after the write of an operation that writes the named accumulator. -/
def Elem.inject (x : Elem) (i : Intake) : Elem :=
  let w := x.injw.toNat
  let n := 16 * bits w 2 4 + bits w 6 4
  if bits w 0 1 = 1 ∧ bits w 1 1 = i.acc ∧ i.kind ≠ .scout then
    let a := x.acc i.acc
    { x.setAcc i.acc { a with ent := Table.set a.ent n (entry a.ent n ^^^ (1#32 <<< bits w 10 5)) } with
      injw := BitVec.ofNat 32 (setBits (setBits w 0 1 0) 15 1 1) }
  else x

/-- `ACCUMULATOR_WRITE` (R309, R310): an operation whose bursts are all taken writes its accumulator in one step, raises its
flags, and is performed. -/
def execAccumulatorWrite (elem : ElemId) (s : State) : Host.Outcome State Fault Refusal :=
  let x := s.elem elem
  match x.intake with
  | none => go s
  | some i =>
    if !i.todo.isEmpty then go s
    else
      let r := i.result (x.acc i.acc) s.fresh
      let y := ((({ x with intake := none }.setAcc i.acc r.1).raise0 r.2).inject i)
      let s1 := { s.setElem elem y with fresh := s.fresh + 64 }
      match s1.req? i.req with
      | some q => go (s1.perform q)
      | none => go s1

/-- The fire of an operation of the intake (R265, R268): it reads no operand data and takes no token. An `mmam` that takes no tile
is performed at its fire. -/
def matrixFire (s : State) (t : BitVec 6) (kind : MatKind) (acc fmt : Nat) (named : List (BitVec 5)) :
    Host.Outcome State Fault Refusal :=
  let f := fireOf s t
  let nk := f.el.nk
  let todo := match kind with
    | .macl => [0]
    | .mmam => (List.range nk).filter fun j => f.el.kmask.getLsbD j
    | _ => List.range nk
  let q := fun (n : Nat) => (match named[n]? with
    | some c => c.toNat - 16
    | none => 0)
  if todo.isEmpty then
    fire s f [] [] none (orderIn f named)
      (fun x => (orderOut f 15).foldl (fun y p => y.pushOut p (.tok (f.orderTok (orderIn f named)))) x) id id
  else
    command s t named [] .matrix (fun _ => none) (fun _ q => q)
      (fun _ x => { x with intake := some { req := s.nextId, kind := kind, acc := acc, fmt := fmt, aq := q 0, bq := q 1, nk := nk
                                            kmask := f.el.kmask, todo := todo } }) fun _ _ => id

/-! ## Drains -/

/-- The groups of a prune setting: kept and group columns (Table 12.10). -/
def pruneOf (p : Nat) : Option (Nat × Nat) :=
  match p with
  | 1 | 2 => some (2, 4)
  | 3 => some (1, 4)
  | 4 => some (2, 8)
  | 5 => some (4, 8)
  | _ => none

/-- The rank of an entry: its magnitude, a NaN above every number (R273). -/
def magKey (w : Word) : Nat := if (f32Of w).isNan then 2 ^ 32 else w.toNat % 2 ^ 31

/-- Column n of a row is kept (R273): fewer than N columns of its group rank before it. -/
def keptCol (row : Nat → Word) (p n : Nat) : Bool :=
  match pruneOf p with
  | none => true
  | some (k, m) =>
    let cols := (List.range m).map (n / m * m + ·)
    decide ((cols.filter fun c => decide (magKey (row n) < magKey (row c)) ||
      (magKey (row n) == magKey (row c) && decide (c < n))).length < k)

/-- The format of a drain. -/
def Drain.fm (d : Drain) : Fmt := if d.fmt = 1 then Fmt.bf16 else Fmt.f16

/-- The drain is compressed (Table 12.10, code 2). -/
def Drain.packed (d : Drain) : Bool := d.prune == 2 && d.fmt != 0

/-- The tokens of the array, and of the whole drain (R272, R273). -/
def Drain.arrayToks (d : Drain) : Nat := if d.fmt = 0 then 32 else if d.packed then 9 else 16
def Drain.total (d : Drain) (x : Acc) : Nat := d.arrayToks + (if x.chk then 4 else 0)

/-- Row r of an accumulator after pruning. -/
def Drain.row (d : Drain) (x : Acc) (r n : Nat) : Word :=
  let raw := fun c => entry x.ent (16 * r + c)
  if keptCol raw d.prune.toNat n then raw n else 0

/-- The kept columns of a row, ascending. -/
def Drain.kept (d : Drain) (x : Acc) (r : Nat) : List Nat :=
  (List.range 16).filter fun n => keptCol (fun c => entry x.ent (16 * r + c)) d.prune.toNat n

/-- 16-bit conversions side by side, with their flags. -/
def halvesRM (f : Fmt) (rm : BitVec 2) (l : List Word) : Nat × Flags :=
  l.foldr (fun w a => let r := roundTo f (f32Of w) rm; (r.1 + a.1 * 65536, r.2 ||| a.2)) (0, 0)

/-- Eight words side by side. -/
def words8 (f : Nat → Word) : Nat := (List.range 8).foldr (fun i a => (f i).toNat + a * 2 ^ 32) 0

/-- The data of token k of a drain, with the flags of its conversion (R272, R318). -/
def Drain.data (d : Drain) (x : Acc) (k : Nat) : Nat × Flags :=
  if d.arrayToks ≤ k then
    let j := k - d.arrayToks
    (words8 fun i => entry (if j < 2 then x.rc else x.cc) (8 * (j % 2) + i), 0)
  else if d.fmt = 0 then (words8 fun i => d.row x (k / 2) (8 * (k % 2) + i), 0)
  else if d.packed then
    if k = 0 then
      ((List.range 16).foldr (fun r a => ((d.kept x r).foldr (fun c b => c % 4 + b * 4) 0) + a * 2 ^ 16) 0, 0)
    else halvesRM d.fm d.rm ([2 * (k - 1), 2 * (k - 1) + 1].flatMap fun r => (d.kept x r).map fun c => entry x.ent (16 * r + c))
  else halvesRM d.fm d.rm ((List.range 16).map fun n => d.row x k n)

/-- `DRAIN_TOKEN` (R272): the drain emits its next token under its class; after the last it clears or keeps the accumulator,
and its flags go into bank 0 (R163). -/
def execDrainToken (elem : ElemId) (s : State) : Host.Outcome State Fault Refusal :=
  let x := s.elem elem
  match x.drain with
  | none => go s
  | some d =>
    match s.req? d.req with
    | none => go (s.setElem elem { x with drain := none })
    | some q =>
      let a := x.acc d.acc
      let v := d.data a d.sent
      let last := d.sent + 1 == d.total a
      let tok : Tok := { data := vecOfNat v.1, tag := d.otag, head := d.sent == 0, tail := last
                         poison := a.poison, reqtag := q.reqtag, ctxno := q.ctxno, itertag := q.itertag }
      match s.enterClass elem.tile d.cls { tok := tok, skind := 1, sid := elem.pos, src := elem.tile } with
      | none => go s
      | some s1 =>
        if last then
          go ((s1.modElem elem fun y =>
            ({ (if d.keep then y else y.setAcc d.acc (y.acc d.acc).clear) with drain := none }).raise0 (d.flags ||| v.2)).perform q)
        else go (s1.modElem elem fun y => { y with drain := some { d with sent := d.sent + 1, flags := d.flags ||| v.2 } })

/-- The fire of a drain (R272): the steering token names the class and keep. -/
def drainFire (s : State) (t : BitVec 6) (acc fmt : Nat) (rm : BitVec 2) (a : BitVec 5) : Host.Outcome State Fault Refusal :=
  command s t [a] [a] .drain (fun _ => none) (fun _ q => q)
    (fun f x =>
      let w := (f.src a).val.l0.toNat
      { x with drain := some { req := s.nextId, acc := acc, fmt := fmt, rm := rm, cls := bits w 0 6, keep := bits w 6 1 == 1
                               prune := (x.acc acc).prune, otag := f.tr.otag } }) fun _ _ => id

/-! ## The threshold unit -/

/-- The code of a poison in a threshold request, and the poison of a code. -/
def Poison.code (p : Poison) : Nat :=
  match p with
  | .clean => 0
  | .data => 1
  | .link => 2
def Poison.ofCode (n : Nat) : Poison :=
  match n with
  | 0 => .clean
  | 1 => .data
  | _ => .link

/-- The `thresh` fire (R347): the first nk entries of the accumulator go to the block's unit, and d is pending. -/
def threshFire (s : State) (t : BitVec 6) (d a : BitVec 5) (acc : Nat) (top : Bool) : Host.Outcome State Fault Refusal :=
  let f := fireOf s t
  let x := f.el.acc acc
  let q := { f.req s.nextId [a] d (.thresh top acc) with
    off := (f.src a).val.l0, prog := f.el.nk, st := x.poison.code, stage := .sent
    blk := (List.range f.el.nk).foldr (fun i b => (entry x.ent i).toNat + b * 2 ^ 32) 0 }
  fire s f [a] [f.src a] none (popsOf [a] ++ orderIn f [a]) (f.reserve s.nextId d false) id (fun z => z.send q)

/-- A score of a threshold request. -/
def Req.score (r : Req) (j : Nat) : Word := wordOf (bits r.blk (32 * j) 32)

/-- The order of scores: a NaN above every number, −0 equal to +0 (R347). -/
def scoreBefore (a b : Word) : Bool :=
  if (f32Of b).isNan then false else if (f32Of a).isNan then true else fcmp a b == some 1

/-- Whether tile j is kept (R347). -/
def Req.keeps (r : Req) (top : Bool) (j : Nat) : Bool :=
  if top then
    let c := min (r.off.toNat % 128) r.prog
    decide (((List.range r.prog).filter fun i => scoreBefore (r.score i) (r.score j) ||
      (!scoreBefore (r.score j) (r.score i) && decide (i < j))).length < c)
  else (f32Of (r.score j)).isNan || (f32Of r.off).isNan || fcmp (r.score j) r.off != some (-1)

/-- The mask of a threshold request (R347). -/
def Req.maskOf (r : Req) (top : Bool) : Nat :=
  (List.range r.prog).foldr (fun j a => (if r.keeps top j then 2 ^ j else 0) + a) 0

/-- `THRESHOLD_MASK` (R347, R399): the block's unit answers its oldest request: mk and d are written. -/
def execThresholdMask (elem : ElemId) (s : State) : Host.Outcome State Fault Refusal :=
  let mine := fun (r : Req) => match r.op with
    | .thresh _ _ => r.elem.tile.block == elem.tile.block
    | _ => false
  match s.reqs.find? mine with
  | none => go s
  | some r =>
    if r.elem ≠ elem then go s
    else
      let top := match r.op with
        | .thresh b _ => b
        | _ => false
      let m := r.maskOf top
      let n := ((List.range 64).filter fun j => m.testBit j).length
      let q := { r with
        result := ⟨wordOf m, wordOf (m / 2 ^ 32), wordOf n, 0, 0, 0, 0, 0⟩
        rpois := Lanes.fill (Poison.ofCode r.st) }
      let s1 := (s.dropReq r.id).modElem elem fun x =>
        { x.fillOrder r with kmask := if r.st ≠ 0 then BitVec.allOnes 64 else BitVec.ofNat 64 m }
      go (s1.modElem elem fun x => if (x.bank r.bank).epoch = r.epoch then x.modBank r.bank fun k => k.respond q else x)

/-! ## Soft errors -/

/-- Operand tokens with bits changed in lane `k % 8` of token `k / 8`, where there is one. -/
def flipToks (k : Nat) (w : Word) (l : List Tok) : List Tok :=
  l.mapIdx fun n t =>
    if n = k / 8 then { t with data := setLane t.data (k % 8) (t.data.get (Fin.ofNat 8 (k % 8)) ^^^ w) } else t

/-- The intake with bits changed in operand lane `k`, counted through A and B of the tile under way and of the tiles taken (R311). -/
def Intake.flip (i : Intake) (k : Nat) (w : Word) : Intake :=
  let at0 := 8 * i.acur.length
  let at1 := at0 + 8 * i.bcur.length
  let go := i.tiles.foldl (fun (a : List (List Tok × List Tok) × Nat) p =>
    let b := a.2 + 8 * p.1.length
    (a.1 ++ [(if a.2 ≤ k then flipToks (k - a.2) w p.1 else p.1, if b ≤ k then flipToks (k - b) w p.2 else p.2)],
      b + 8 * p.2.length)) ([], at1)
  { i with
    acur := flipToks k w i.acur
    bcur := if at0 ≤ k then flipToks (k - at0) w i.bcur else i.bcur
    tiles := go.1 }

/-- `M_ELEMENT_SOFT_ERROR` (R311): bits of an M-element's storage change without poison: entries of ac0 or ac1 (0, 1), rc (2, 3),
cc (4, 5), nk (6), mk (7), the latches that hold the operands under way (8), or a cell's running sum (9: cell `index % 256`, after group
`index / 256` of the operation). -/
def execMElementSoftError (elem : ElemId) (what index : Nat) (flip : BitVec 64) (s : State) : Host.Outcome State Fault Refusal :=
  let w : Word := flip.extractLsb' 0 32
  let x := s.elem elem
  let hit := fun (t : Table Word) => Table.set t index (entry t index ^^^ w)
  let a := x.acc (what % 2)
  go (s.setElem elem (match what with
    | 0 | 1 => x.setAcc (what % 2) { a with ent := hit a.ent }
    | 2 | 3 => x.setAcc (what % 2) { a with rc := hit a.rc }
    | 4 | 5 => x.setAcc (what % 2) { a with cc := hit a.cc }
    | 6 => { x with nk := ((x.nk - 1) ^^^ (flip.toNat % 64)) + 1 }
    | 7 => { x with kmask := x.kmask ^^^ flip }
    | 8 => { x with intake := x.intake.map fun i => i.flip index w }
    | 9 => { x with intake := x.intake.map fun i => { i with upsets := i.upsets ++ [(index % 256, index / 256, w)] } }
    | _ => x))

/-! ## The instructions -/

/-- `MMA` (R268). -/
def execMma (t : BitVec 6) (n : BitVec 1) (a : BitVec 5) (b : BitVec 5) (f : BitVec 5) (s : State) : Host.Outcome State Fault Refusal :=
  matrixFire s t .mma n.toNat f.toNat [a, b]

/-- `MMAM` (R268). -/
def execMmam (t : BitVec 6) (n : BitVec 1) (a : BitVec 5) (b : BitVec 5) (f : BitVec 5) (s : State) : Host.Outcome State Fault Refusal :=
  matrixFire s t .mmam n.toNat f.toNat [a, b]

/-- `MMAS` (R269). -/
def execMmas (t : BitVec 6) (n : BitVec 1) (a : BitVec 5) (b : BitVec 5) (f : BitVec 5) (s : State) : Host.Outcome State Fault Refusal :=
  matrixFire s t .mmas n.toNat f.toNat [a, b]

/-- `MACL_CLR` (R271). -/
def execMaclClr (t : BitVec 6) (n : BitVec 1) (s : State) : Host.Outcome State Fault Refusal :=
  instant s t 15 [] (fun _ => none) (fun _ x => x.setAcc n.toNat (x.acc n.toNat).clear) fun _ => id

/-- `MACL_LD` (R271). -/
def execMaclLd (t : BitVec 6) (n : BitVec 1) (a : BitVec 5) (s : State) : Host.Outcome State Fault Refusal :=
  matrixFire s t .macl n.toNat 0 [a]

/-- `MLD` (R271). -/
def execMld (t : BitVec 6) (a : BitVec 5) (s : State) : Host.Outcome State Fault Refusal :=
  instant s t 15 [a] (fun _ => none)
    (fun f x => { x with nk := (f.src a).val.l0.toNat % 64 + 1, kmask := (f.src a).val.l2 ++ (f.src a).val.l1 }) fun _ => id

/-- `MDRN_F32` (R272). -/
def execMdrnF32 (t : BitVec 6) (n : BitVec 1) (a : BitVec 5) (s : State) : Host.Outcome State Fault Refusal :=
  drainFire s t n.toNat 0 0 a

/-- `MDRN_BF16` (R272). -/
def execMdrnBf16 (t : BitVec 6) (n : BitVec 1) (a : BitVec 5) (r : BitVec 2) (s : State) : Host.Outcome State Fault Refusal :=
  drainFire s t n.toNat 1 r a

/-- `MDRN_F16` (R272). -/
def execMdrnF16 (t : BitVec 6) (n : BitVec 1) (a : BitVec 5) (r : BitVec 2) (s : State) : Host.Outcome State Fault Refusal :=
  drainFire s t n.toNat 2 r a

/-- `MCHK` (R273). -/
def execMchk (t : BitVec 6) (n : BitVec 1) (a : BitVec 5) (s : State) : Host.Outcome State Fault Refusal :=
  instant s t 15 [a] (fun _ => none)
    (fun f x =>
      let y := x.acc n.toNat
      if (f.src a).val.l0.getLsbD 0 then
        let r := { y with chk := true }.checksums
        (x.setAcc n.toNat r.1).raise0 r.2
      else x.setAcc n.toNat { y with chk := false, rc := [], cc := [] }) fun _ => id

/-- `PRUNE` (R273). -/
def execPrune (t : BitVec 6) (n : BitVec 1) (a : BitVec 5) (s : State) : Host.Outcome State Fault Refusal :=
  instant s t 15 [a] (fun _ => none)
    (fun f x => x.setAcc n.toNat { x.acc n.toNat with prune := (f.src a).val.l0.extractLsb' 0 4 }) fun _ => id

/-- `SCOUT` (R346). -/
def execScout (t : BitVec 6) (n : BitVec 1) (a : BitVec 5) (b : BitVec 5) (s : State) : Host.Outcome State Fault Refusal :=
  matrixFire s t .scout n.toNat 10 [a, b]

/-- `THRESH_ABS` (R347). -/
def execThreshAbs (t : BitVec 6) (d : BitVec 5) (a : BitVec 5) (n : BitVec 1) (s : State) : Host.Outcome State Fault Refusal :=
  threshFire s t d a n.toNat false

/-- `THRESH_TOP` (R347). -/
def execThreshTop (t : BitVec 6) (d : BitVec 5) (a : BitVec 5) (n : BitVec 1) (s : State) : Host.Outcome State Fault Refusal :=
  threshFire s t d a n.toNat true

end Sys2Proof.Machine
end

