-- ==== Sys2Proof/Machine/Task.lean ====
section
/-!
DEFINITION. Task, system and irregular-work instructions, majors 0x36 to 0x3D (R323 to R355), and the units that serve them: range
units, the seal table and its engines, the page selectors, the hash engines and the monitors.
-/

namespace Sys2Proof.Machine

/-! ## Requests that are performed when d is written -/

/-- A request is performed and its d written in one step (Table 16.1). -/
def State.finishReq (s : State) (r : Req) : State :=
  let s1 := (s.modElem r.elem fun x => x.fillOrder r).dropReq r.id
  match r.image with
  | some n => s1.modSpill r.elem n fun m => if m.isOf r.elem r.bank r.epoch then { m with image := m.image.respond r } else m
  | none => s1.modElem r.elem fun x =>
      if (x.bank r.bank).epoch = r.epoch then x.modBank r.bank fun k => k.respond r else x

/-! ## The launch record -/

/-- Fields of a launch record (Table 16.3). -/
def lrImg (n : Nat) : Nat := bits n 0 57
def lrCrec (n : Nat) : Nat := bits n 64 57
def lrCtx (n : Nat) : BitVec 14 := BitVec.ofNat 14 (bits n 128 14)
def lrTag (n : Nat) : BitVec 16 := BitVec.ofNat 16 (bits n 142 16)
def lrPrio (n : Nat) : Nat := bits n 158 3
def lrPure (n : Nat) : Bool := bits n 161 1 == 1
def lrMask (n : Nat) : Nat := bits n 162 8
def lrNext (n : Nat) : Bool := bits n 170 1 == 1
def lrArgs (n : Nat) : Nat := bits n 192 57
def lrDep (n i : Nat) : Nat := bits n (256 + 64 * i) 57

/-- The result of `ptask` (Table 16.6). -/
def taskFacts (r : Region) : Vec :=
  let args := lrArgs r.task.recd
  ⟨wordOf args, wordOf (args / 2 ^ 32), wordOf (lrTag r.task.recd).toNat, wordOf r.ctxno.toNat, wordOf r.variant,
    wordOf ((if r.pure then 1 else 0) + (match r.twin with
      | some (_, first) => if first then 0 else 2
      | none => 0)),
    wordOf (pack [(0, r.rows), (5, r.cols)]), 0⟩

/-- The first `tdone` of a task (R335): the region finishes, and its pending pre-emption requests are withdrawn (R375). A `tdone` that
the slots of a predecessor fire while the successor's load waits is a later one of the predecessor (R331). -/
def Region.finish (r : Region) (user : Word) : Region :=
  if r.done.isSome || r.waits then r
  else { r with done := some user, age := 0, saveAsked := false, fold := none
                life := if r.life == .running || r.life == .folding then .finishing else r.life }

/-- The partner of a region whose task has fired its first `tdone`: its pending pre-emption requests are withdrawn too (R372, R375). -/
def Region.withdraw (r : Region) : Region :=
  { r with saveAsked := false, fold := none, life := if r.life == .folding then .running else r.life }

/-- The state after a `tdone` in a region (R335, R375). -/
def State.finish (s : State) (rid : Nat) (user : Word) : State :=
  let r := s.region rid
  let s1 := s.modRegion rid fun x => x.finish user
  match (if r.done.isSome || r.waits then none else r.twin) with
  | some p => s1.modRegion p.1 Region.withdraw
  | none => s1

/-- A fire that is privileged in handler mode (R325). -/
def notInHandler (f : Fire) : Option Trap := if f.reg.handler then some { cause := 0x10 } else none

/-- A form of `hret` (R345, R423, R325): privileged outside handler mode; the first that fires ends it, in both copies of a
twin pair (R437). -/
def hretFire (s : State) (t : BitVec 6) (form : Nat) : Host.Outcome State Fault Refusal :=
  instant s t 15 [] (fun f => if f.reg.handler then none else some { cause := 0x10 }) (fun _ => id) fun f z =>
    let end1 := fun (w : State) (rid : Nat) => w.modRegion rid fun r =>
      if r.hphase == .on then { r with hphase := .leaving, hage := 0, hform := form } else r
    match f.reg.twin with
    | some p => end1 (end1 z f.rid) p.1
    | none => end1 z f.rid

/-- The bank's current tags after a `tagset` (R338, R134 step 7). -/
def tagsetFire (s : State) (t : BitVec 6) (a : BitVec 5) (set : Word → Bank → Bank) : Host.Outcome State Fault Refusal :=
  instant s t 15 [a] (fun _ => none) (fun _ => id) fun f z =>
    z.modElem f.cur.elem fun x => x.modBank f.b (set (f.src a).val.l0)

/-! ## Range units -/

/-- The range handle (Table 16.7). -/
def rangeHandle (die id : Nat) (gen : BitVec 8) : Nat := pack [(0, id), (8, gen.toNat), (16, die)]

/-- A range of a die's unit. -/
def State.range (s : State) (die id : Nat) : RangeEnt := Table.get (s.die die).ranges id

/-- The state with a range changed. -/
def State.modRange (s : State) (die id : Nat) (f : RangeEnt → RangeEnt) : State :=
  s.modDie die fun d => { d with ranges := Table.modify d.ranges id f }

/-- A stale handle (R340). -/
def State.rangeStale (s : State) (ctxno : BitVec 14) (h : Word) : Bool :=
  let e := s.range (bits h.toNat 16 3) (bits h.toNat 0 8)
  bits h.toNat 19 13 != 0 || !e.live || e.gen.toNat != bits h.toNat 8 8 || e.owner.ctxno != ctxno

/-- The chunk that `rget` takes of a range (R340): its length and what remains. -/
def RangeEnt.chunk (e : RangeEnt) : Nat × Nat :=
  let left := e.stop.toNat - e.next.toNat
  let n := min left (max ((left + 2 * e.cons - 1) / (2 * e.cons)) e.least)
  (n, left - n)

/-- `RANGE_UNIT_REQUEST` (R340): a range unit serves one request as one step. -/
def execRangeUnitRequest (req : Nat) (s : State) : Host.Outcome State Fault Refusal :=
  onReq s req fun r =>
    let v := r.data
    let h := v.l0
    let at0 := (bits h.toNat 16 3, bits h.toNat 0 8)
    let one := fun (n : Nat) => if n = 0 then 1 else n
    if r.stage ≠ .sent then s
    else match r.op with
      | .rset =>
        let die := r.elem.tile.die
        match (List.range 256).find? fun n => !(s.range die n).live with
        | none => s.finishReq { r with result := Lanes.fill 0xFFFFFFFF }
        | some n =>
          (s.modRange die n fun e =>
            { e with live := true, next := v.l0, stop := v.l1, least := one (v.l2.toNat % 65536)
                     cons := one (v.l3.toNat % 65536), owner := ⟨r.ctxno, r.reqtag⟩ }).finishReq
            { r with result := Lanes.fill (wordOf (rangeHandle die n (s.range die n).gen)) }
      | .rget =>
        if s.rangeStale r.ctxno h then s.finishReq { r with result := ⟨0, 0, 0, 1, 0, 0, 0, 0⟩ }
        else
          let e := s.range at0.1 at0.2
          let c := e.chunk
          (s.modRange at0.1 at0.2 fun e => { e with next := e.next + wordOf c.1 }).finishReq
            { r with result := ⟨e.next, wordOf c.1, wordOf c.2, 0, 0, 0, 0, 0⟩ }
      | .rfree =>
        (if s.rangeStale r.ctxno h then s
         else s.modRange at0.1 at0.2 fun e => { e with live := false, gen := e.gen + 1 }).finishReq r
      | _ => s

/-! ## Seals -/

/-- The seal entry of exactly a range, with its number (R341). -/
def State.sealOf (s : State) (space base len : Nat) : Option (Nat × SealEnt) :=
  s.seals.find? fun p => p.2.st != .free && p.2.space == space && p.2.base == base && p.2.len == len

/-- The state with a seal entry replaced. -/
def State.setSeal (s : State) (n : Nat) (e : SealEnt) : State := { s with seals := Table.set s.seals n e }

/-- Every reuse entry that records a seal entry is made dead (R408), the one being inserted too. -/
def State.killReuse (s : State) (n : Nat) : State :=
  let kill := fun (_ : Nat) (e : Reuse) =>
    if (e.st == .live || e.st == .inserting) && e.pairs.any (fun p => p.1 == n) then { e with st := .dead } else e
  { s with dies := Table.mapAll s.dies fun _ d => { d with reuse := Table.mapAll d.reuse kill } }

/-- The unsealed entry that was sealed longest ago (R342). -/
def oldestUnsealed (t : Table SealEnt) : Option Nat :=
  (t.foldl (fun (b : Option (Nat × Nat)) p =>
    if p.2.st == .unsealed && (match b with
      | some c => decide (p.2.order < c.2)
      | none => true) then some (p.1, p.2.order) else b) none).map (·.1)

/-- A seal entry that can be had (R342): a free one, or the least recently sealed unsealed one. -/
def State.freeSeal (s : State) : Option Nat :=
  match (List.range 8192).find? fun n => (Table.get s.seals n).st == .free with
  | some n => some n
  | none => oldestUnsealed s.seals

/-- A seal ends without a digest: d := 0 and q6 := 1 in every guarded lane (R342). -/
def State.sealFails (s : State) (r : Req) : State :=
  s.finishReq { r with result := Lanes.fill 0, rpois := Lanes.fill .data }

/-- A seal ends with the digest of its entry and q6 := 0 (R342). -/
def State.sealEnds (s : State) (r : Req) (d : Vec) : State :=
  s.finishReq { r with result := d, rpois := Lanes.fill .clean }

/-- The range is marked, and waits for the seal engine of the issuing die (R342); the entry keeps its place in the order of sealing. -/
def State.mark (s : State) (r : Req) (n : Nat) (e : SealEnt) : State :=
  let s1 := s.setSeal n { e with st := .hashing }
  (s1.modDie r.elem.tile.die fun d => { d with sealq := d.sealq ++ [r.id] }).putReq { r with started := true, prog := n }

/-- The virtual bytes that a command is still to write, and has checked (R254, R260): those of the token of which a stream has written a
block, and those of the chunks that a copy has checked. -/
def Req.midWrite (r : Req) : List (Nat × Nat) :=
  match r.op with
  | .stream _ => if r.midToken && spaceCode (sdSpc r.blk) == .g then [((sdAddr r.blk r.off r.prog).toNat, 32)] else []
  | .copy =>
    if cbDsp r.blk = 2 then ((r.todo.map (·.chunk)).eraseDups.flatMap r.chunkElems).map fun e => ((r.copyAddr e).2.toNat, cbEsz r.blk)
    else []
  | _ => []

/-- A write of some bytes of a range has been begun and not finished: the mark comes after it, so that the access fails whole or not at
all (R96, R341, log entry 49). -/
def State.writeUnderWay (s : State) (space base len : Nat) : Bool :=
  s.reqs.any fun q => s.space q.ctxno == space &&
    ((q.started && !q.performed && q.isHome && q.need.wr && q.space == Space.g && q.ranges.any fun x => overlap x.addr x.len base len) ||
      q.midWrite.any fun x => overlap x.1 x.2 base len)

/-- `SEAL_MARK` (R342, Table 16.9): a seal request reaches the seal table. -/
def execSealMark (req : Nat) (s : State) : Host.Outcome State Fault Refusal :=
  onReq s req fun r =>
    match r.op with
    | .sealRange base len =>
      if r.stage ≠ .sent ∨ r.started ∨ s.writeUnderWay (s.space r.ctxno) base len then s
      else match s.sealOf (s.space r.ctxno) base len with
        | some (n, e) =>
          match e.st with
          | .sealed => s.sealEnds r e.digest
          | .hashing => ({ s with nextId := s.nextId + 1 }).putReq { r with stage := .waiting s.nextId }
          | _ => if s.sealHit (s.space r.ctxno) base len then s.sealFails r else s.mark r n e
        | none =>
          if len = 0 ∨ s.sealHit (s.space r.ctxno) base len then s.sealFails r
          else match s.freeSeal with
            | some n => (s.killReuse n).mark r n { space := s.space r.ctxno, base := base, len := len }
            | none => s.sealFails r
    | _ => s

/-- The seal requests that wait for the hashing of a range (R342). -/
def State.sealWaiters (s : State) (space base len : Nat) : List Req :=
  s.reqs.filter fun r => r.arrival.isSome && s.space r.ctxno == space && r.op == .sealRange base len

/-- The seal engine's next range is begun. -/
def State.nextSeal (s : State) (die : Nat) : State := s.modDie die fun d => { d with sealq := d.sealq.tail }

/-- `SEAL_HASH_END` (R342): the range is read and hashed: the entry is sealed with its digest, or unsealed on poison or a final
fault; the requests that wait for it take the same outcome. -/
def execSealHashEnd (die : Nat) (s : State) : Host.Outcome State Fault Refusal :=
  match (s.die die).sealq with
  | [] => go s
  | id :: _ =>
    match s.req? id with
    | none => go (s.nextSeal die)
    | some r =>
      match r.op with
      | .sealRange base len =>
        if r.svc.waits then go s
        else
          let e : SealEnt := Table.get s.seals r.prog
          let bad := fun (z : State) =>
            (s.sealWaiters e.space base len).foldl State.sealFails
              (((z.nextSeal die).setSeal r.prog { e with st := .unsealed }).sealFails r)
          match s.engineRange (siteOf r.elem.tile) e.space Need.read r.svc base len with
          | .service va => go (s.engineAsk r 0 va)
          | .final => go (bad s)
          | .ok segs =>
            let d := s.engineRead segs
            if d.2 ≠ .clean then go (bad s)
            else
              let dig := vecOfNat (sha3 d.1)
              let s1 := (s.nextSeal die).setSeal r.prog { e with st := .sealed, digest := dig, order := s.nextId }
              go ((s.sealWaiters e.space base len).foldl (fun z q => z.sealEnds q dig)
                ({ s1 with nextId := s.nextId + 1 }.sealEnds r dig))
      | _ => go (s.nextSeal die)

/-- `UNSEAL_REQUEST` (R343): the sealed entry of exactly the range becomes unsealed, and its generation advances. -/
def execUnsealRequest (req : Nat) (s : State) : Host.Outcome State Fault Refusal :=
  onReq s req fun r =>
    match r.op with
    | .unsealRange base len =>
      if r.stage ≠ .sent then s
      else match s.sealOf (s.space r.ctxno) base len with
        | some (n, e) =>
          (if e.st == .sealed then s.setSeal n { e with st := .unsealed, gen := e.gen + 1 } else s).perform r
        | none => s.perform r
    | _ => s

/-! ## Page selection -/

/-- Fields of a page-selection descriptor (Table 16.10). -/
def pdBase (n : Nat) : Nat := bits n 0 57
def pdPages (n : Nat) : Nat := bits n 64 12
def pdK (n : Nat) : Nat := bits n 80 7
def pdLen (n : Nat) : Nat := bits n 88 7 + 1
def pdQ (n : Nat) : Nat := bits n 96 17
def pdL (n : Nat) : Nat := bits n 128 17
def pdPort (n : Nat) : Nat := bits n 160 4
/-- The staging descriptor and the query that the command has captured beside it. -/
def pdStaging (n : Nat) : Nat := bits n 256 256
def pdQuery (n j : Nat) : Nat := bits n (512 + 8 * j) 8

/-- A descriptor that completes the command at once with st 4 (R348). -/
def pdBad (n staging : Nat) : Bool :=
  bits n 57 7 != 0 || bits n 76 4 != 0 || bits n 87 1 != 0 || bits n 95 1 != 0 || bits n 113 15 != 0 || bits n 145 15 != 0 ||
    bits n 164 92 != 0 || pdPages n == 0 || pdK n == 0 || sdSpc staging != 2

/-- The hole checks of `pgsel` at its fire (R348). -/
def pageTrap (s : State) (f : Fire) (n : Nat) : Option Trap :=
  let t := f.cur.elem.tile
  match s.holeIn t .x (pdQ n) (pdLen n) with
  | some x => some { cause := 0x05, addr := x }
  | none => match s.holeIn t .x (pdL n) (2 * min (pdK n) (pdPages n)) with
    | some x => some { cause := 0x05, addr := x }
    | none => none

/-- The page selection of an element that holds a scoreboard token, while it is the one its block's selector serves (R349). -/
def State.pageReq (s : State) (e : ElemId) (sb : Nat) : Option Req :=
  let handing := fun (r : Req) => r.op == .pgsel && r.elem.tile.block == e.tile.block && !r.preempted
  match s.reqs.find? handing with
  | some r => if r.elem = e ∧ r.sb = sb then some r else none
  | none => none

/-- A page selection ends: its port has no owner (R349, R400). -/
def State.endPages (s : State) (r : Req) (got st : Nat) : State :=
  (s.modPort r.elem.tile (pdPort r.blk) fun p => { p with owner := none }).complete r got st

/-- The exact score of a summary against the query, rounded once (R349, R165). -/
def pageScoreOf (n : Nat) (e : List Byte) : Word :=
  wordOf (roundTo Fmt.f32 (sumX 0 ((List.range (pdLen n)).map fun j =>
    (mulX (Fmt.e4m3.value (e.getD j 0).toNat) (Fmt.e4m3.value (pdQuery n j))).1)).1 0).1

/-- The query summary is read as one access of the bank (R349); a poisoned byte ends the command (R401). -/
def State.readQuery (s : State) (r : Req) : State :=
  let segs := s.localRuns r.elem.tile .x (pdQ r.blk) (pdLen r.blk)
  let d := s.engineRead segs
  if segs.any (fun g => s.blocked r ⟨8, 0, g.1, g.2⟩) then s
  else if d.2 ≠ .clean then s.endPages r 0 1
  else s.putReq { r with started := true, parts := [], blk := r.blk % 2 ^ 512 + numOf d.1 * 2 ^ 512 }

/-- `PAGE_SCORE` (R349, R401): one summary entry is read and scored; one that cannot be read is left out. -/
def execPageScore (elem : ElemId) (sb : BitVec 3) (s : State) : Host.Outcome State Fault Refusal :=
  match s.pageReq elem sb.toNat with
  | none => go s
  | some r =>
    if r.stage ≠ .sent ∨ r.svc.waits ∨ pdPages r.blk ≤ r.prog then go s
    else if !r.started then go (s.readQuery r)
    else
      let va := pdBase r.blk + 256 * r.prog
      let skip := s.putReq { r with prog := r.prog + 1, st := max r.st 1, svc := .clear }
      match s.engineImpure r .g false va 136 with
      | some a => go (s.parkFinal r 0x08 a 0)
      | none => match (s.fillTlb r va 136).engineX (siteOf elem.tile) (s.space r.ctxno) Need.read r.svc va 136 with
        | .service a => go ((s.fillTlb r va 136).engineAsk r 0 a)
        | .final => go (skip.fillTlb r va 136)
        | .ok segs =>
          let d := s.engineRead segs
          if d.2 ≠ .clean then go (skip.fillTlb r va 136)
          else go ((s.putReq { r with
            prog := r.prog + 1, svc := .clear
            scores := r.scores ++ [(r.prog, pageScoreOf r.blk d.1, bits (numOf (d.1.drop 128)) 0 57)] }).fillTlb r va 136)

/-- A scored page put into its place: descending score, a NaN first, ties to the lower index (R349). -/
def insertPage (x : Nat × Word × Nat) (l : List (Nat × Word × Nat)) : List (Nat × Word × Nat) :=
  match l with
  | [] => [x]
  | y :: r => if scoreBefore y.2.1 x.2.1 then y :: insertPage x r else x :: y :: r

/-- The selected pages (R349). -/
def selectPages (l : List (Nat × Word × Nat)) (k : Nat) : List (Nat × Nat) :=
  ((l.foldr insertPage []).take k).map fun p => (p.1, p.2.2)

/-- `PAGE_LIST_WRITE` (R401): after the ranking, the next entry of the page list is written. -/
def execPageListWrite (elem : ElemId) (sb : BitVec 3) (s : State) : Host.Outcome State Fault Refusal :=
  match s.pageReq elem sb.toNat with
  | none => go s
  | some r =>
    if r.stage ≠ .sent ∨ !r.started ∨ r.prog < pdPages r.blk then go s
    else
      let l := selectPages r.scores (pdK r.blk)
      if l.isEmpty then go (s.endPages r 0 r.st)
      else match l[r.addr.l0]? with
        | none => go s
        | some p =>
          let segs := s.localRuns elem.tile .x (pdL r.blk + 2 * r.addr.l0) 2
          go ((s.engineWrite segs (bytesOf 2 p.1) .clean).putReq
            { r with picks := l, addr := { r.addr with l0 := r.addr.l0 + 1 } })

/-- The stream that a page starts: the staging descriptor with its base moved to the page (R349). -/
def pageStart (s : State) (r : Req) (page : Nat) : Req :=
  let d := pdStaging r.blk
  { r with
    id := s.nextId, op := .stream (pdPort r.blk), blk := setBits d 32 57 (sdBase d + page), off := 0, prog := 0, got := 0, st := 0
    started := false, stop := false, parent := some r.id, scores := [], picks := [], outs := 0, exit := sdExit d
    exitNo := r.exitNo + r.addr.l1
    stage := s.firstStage { r with exit := sdExit d, parts := [], release := false } }

/-- `PAGE_START_HANDOVER` (R400): the next start goes to the owned port when it has no waiting start; a stopped selection completes
the starts that remain with st 7. -/
def execPageStartHandover (elem : ElemId) (sb : BitVec 3) (s : State) : Host.Outcome State Fault Refusal :=
  match s.pageReq elem sb.toNat with
  | none => go s
  | some r =>
    let n := r.picks.length
    let port := pdPort r.blk
    if n = 0 ∨ r.addr.l0 < n ∨ n ≤ r.addr.l1 then go s
    else if r.stop then
      let left := n - r.addr.l1
      let r1 := { r with addr := { r.addr with l1 := n }, off := r.off + wordOf left, st := max r.st 7, preempted := true }
      if r1.off.toNat = n then go (s.endPages r1 r1.got r1.st) else go (s.putReq r1)
    else if (s.port elem.tile port).waiting.isSome then go s
    else match r.picks[r.addr.l1]? with
      | none => go s
      | some p =>
        let q := pageStart s r p.2
        go (((s.putReq { r with addr := { r.addr with l1 := r.addr.l1 + 1 }, preempted := decide (n ≤ r.addr.l1 + 1) }).send q).modPort
          elem.tile port fun x => { x with waiting := some q.id })

/-! ## Hash engines -/

/-- The memory tile and quarter of a `.m` address of a tile (R351). -/
def State.quarterOf (s : State) (t : TileId) (a : Nat) : Option (TileId × Nat) :=
  (s.mByte t a).map fun b => (TileId.ofKey ((b - 2 ^ 52) / 2 ^ 20), b % 2 ^ 20 / 0x40000)

/-- The address of slot n's key word (R350). -/
def slotAddr (t : TileId) (q n : Nat) : Nat := quarterAddr t q + 8 * n

/-- The occupied slots of a table, ascending (R350). -/
def State.occupied (s : State) (t : TileId) (q lg : Nat) : List Nat :=
  (List.range (2 ^ lg)).filter fun n => s.isFull (slotAddr t q n)

/-- The value operation of a table (R351). -/
def hashOp (op : Nat) (x y : Word) : Word :=
  match op with
  | 0 => x + y
  | 1 => AtomOp.fadd.apply x y 0
  | 2 => AtomOp.maxS.apply x y 0
  | _ => y

/-- One undo entry is applied (R352, R396). -/
def State.undo (s : State) (t : TileId) (q : Nat) (u : Nat × Word × Bool) : State :=
  let a := slotAddr t q u.1
  let s1 := s.storeBytes (a + 4) (bytesOf 4 u.2.1.toNat) .clean
  if u.2.2 then s1.handWord a false else s1

/-- The row of a table is rolled back, the newest entry first, and fails (R352, R396). -/
def State.rollback (s : State) (t : TileId) (q : Nat) : State :=
  ((s.quarter t q).log.foldl (fun z u => z.undo t q u) s).modQuarter t q fun k => { k with row := .failed, log := [] }

/-- The slot that a key takes (R352): the first of 32 probes that is empty or holds it. -/
def State.probe (s : State) (t : TileId) (q lg : Nat) (key : Word) : Option Nat :=
  let h := (key * 0x9E3779B1).toNat >>> (32 - lg)
  ((List.range 32).map fun p => (h + p) % 2 ^ lg).find? fun n =>
    !s.isFull (slotAddr t q n) || s.peek (slotAddr t q n) 4 == key.toNat

/-- One lane is inserted (R352); none where the row must be rolled back. -/
def State.insertKey (s : State) (t : TileId) (q : Nat) (h : HashReg) (key v : Word) : Option State :=
  match s.probe t q h.lg key with
  | none => none
  | some n =>
    if 256 ≤ (s.quarter t q).log.length then none
    else
      let a := slotAddr t q n
      let old := wordOf (s.peek (a + 4) 4)
      let empty := !s.isFull a
      let s1 := s.modQuarter t q fun k => { k with log := (n, old, empty) :: k.log }
      if empty then
        some (((s1.storeBytes a (bytesOf 4 key.toNat) .clean).storeBytes (a + 4) (bytesOf 4 v.toNat) .clean).handWord a true)
      else some (s1.storeBytes (a + 4) (bytesOf 4 (hashOp h.op old v).toNat) .clean)

/-- A table as a request captures it: the tile, the quarter, lg and op of the element's hash register (R352, R353). -/
def HashReg.code (h : HashReg) (t : TileId) : Nat := pack [(0, h.op), (4, h.lg), (8, h.quarter), (16, t.key)]
def HashReg.ofCode (n : Nat) : HashReg := { tile := some (TileId.ofKey (n >>> 16)), quarter := bits n 8 8, lg := bits n 4 4, op := bits n 0 4 }

/-- The request is one of a hash engine. -/
def Req.isHash (r : Req) : Bool := r.op == .hrow || r.op == .hins || r.op == .hspill

/-- The memory tile whose hash engine serves a request (R350). -/
def State.hashTile (s : State) (r : Req) : Option TileId :=
  if r.op = .hrow then (s.quarterOf r.elem.tile r.addr.l0).map (·.1)
  else if r.started then (HashReg.ofCode r.blk).tile
  else (s.elem r.elem).hash.tile

/-- The engine serves requests one at a time, those of a bank in the order of their fires (R89, R352), and none during a rollback
(R396). -/
def State.hashBusy (s : State) (r : Req) : Bool :=
  (s.earlier r).any (fun q => q.isHash && !q.performed) ||
    (match s.hashTile r with
     | none => false
     | some t =>
       s.reqs.any (fun q => q.id != r.id && q.isHash && q.started && !q.performed && s.hashTile q == some t) ||
         (!r.started && (List.range 4).any fun q => (s.quarter t q).row == .rolling))

/-- The newest undo entry of a row that is being rolled back is applied; after the last the row has failed (R352, R396). -/
def State.rollStep (s : State) (t : TileId) (q : Nat) : State :=
  match (s.quarter t q).log with
  | [] => s.modQuarter t q fun k => { k with row := .failed }
  | u :: rest => (s.undo t q u).modQuarter t q fun k => { k with log := rest, row := if rest.isEmpty then .failed else .rolling }

/-- One step of a `hins` at the engine (R352, R397): one lane is inserted, or the row is rolled back by one entry; the request is
performed after its last lane, or after the rollback. -/
def State.insertStep (s : State) (r : Req) (t : TileId) (h : HashReg) : State :=
  let full := { r with result := Lanes.fill 1 }
  let good := { r with result := Lanes.fill 0 }
  match (s.quarter t h.quarter).row with
  | .rolling => s.rollStep t h.quarter
  | .opened =>
    match (guarded r.guard)[r.prog]? with
    | none => s.perform good
    | some i =>
      match s.insertKey t h.quarter h (r.expd.get i) (r.data.get i) with
      | some s1 =>
        if (guarded r.guard).length ≤ r.prog + 1 then s1.perform good else s1.putReq { r with prog := r.prog + 1 }
      | none => s.modQuarter t h.quarter fun k => { k with row := if k.log.isEmpty then .failed else .rolling }
  | _ => s.perform full

/-- `hins` at the engine (R352): where no row is open it inserts nothing; else it captures its table and inserts lane by lane. -/
def State.hashInsert (s : State) (r : Req) : State :=
  if r.started then s.insertStep r ((HashReg.ofCode r.blk).tile.getD r.elem.tile) (HashReg.ofCode r.blk)
  else
    let h := (s.elem r.elem).hash
    match h.tile with
    | none => s.perform { r with result := Lanes.fill 1 }
    | some t =>
      if (s.quarter t h.quarter).row ≠ .opened then s.perform { r with result := Lanes.fill 1 }
      else s.putReq { r with started := true, blk := h.code t }

/-- `hrow` at the engine (R351). -/
def State.hashRow (s : State) (r : Req) : State :=
  let lg := bits r.data.l1.toNat 0 4
  match s.quarterOf r.elem.tile r.addr.l0 with
  | none => s.perform { r with result := Lanes.fill 0xFFFFFFFF }
  | some (t, q) =>
    if lg < 4 ∨ 14 < lg then s.perform { r with result := Lanes.fill 0xFFFFFFFF }
    else
      let s1 := s.modQuarter t q fun k => { k with row := .opened, log := [], rowOwner := ⟨r.ctxno, r.reqtag⟩ }
      (s1.modElem r.elem fun x =>
        { x with hash := { tile := some t, quarter := q, lg := lg, op := bits r.data.l1.toNat 4 2 } }).perform
        { r with result := Lanes.fill (wordOf (s.occupied t q lg).length) }

/-- Every slot is emptied, with value 0, and the row is closed (R353). -/
def State.emptyTable (s : State) (t : TileId) (q : Nat) (ns : List Nat) : State :=
  (ns.foldl (fun z n => (z.storeBytes (slotAddr t q n + 4) (bytesOf 4 0) .clean).handWord (slotAddr t q n) false) s).modQuarter t q
    fun k => { k with row := .closed, log := [] }

/-- The aligned 32-byte blocks of a range, each as a part, in a free order (R236). -/
def blockParts (f : Nat → Nat) (va len : Nat) : List Part :=
  freeOrder f 0 ((List.range ((va % 32 + len + 31) / 32)).map fun i =>
    let lo := max va ((va / 32 + i) * 32)
    ⟨8, lo - va, lo, min (va + len) ((va / 32 + i + 1) * 32) - lo⟩)

/-- Where the bytes of a part of the dense run stand in the table (R353). -/
def Req.pairBytes (r : Req) (t : TileId) (q : Nat) (p : Part) : List Nat :=
  (List.range p.len).map fun k => slotAddr t q (r.picks.getD ((p.off + k) / 8) (0, 0)).1 + (p.off + k) % 8

/-- One step of an `hspill` (R353): a block of the dense run is written, or, after the last, every slot is emptied and the row
closed. -/
def State.spillStep (s : State) (r : Req) (t : TileId) (h : HashReg) : State :=
  match r.parts with
  | [] =>
    (s.emptyTable t h.quarter (List.range (2 ^ h.lg))).perform
      { r with result := ⟨wordOf r.picks.length, wordOf r.st, 0, 0, 0, 0, 0, 0⟩ }
  | p :: rest =>
    let z := s.fillTlb r p.addr p.len
    let fails := z.putReq { r with parts := rest, st := 1, svc := .clear }
    match s.engineX (siteOf r.elem.tile) (s.space r.ctxno) Need.write r.svc p.addr p.len with
    | .service x => z.engineAsk r 1 x
    | .final => fails
    | .ok segs =>
      if s.sealHit (s.space r.ctxno) p.addr p.len || s.lostIn segs then fails
      else if s.heldRuns segs then s
      else
        let src := r.pairBytes t h.quarter p
        let poison := src.foldl (fun a b => a.join (s.poisonAt b)) Poison.clean
        (z.engineWrite segs (src.map s.byte) poison).putReq { r with parts := rest, svc := .clear }

/-- `hspill` at the engine (R353): the occupied slots are captured, the pairs are written block by block, and then every slot is emptied
and the row closed. -/
def State.hashSpill (s : State) (r : Req) : State :=
  if r.svc.waits then s
  else if r.started then s.spillStep r ((HashReg.ofCode r.blk).tile.getD r.elem.tile) (HashReg.ofCode r.blk)
  else
    let h := (s.elem r.elem).hash
    match h.tile with
    | none => s.perform { r with result := Lanes.fill 0 }
    | some t =>
      let all := s.occupied t h.quarter h.lg
      match s.engineImpure r .g true r.addr.l0 (8 * all.length) with
      | some a => s.parkFinal r 0x08 a 0
      | none =>
        let ps := blockParts (fun k => Config.blockPlace (s.fresh + k)) r.addr.l0 (8 * all.length)
        { s with fresh := s.fresh + ps.length }.putReq
          { r with started := true, blk := h.code t, picks := all.map fun n => (n, 0), parts := ps }

/-- `HASH_ENGINE_REQUEST` (R351 to R353, R397): a memory tile's hash engine serves one request: an `hrow` in one step, a `hins` lane by
lane, an `hspill` block by block. -/
def execHashEngineRequest (req : Nat) (s : State) : Host.Outcome State Fault Refusal :=
  onReq s req fun r =>
    if r.stage ≠ .sent ∨ s.hashBusy r then s
    else match r.op with
      | .hrow => s.hashRow r
      | .hins => s.hashInsert r
      | .hspill => s.hashSpill r
      | _ => s

/-! ## Probes and monitors -/

/-- A value of 3 bits for each of six queues. -/
def perQueue (f : Nat → Nat) : Nat := pack ((List.range 6).map fun j => (3 * j, f j))

/-- A token, and not a reserved entry. -/
def QEntry.isTok : QEntry → Bool
  | .tok _ => true
  | .resv _ => false

/-- The code of a bank's state (Table 16.11). -/
def BankSt.code : BankSt → Nat
  | .active => 0
  | .spilling => 1
  | .free => 2
  | .reinstating => 3

/-- The result of `qprobe` (Table 16.11). -/
def probeLanes (s : State) (f : Fire) : Vec :=
  let x := f.el
  let b := fun (v : Bool) => if v then 1 else 0
  let ctl := fun (c : Nat) => (Table.get x.ctl c : Nat)
  ⟨wordOf (perQueue fun j => ((x.inq j).filter QEntry.isTok).length), wordOf (perQueue fun j => if j = 5 then (s.oq5 f.cur.elem).length else (x.outq j).length),
    wordOf (pack [(0, x.touchFaults.toNat), (16, x.frame.stale.toNat)]),
    wordOf (pack [(0, b x.ctlOver), (1, b x.frame.loopOver), (16, (s.tile f.cur.elem.tile).misroute.toNat)]),
    wordOf (pack ((List.range 8).map fun c => (4 * c, ctl c))), wordOf (pack ((List.range 8).map fun c => (4 * c, ctl (8 + c)))),
    wordOf (pack (((List.range 4).map fun n => (2 * n, (x.bank n).st.code)) ++ [(8, x.pref.toNat), (10, f.reg.active.toNat)])),
    wordOf (pack [(0, s.outstanding f.cur.elem), (6, s.ccb f.reg.ctxno 22 4)])⟩

/-- `MONITOR_OCCUPANCY_SAMPLE` (R355): source 3 samples the occupancy of a queue. -/
def execMonitorOccupancySample (tile : TileId) (s : State) : Host.Outcome State Fault Refusal :=
  let m := (s.tile tile).mon
  let q := bits m.cfg.toNat 11 3
  if m.src = 3 ∧ q < 6 then
    let n := (((s.elem ⟨tile, bits m.cfg.toNat 4 7⟩).inq q).filter QEntry.isTok).length
    go (s.modTile tile fun x => { x with mon := x.mon.sample (wordOf n) })
  else go s

/-! ## The instructions -/

/-- `LAUNCH` (R333). -/
def execLaunch (t : BitVec 6) (a : BitVec 5) (s : State) : Host.Outcome State Fault Refusal :=
  fireReq s t 15 [a] (fun _ => []) (.launch (gbase ((fireOf s t).src a).val)) true false (fun _ => 0) fun _ q =>
    { q with space := .g, scope := 4, release := true, exit := true }

/-- `PTASK` (R334). -/
def execPtask (t : BitVec 6) (d : BitVec 5) (s : State) : Host.Outcome State Fault Refusal :=
  instant s t d [] (fun _ => none) (fun f => f.writeDest f.g d (taskFacts f.reg)) fun _ => id

/-- `TDONE` (R335). -/
def execTdone (t : BitVec 6) (a : BitVec 5) (s : State) : Host.Outcome State Fault Refusal :=
  instant s t 15 [a] notInHandler (fun _ => id) fun f z => z.finish f.rid (f.src a).val.l0

/-- `TAGSET` (R338). -/
def execTagset (t : BitVec 6) (a : BitVec 5) (s : State) : Host.Outcome State Fault Refusal :=
  tagsetFire s t a fun w k => { k with reqtag := w.extractLsb' 0 16, itertag := w.extractLsb' 16 16 }

/-- `TAGSET_REQ` (R338). -/
def execTagsetReq (t : BitVec 6) (a : BitVec 5) (s : State) : Host.Outcome State Fault Refusal :=
  tagsetFire s t a fun w k => { k with reqtag := w.extractLsb' 0 16 }

/-- `TAGSET_ITER` (R338). -/
def execTagsetIter (t : BitVec 6) (a : BitVec 5) (s : State) : Host.Outcome State Fault Refusal :=
  tagsetFire s t a fun w k => { k with itertag := w.extractLsb' 0 16 }

/-- `RSET` (R340). -/
def execRset (t : BitVec 6) (d : BitVec 5) (a : BitVec 5) (s : State) : Host.Outcome State Fault Refusal :=
  fireReq s t d [a] (fun _ => []) .rset false false (fun _ => 0) fun f q => { q with data := (f.src a).val }

/-- `RGET` (R340). -/
def execRget (t : BitVec 6) (d : BitVec 5) (a : BitVec 5) (s : State) : Host.Outcome State Fault Refusal :=
  fireReq s t d [a] (fun _ => []) .rget false false (fun _ => 0) fun f q => { q with data := (f.src a).val }

/-- `RFREE` (R340). -/
def execRfree (t : BitVec 6) (a : BitVec 5) (s : State) : Host.Outcome State Fault Refusal :=
  fireReq s t 15 [a] (fun _ => []) .rfree false false (fun _ => 0) fun f q => { q with data := (f.src a).val }

/-- `SEAL` (R342). -/
def execSealR (t : BitVec 6) (d : BitVec 5) (a : BitVec 5) (s : State) : Host.Outcome State Fault Refusal :=
  let v := ((fireOf s t).src a).val
  fireReq s t d [a] (fun _ => []) (.sealRange (gbase v) v.l2.toNat) true true (fun _ => 0) fun _ q =>
    { q with scope := 4, release := true, acquire := true }

/-- `UNSEAL` (R343). -/
def execUnsealR (t : BitVec 6) (a : BitVec 5) (s : State) : Host.Outcome State Fault Refusal :=
  let v := ((fireOf s t).src a).val
  fireReq s t 15 [a] (fun _ => []) (.unsealRange (gbase v) v.l2.toNat) true false (fun _ => 0) fun _ q => { q with acquire := true }

/-- `TRAP` (R344). -/
def execTrap (t : BitVec 6) (a : BitVec 5) (s : State) : Host.Outcome State Fault Refusal :=
  instant s t 15 [a] (fun f => some { cause := 0x12, info := (f.src a).val.l0.toNat }) (fun _ => id) fun _ => id

/-- `HRET` (R345). -/
def execHret (t : BitVec 6) (s : State) : Host.Outcome State Fault Refusal :=
  hretFire s t 0

/-- `HRET_DROP` (R345). -/
def execHretDrop (t : BitVec 6) (s : State) : Host.Outcome State Fault Refusal :=
  hretFire s t 1

/-- `HRET_END` (R345). -/
def execHretEnd (t : BitVec 6) (s : State) : Host.Outcome State Fault Refusal :=
  hretFire s t 2

/-- `PGSEL` (R348). -/
def execPgsel (t : BitVec 6) (a : BitVec 5) (b : BitVec 5) (s : State) : Host.Outcome State Fault Refusal :=
  let f := fireOf s t
  let n := natOfVec (f.src a).val
  let staging := (s.port f.cur.elem.tile (pdPort n)).staging
  if pdBad n staging then
    instant s t 15 [a] (fun _ => none) (fun _ => id) fun f z => z.sbIdle f.cur.elem b.toNat 0 4
  else
    command s t [a] [a] .pgsel (fun f => pageTrap s f n)
      (fun f q => { q with sb := b.toNat, blk := n + staging * 2 ^ 256
                           parts := (s.localRuns f.cur.elem.tile .x (pdQ n) (pdLen n)).map fun g => ⟨8, 0, g.1, g.2⟩ })
      (fun _ x => { x.sbStart b.toNat with exits := x.exits + if sdExit staging then min (pdK n) (pdPages n) else 0 }) fun f q z =>
      z.modPort f.cur.elem.tile (pdPort n) fun p => { p with owner := some q.id }

/-- `HROW` (R351). -/
def execHrow (t : BitVec 6) (d : BitVec 5) (a : BitVec 5) (s : State) : Host.Outcome State Fault Refusal :=
  fireReq s t d [a] (fun _ => []) .hrow false false (fun _ => 0) fun f q =>
    { q with space := .m, addr := Lanes.fill ((f.src a).val.l0.toNat / 0x40000 * 0x40000), data := (f.src a).val }

/-- `HINS` (R352). -/
def execHins (t : BitVec 6) (d : BitVec 5) (a : BitVec 5) (b : BitVec 5) (s : State) : Host.Outcome State Fault Refusal :=
  fireReq s t d [a, b] (fun _ => []) .hins true false (fun _ => 0) fun f q =>
    { q with expd := (f.src a).val, data := (f.src b).val }

/-- `HSPILL` (R353). -/
def execHspill (t : BitVec 6) (d : BitVec 5) (a : BitVec 5) (s : State) : Host.Outcome State Fault Refusal :=
  fireReq s t d [a] (fun _ => []) .hspill false false (fun _ => 0) fun f q =>
    { q with space := .g, addr := Lanes.fill (gbase (f.src a).val), exit := true }

/-- `QPROBE` (R354). -/
def execQprobe (t : BitVec 6) (d : BitVec 5) (s : State) : Host.Outcome State Fault Refusal :=
  instant s t d [] (fun _ => none) (fun f => f.writeDest f.g d (probeLanes s f)) fun _ => id

/-- `QPROBE_CLR` (R354). -/
def execQprobeClr (t : BitVec 6) (d : BitVec 5) (s : State) : Host.Outcome State Fault Refusal :=
  instant s t d [] (fun _ => none)
    (fun f x => f.writeDest f.g d (probeLanes s f)
      { x with touchFaults := 0, ctlOver := false, frame := { x.frame with stale := 0, loopOver := false } })
    fun f z => z.modTile f.cur.elem.tile fun y => { y with misroute := 0 }

/-- `MON_CFG` (R355); the reserved bits of Table 16.12 read as zero (R2). -/
def execMonCfg (t : BitVec 6) (a : BitVec 5) (s : State) : Host.Outcome State Fault Refusal :=
  instant s t 15 [a] (fun _ => none) (fun _ => id) fun f z =>
    z.modTile f.cur.elem.tile fun y => { y with mon := { cfg := (f.src a).val.l0 &&& 0x7FFFF, base := (f.src a).val.l1 } }

/-- `MON_MARK` (R355). -/
def execMonMark (t : BitVec 6) (a : BitVec 5) (s : State) : Host.Outcome State Fault Refusal :=
  instant s t 15 [a] (fun _ => none) (fun _ => id) fun f z =>
    z.modTile f.cur.elem.tile fun y => if y.mon.src = 4 then { y with mon := y.mon.sample (f.src a).val.l0 } else y

end Sys2Proof.Machine
end

