-- ==== Sys2Proof/Machine/Lifecycle.lean ====
section
/-!
DEFINITION. What the families of the system share: translations and records of the stewards (R221, R329), idle regions (R299), the
release of a region (R22, R373), the removal of work by ownership tag (R430), requests for purges (R429), fault records (R426,
R428), and the end of tasks and contexts (R431).
-/

namespace Sys2Proof.Machine

/-! ## Places -/

/-- The package island of a tile (R15). -/
def TileId.island (t : TileId) : Nat := 16 * t.die + 4 * (t.row / 5) + t.col / 10

/-- The island of a block's shared units: that of its northwest tile (R15). -/
def blockIsland (b : BlockId) : Option Nat := (TileId.ofPackage (2 * (b.br : Int)) (2 * (b.bc : Int))).map TileId.island

/-- The islands of the endpoints of a die and of the link ports: those of their host tiles (R12, R13, R15). -/
def hbmIsland (die n : Nat) : Nat := TileId.island (hbmHost die n)
def tier2Island (die n : Nat) : Nat := TileId.island (tier2Host die n)
def portIsland (p : Nat) : Nat := TileId.island (linkHost p)

/-- The die that holds a link port: 0 to 3 Thevel, 16 to 27 peer (Table 1.2). -/
def dieOfPort (p : Nat) : Nat := (linkHost p).die

/-- The tiles of a block: two compute tiles and two memory tiles (R14). -/
def blockTiles (b : BlockId) : List TileId :=
  [(0, 0), (0, 1), (1, 0), (1, 1)].filterMap fun p =>
    TileId.ofPackage (2 * (b.br : Int) + p.1) (2 * (b.bc : Int) + p.2)

/-- The blocks of a rectangle. -/
def rectBlocks (o : BlockId) (rows cols : Nat) : List BlockId :=
  (List.range rows).flatMap fun i => (List.range cols).map fun j => ⟨o.br + i, o.bc + j⟩

/-- The blocks and the tiles of a region. -/
def Region.blocks (r : Region) : List BlockId := rectBlocks r.origin r.rows r.cols
def Region.tiles (r : Region) : List TileId := r.blocks.flatMap blockTiles

/-- The die of a region's origin: its loader, steward and TLB serve what concerns the region as a whole, where the region spans dies
(R20; log entry 52). -/
def Region.die (r : Region) : Nat := blockDie r.origin

/-- The tile of a fault: that of its element, or, for stillness, whose record names no place (R426), the region's origin tile. -/
def State.faultTile (s : State) (f : FaultRec) : TileId :=
  if f.cause = 0x0B then ((blockTiles (s.region f.region).origin).head?).getD f.elem.tile else f.elem.tile

/-- The die whose units serve a fault (R20). -/
def State.faultDie (s : State) (f : FaultRec) : Nat := (s.faultTile f).die

/-! ## Translation by the stewards -/

/-- What a steward meets when it translates a run of pages (R221, R284, R330). -/
inductive StewX where
  | ok (segs : List Seg)
  | service (va : Nat)
  | final (cause : Cause)
  deriving DecidableEq, Repr, Inhabited

/-- The pages of a run of bytes, page by page, as a steward of a die translates them (R217); what the driver has refused is final. -/
def State.stewFrom (s : State) (die space : Nat) (n : Need) (v : Svc) (va len fuel : Nat) : StewX :=
  match fuel with
  | 0 => .ok []
  | k + 1 =>
    if len = 0 then .ok []
    else if 2 ^ 57 ≤ va then .final 0x03
    else match s.lookup ⟨die, none⟩ space va with
      | .poisoned => .final 0x06
      | .bad => .final 0x03
      | .missing => if v.refuses va 1 then .final 0x03 else .service va
      | .page e =>
        let a := s.locate (e.frame + (va - e.vbase))
        let m := min len (e.vbase + e.size - va)
        if v.refuses va m then .final 0x03
        else if e.permits n = false || remoteRefuses a then .final 0x04
        else
          match s.stewFrom die space n v (va + m) (len - m) k with
          | .ok r => .ok ((a, m) :: r)
          | x => x

/-- The pages of a run of bytes. -/
def State.stew (s : State) (die space : Nat) (n : Need) (v : Svc) (va len : Nat) : StewX :=
  s.stewFrom die space n v va len (len / 0x10000 + 2)

/-- A steward asks the driver for a page on behalf of no fire (R221): the record, and the wait. -/
def State.stewAsk (s : State) (die : Nat) (o : Owner) (space kind va : Nat) (v : Svc) : State × Svc :=
  let a := s.askService { die := die, tile := none, ctxno := o.ctxno, reqtag := o.reqtag } space kind va
  (a.1, .asked a.2 va v.old)

/-! ## What waits for the driver -/

/-- A wait stands under a record. -/
def Svc.under (v : Svc) (t : TransRec) : Bool :=
  match v with
  | .asked k _ _ => k == (t.die, t.seq)
  | _ => false

/-- An access or a command stands under a record. -/
def Req.under (r : Req) (t : TransRec) : Bool :=
  r.svc.under t || (match r.stage with
    | .parked p => !p.final && p.tr == some (t.die, t.seq)
    | _ => false)

/-- What a launch that has been saved, or that is being restored, keeps of its two copies. -/
def Launch.saves (l : Launch) : List Saved := l.saved.toList ++ l.saved1.toList

/-- Something waits under a record, saved work too (R222, R223). -/
def State.waitsUnder (s : State) (t : TransRec) : Bool :=
  let saved := fun (l : Launch) => l.saves.any fun v => v.reqs.any (·.under t)
  s.reqs.any (·.under t) || s.regions.any (fun p => p.2.svc.under t || saved p.2.task) ||
    s.queue.any (fun l => l.svc.under t || saved l) || s.hits.any (fun h => h.svc.under t) || s.dies.any fun p => p.2.lwSvc.under t

/-- The records under which something waited before a step and nothing waits after it: what waited has been released by the answer to
another record, or removed (R222, R223). -/
def State.spend (new old : State) : State :=
  { new with trans := new.trans.map fun t => if old.waitsUnder t && !new.waitsUnder t then { t with spent := true } else t }

/-! ## Completion records -/

/-- The ownership tag of a launch (R328). -/
def Launch.owner (l : Launch) : Owner := ⟨lrCtx l.recd, lrTag l.recd⟩

/-- A completion record (Table 16.5). -/
def recordOf (o : Owner) (st : Nat) (cause : Cause) (var pos : Nat) (itertag : BitVec 16) (user : Word) : Nat :=
  pack [(0, 1), (1, st), (8, cause.toNat), (16, o.ctxno.toNat), (30, o.reqtag.toNat), (46, var), (64, pos), (128, itertag.toNat),
    (160, user.toNat)]

/-- The device writes the completion record of a launch, done last (R329); a record whose page cannot be written is not written. -/
def State.writeRec (s : State) (die recd st : Nat) (cause : Cause) (var pos : Nat) (itertag : BitVec 16) (user : Word) : State :=
  let o : Owner := ⟨lrCtx recd, lrTag recd⟩
  (s.writeVirtual ⟨die, none⟩ (s.space o.ctxno) (lrCrec recd) (bytesOf 64 (recordOf o st cause var pos itertag user))).getD s

/-! ## Idle regions -/

/-- A region is idle (R299). -/
def State.idle (s : State) (r : Region) : Bool :=
  s.drained r && (s.tilesOf r).all (fun p => p.2.ports.all fun q => q.2.running.isNone && q.2.waiting.isNone) &&
    (s.elemsOf r).all (fun p => p.2.sbBusy == 0) && s.reqs.all fun q => !r.hasTile q.elem.tile

/-! ## Removal of work -/

/-- Queue entries without the tokens of dead work and the entries reserved for what is gone (R430). -/
def cutEntries (dead : Owner → Bool) (gone : List Nat) (l : List QEntry) : List QEntry :=
  l.filter fun e => match e with
    | .tok t => !dead t.owner
    | .resv n => !gone.contains n

/-- A partial burst of which a token is removed is discarded whole (R237). -/
def cutBurst (dead : Owner → Bool) (l : List Tok) : List Tok := if l.any fun t => dead t.owner then [] else l

/-- A bank whose outstanding request is removed no longer waits for it (R85). -/
def Bank.unpend (k : Bank) (r : Req) : Bank :=
  let k1 :=
    if r.dest.toNat < 15 then k.setReg r.dest.toNat { k.reg r.dest.toNat with pending := false }
    else if 22 ≤ r.dest.toNat ∧ r.dest.toNat < 29 then
      k.setPred (r.dest.toNat - 22) { k.pred (r.dest.toNat - 22) with pending := false }
    else k
  if r.writesQ6 then k1.setPred 6 { k1.pred 6 with pending := false } else k1

/-- The state with the pending mark of a removed request cleared. -/
def State.unpend (s : State) (r : Req) : State :=
  match r.image with
  | some n => s.modSpill r.elem n fun m => if m.isOf r.elem r.bank r.epoch then { m with image := m.image.unpend r } else m
  | none => s.modElem r.elem fun x => if (x.bank r.bank).epoch = r.epoch then x.modBank r.bank fun k => k.unpend r else x

/-- The frame allocator without dead work (R149, R430): its frames are freed and their tokens removed; gen goes up as at `ffree` (log
entry 47). -/
def FrameUnit.cut (u : FrameUnit) (dead : Owner → Bool) : FrameUnit :=
  let out := fun (m : Emission) => dead ⟨m.ctxno, m.reqtag⟩
  let freed := (u.emitq.filter out).map (·.frame)
  { u with
    emitq := u.emitq.filter fun m => !out m
    frames := Table.mapAll u.frames fun n f =>
      if f.alloc && (dead f.owner || (freed.contains n && f.emitting)) then
        { f with alloc := false, emitting := false, here := 0, gen := f.gen + 1 }
      else f }

/-- An operation of the intake that is removed leaves its accumulator poisoned (R310); of one that goes on, a partial burst of which a token
is removed is discarded (R237). -/
def Elem.cutIntake (x : Elem) (dead : Owner → Bool) (gone : List Nat) : Elem :=
  match x.intake with
  | some i =>
    if gone.contains i.req then
      { x with intake := none, acs := Table.modify x.acs i.acc fun a => { a with poison := a.poison.join .data } }
    else
      let keep := fun (full : Bool) (l : List Tok) => if full then l else cutBurst dead l
      { x with intake := some { i with acur := keep i.adone i.acur, bcur := keep i.bdone i.bcur } }
  | none => x

/-- An element without dead work (R430). -/
def Elem.cut (x : Elem) (dead : Owner → Bool) (gone : List Nat) : Elem :=
  let y := x.cutIntake dead gone
  { y with
    iq := Table.mapAll y.iq fun _ l => cutEntries dead gone l
    oq := Table.mapAll y.oq fun _ l => cutEntries dead gone l
    frame := y.frame.cut dead
    drain := y.drain.filter fun d => !gone.contains d.req }

/-- A compute tile without dead work (R223, R430). -/
def Tile.cut (t : Tile) (dead : Owner → Bool) (gone : List Nat) : Tile :=
  { t with
    missq := t.missq.filter fun n => !gone.contains n
    kept := t.kept.filter fun n => !gone.contains n
    classes := (t.classes.map fun c => (c.1, c.2.filter fun f => !dead f.tok.owner)).filter fun c => !c.2.isEmpty
    ports := Table.mapAll t.ports fun _ p => { p with inbox := p.inbox.filter fun k => !dead k.owner } }

/-- A quarter without dead work (R202, R430). -/
def Quarter.cut (q : Quarter) (dead : Owner → Bool) : Quarter :=
  { q with
    held := if q.mode = 1 then q.held.filter (fun t => !dead t.owner) else cutBurst dead q.held
    bursts := (q.bursts.map fun b => (b.1, b.2.filter fun t => !dead t.owner)).filter fun b => !b.2.isEmpty
    lines := q.lines.filter fun l => !dead l.2.owner }

/-- A seal that is hashing for a removed request ends without a digest (Table 16.9); the requests that wait for it are served again,
as seals of an unsealed entry (R342). -/
def State.dropSeal (s : State) (r : Req) : State :=
  match r.op with
  | .sealRange base len =>
    if r.started then
      let e : SealEnt := Table.get s.seals r.prog
      let s1 := s.setSeal r.prog { e with st := .unsealed }
      let s2 := { s1 with dies := Table.mapAll s1.dies fun _ d => { d with sealq := d.sealq.filter (· != r.id) } }
      (s2.sealWaiters e.space base len).foldl (fun z q => z.putReq { q with stage := .sent }) s2
    else s
  | _ => s

/-- The spill record holds an image of dead work. -/
def SpillRec.isDead (m : SpillRec) (ctxno : BitVec 14) (dead : Owner → Bool) : Bool :=
  m.st != .free && dead ⟨ctxno, m.image.reqtag⟩

/-- The resource names of a removed yield: the ordering outputs of its spill record. -/
def cutYields (ctxno : BitVec 14) (dead : Owner → Bool) (x : Elem) : List Nat :=
  x.frame.spill.filterMap fun p => if p.2.isDead ctxno dead then some p.2.resv else none

/-- The spill records of an S-element whose images are dead work are freed; a bank to which such an image was returning is
allocated and free (R137, R430, log entry 49). -/
def State.cutSpills (s : State) (e : ElemId) (ctxno : BitVec 14) (dead : Owner → Bool) : State :=
  ((s.elem e).frame.spill.filter fun p => p.2.isDead ctxno dead).foldl (fun z p =>
    let y := z.freeSpill e p.1
    if p.2.st = .reinstating then y.freeBank p.2.elem p.2.bank else y) s

/-- Every entry of the tiles of `at_` that carries a dead tag becomes absent (R430). Requests that are performed stay for their
responses, unless their entry is removed (R121), or `all` removes them with their region (R431). -/
def State.cut (s : State) (at_ : TileId → Bool) (dead : Owner → Bool) (all : Bool) : State :=
  let hit := fun (r : Req) => at_ r.elem.tile && dead ⟨r.ctxno, r.reqtag⟩
  let queued := fun (r : Req) => decide (16 ≤ r.dest.toNat) && decide (r.dest.toNat < 22)
  let out := s.reqs.filter fun r => hit r && (all || !r.performed || queued r)
  let here := s.elems.filter fun p => at_ (ElemId.ofKey p.1).tile
  let ctxAt := fun (k : Nat) => (s.regionAt (ElemId.ofKey k).tile).ctxno
  let gone := out.map (·.id) ++ here.flatMap fun p => cutYields (ctxAt p.1) dead p.2
  let s1 := (out.filter fun r => !r.performed).foldl State.unpend { s with reqs := s.reqs.filter fun r => !gone.contains r.id }
  let s2 := here.foldl (fun z p => z.cutSpills (ElemId.ofKey p.1) (ctxAt p.1) dead)
    ((out.filter fun r => !r.performed).foldl State.dropSeal s1)
  { s2 with
    elems := Table.mapAll s2.elems fun k x => if at_ (ElemId.ofKey k).tile then x.cut dead gone else x
    tiles := Table.mapAll s2.tiles fun k t => if at_ (TileId.ofKey k) then t.cut dead gone else t
    mtiles := Table.mapAll s2.mtiles fun k m =>
      if at_ (TileId.ofKey k) then { m with quarters := Table.mapAll m.quarters fun _ q => q.cut dead } else m
    faults := s2.faults.filter fun f => !(at_ (s.faultTile f) && dead ⟨f.ctxno, f.reqtag⟩) }.spend s

/-! ## Release -/

/-- An element whose contexts are unloaded (R298). -/
def Elem.unload (x : Elem) : Elem := { x with ctxs := [], trigs := [], defs := [] }

/-- An element that its context leaves: nothing is loaded, and the control counts are cleared (R65, R298). -/
def Elem.vacate (x : Elem) : Elem := { x.unload with ctl := [] }

/-- Blocks become free, with no owner; their last owner is kept for R207. -/
def State.freeBlocks (s : State) (ctxno : BitVec 14) (bs : List BlockId) : State :=
  { s with lastOwner := bs.foldl (fun t b => Table.set t (b.br * 80 + b.bc) (some ctxno)) s.lastOwner }

/-- A region is released (R298, R373): every context is unloaded, and its blocks are free. -/
def State.release (s : State) (rid : Nat) : State :=
  let r := s.region rid
  let s1 := s.freeBlocks r.ctxno r.blocks
  { s1 with
    regions := Table.erase s1.regions rid
    elems := Table.mapAll s1.elems fun k x => if r.hasTile (ElemId.ofKey k).tile then x.vacate else x
    faults := s1.faults.filter fun f => f.region != rid
    switches := s1.switches.filter fun q => !r.hasTile q.elem.tile
    ctlFlight := s1.ctlFlight.filter fun c => !r.hasTile c.1.tile }

/-- The hash rows of some tiles that a test admits are rolled back whole: nothing else of those tiles runs on (R397, R431). -/
def State.rollRows (s : State) (at_ : TileId → Bool) (p : RowSt → Bool) : State :=
  (s.mtiles.flatMap fun t => (t.2.quarters.filter fun q => at_ (TileId.ofKey t.1) && p q.2.row).map
    fun q => (TileId.ofKey t.1, q.1)).foldl (fun z q => z.rollback q.1 q.2) s

/-- A stream port without its streams. -/
def Port.empty (p : Port) : Port := { p with running := none, waiting := none, owner := none }

/-- A region that ends by a fault or a purge is released with every entry that remains in it (R431). -/
def State.endRegion (s : State) (rid : Nat) : State :=
  let r := s.region rid
  let s1 := (s.cut r.hasTile (fun _ => true) true).rollRows r.hasTile fun w => w == .opened || w == .rolling
  let clear := fun (k : Nat) (t : Tile) =>
    if r.hasTile (TileId.ofKey k) then { t with ports := Table.mapAll t.ports fun _ p => p.empty } else t
  { s1 with tiles := Table.mapAll s1.tiles clear }.release rid

/-! ## Purges -/

/-- The purges that a die's engine holds (R429). -/
def State.purgesOf (s : State) (die : Nat) : List Purge := s.purges.filter fun p => p.die == die

/-- A purge of a context is queued or in progress. -/
def State.purging (s : State) (ctxno : BitVec 14) : Bool := s.purges.any fun p => p.owner.ctxno == ctxno

/-- A die's purge engine can take another purge (R429). -/
def State.purgeRoom (s : State) (die : Nat) : Bool := decide ((s.purgesOf die).length < 64)

/-- The halts of banks end with the disposal of their faults, and the consuming banks are allocated and free (R421, R430). -/
def State.freeBanks (s : State) (banks halts : List (ElemId × Nat × Nat)) : State :=
  let at_ := fun (z : State) (b : ElemId × Nat × Nat) (f : Bank → Bank) =>
    z.modElem b.1 fun x => if (x.bank b.2.1).epoch = b.2.2 then x.modBank b.2.1 f else x
  let s1 := halts.foldl (fun z b => at_ z b fun k => { k with halted := false }) s
  banks.foldl (fun z b => at_ z b fun k => k.alloc (z.regionAt b.1.tile).reqtag .free) s1

/-- The record that a task ended by the marking takes (R335, R431). -/
def endRec (p : Purge) (rid : Nat) (r : Region) : Nat × Nat × Cause × BitVec 16 × Nat × Word :=
  match p.ends.find? fun e => e.1 == rid || some e.1 == r.twin.map (·.1) with
  | some (_, st, c, it) => (r.task.recd, st, c, it, r.variant, if c = 0x0B then r.done.getD 0 else 0)
  | none => (r.task.recd, 3, 0, 0, r.variant, 0)

/-- What a request asks of a purge that is past its marking, with which it is merged (R429): nothing more is removed by tag, the halts of
its faults end, and a task that it ends is ended. -/
def State.lateJoin (s : State) (p : Purge) : State × List (Nat × Nat × Cause × BitVec 16 × Nat × Word) :=
  let hit := fun (x : Nat × Region) => x.2.live && p.ends.any fun e => e.1 == x.1 || some e.1 == x.2.twin.map (·.1)
  let tasks := s.regions.filter hit
  let firsts := tasks.filter fun x => match x.2.twin with
    | some (_, isFirst) => isFirst
    | none => true
  (tasks.foldl (fun z x => z.endRegion x.1) (s.freeBanks p.banks p.halts), firsts.map fun x => endRec p x.1 x.2)

/-- A purge is requested (R429): one for a tag that is already queued or in progress is merged with it, and writes no second
record. -/
def State.requestPurge (s : State) (p : Purge) : State :=
  let join := fun (q : Purge) =>
    { q with ends := q.ends ++ p.ends, cmds := q.cmds ++ p.cmds, banks := q.banks ++ p.banks, halts := q.halts ++ p.halts
             holds := q.holds ++ p.holds }
  let early := fun (q : Purge) => q.owner == p.owner && q.unmarked
  let late := fun (q : Purge) => q.owner == p.owner && !q.unmarked
  if s.purges.any early then { s with purges := modFirst early join s.purges }
  else if s.purges.any late then
    let a := s.lateJoin p
    { a.1 with purges := modFirst late (fun q => { q with recs := q.recs ++ a.2, cmds := q.cmds ++ p.cmds }) a.1.purges }
  else { s with purges := s.purges ++ [{ p with st := if (s.purgesOf p.die).isEmpty then .marking else .queued }] }

/-- A task is ended (R431): its launch tag is purged, and the marking releases its region. -/
def State.endTask (s : State) (rid die : Nat) (cause : Cause) (itertag : BitVec 16) : State :=
  let r := s.region rid
  s.requestPurge { die := die, owner := r.task.owner, cause := cause, ends := [(rid, 2, cause, itertag)], holds := [(rid, itertag)] }

/-- The ranges that a test of their owners admits are freed (R340). -/
def State.freeRanges (s : State) (p : Owner → Bool) : State :=
  let free := fun (_ : Nat) (e : RangeEnt) => if e.live && p e.owner then { e with live := false } else e
  { s with dies := Table.mapAll s.dies fun _ d => { d with ranges := Table.mapAll d.ranges free } }

/-- A context is ended (R340, R431): every task of it ends with st 2, the queued ones too, its ranges are freed, and ccb.dead is set. -/
def State.endContext (s : State) (ctxno : BitVec 14) (die : Nat) (cause : Cause) (itertag : BitVec 16) : State :=
  let mine := s.queue.filter fun l => lrCtx l.recd == ctxno
  let hits := s.hits.filter fun h => lrCtx h.launch.recd == ctxno
  let s1 := { s with
    queue := s.queue.filter fun l => lrCtx l.recd != ctxno
    hits := s.hits.filter fun h => lrCtx h.launch.recd != ctxno }
  let s2 := (mine ++ hits.map (·.launch)).foldl (fun z l => z.writeRec die l.recd 2 cause 0 0 0 0) s1
  let s3 := (s2.regions.filter fun p => p.2.live && p.2.ctxno == ctxno).foldl (fun z p => z.endTask p.1 die cause itertag) (s2.spend s)
  (s3.freeRanges fun o => o.ctxno == ctxno).setCcb ctxno 385 1 1

/-! ## The fault that is due -/

/-- The fault that was recorded first; in one cycle, the one whose element comes first by row, column and position (R421). -/
def firstFault (l : List FaultRec) : Option FaultRec :=
  l.foldl (fun (b : Option FaultRec) f => match b with
    | none => some f
    | some g => if f.time < g.time || (f.time == g.time && elemBefore f.elem g.elem) then some f else some g) none

/-- The fault of a region that is to be taken (R419, R421, R424): stillness at once, then one behind the head, then the first of the
head; in handler mode only what is a double fault. -/
def State.dueFault (s : State) (rid : Nat) : Option FaultRec :=
  let r := s.region rid
  let l := s.faults.filter fun f => f.region == rid
  match r.hphase with
  | .off =>
    match l.find? fun f => f.cause == 0x0B with
    | some f => some f
    | none => match firstFault (l.filter fun f => decide (32768 ≤ (f.itertag - r.head).toNat) && (s.liveTags rid).contains r.head) with
      | some f => some f
      | none => firstFault (l.filter fun f => f.itertag == r.head)
  | .on => firstFault (l.filter (·.inHandler))
  | _ => none

/-- A region takes a fault (R300, R375, R422, R438): not while it is loaded, folded, saved or restored, but for stillness, which is taken
at once wherever it can arise (R385, R421). -/
def Region.takes (r : Region) (c : Cause) : Bool :=
  r.live && (r.life == .running || r.life == .finishing || (r.life == .loading && r.waits) || (c == 0x0B && r.life != .folding))

/-- A fault of a region, or of its partner, is due and the pair takes it: it goes before a fold or a save (R438). -/
def State.takesNow (s : State) (rid : Nat) : Bool :=
  (s.pair rid).any fun n => (s.dueFault n).any fun f => (s.pair rid).all fun k => (s.region k).takes f.cause

/-! ## Fault records -/

/-- A fault record (Table 22.3). -/
def faultNum (f : FaultRec) (r : Region) (v : Bool) (seq : Nat) : Nat :=
  let p := r.rel f.elem.tile
  let b := fun (x : Bool) => if x then 1 else 0
  pack [(0, f.cause.toNat), (8, b v), (9, b f.async), (16, f.elem.pos), (23, f.cc), (25, f.slot), (30, f.trig), (36, f.bank),
    (40, f.elem.tile.die), (43, p.1), (49, p.2), (64, f.ctxno.toNat), (80, f.reqtag.toNat), (96, f.itertag.toNat),
    (112, f.sb.getD 0), (115, b f.sb.isSome), (128, f.word.toNat), (160, f.info % 2 ^ 32), (192, f.addr % 2 ^ 64),
    (256, natOfVec f.opa), (512, natOfVec f.opb), (768, seq)]

/-- The number of a context's next fault record, and the state that has given it (R428). -/
def State.takeSeq (s : State) (ctxno : BitVec 14) : State × Nat :=
  let n := (Table.get s.faultSeq ctxno.toNat : Nat)
  ({ s with faultSeq := Table.set s.faultSeq ctxno.toNat ((n + 1) % 2 ^ 32) }, n)

/-- One fault record into the fault log (R422, R428). -/
def State.logFault (s : State) (f : FaultRec) (r : Region) (seq : Nat) : State :=
  s.logEntry f.ctxno (s.faultDie f) 1 (bytesOf 128 (faultNum f r false seq))

end Sys2Proof.Machine
end

