-- ==== Sys2Proof/Machine/Loader.lean ====
section
/-!
DEFINITION. The configuration loader: images and their items (R281 to R295), the checks of Tables 2.6 and 14.6 (R41, R42, R284), and
what a load writes (R294, R296 to R299, R204).
-/

namespace Sys2Proof.Machine

/-! ## Images -/

/-- A variant-table entry (Table 14.2). -/
structure Variant where
  rows : Nat
  cols : Nat
  off : Nat
  len : Nat
  reserved : Nat
  deriving DecidableEq, Repr, Inhabited

/-- A variant-table entry of 16 bytes. -/
def Variant.ofNum (n : Nat) : Variant :=
  { rows := bits n 0 5, cols := bits n 5 7, off := bits n 16 48, len := bits n 64 48
    reserved := bits n 12 4 + bits n 112 16 }

/-- Fields of an image header (Table 14.1). -/
def ihMagic (n : Nat) : Nat := bits n 0 32
def ihVars (n : Nat) : Nat := bits n 32 3 + 1
def ihSize (n : Nat) : Nat := bits n 64 64
def ihDigest (n : Nat) : Nat := bits n 256 256
def ihReserved (n : Nat) : Nat := bits n 35 29 + bits n 128 128

/-- What a reading of an image meets (R284). -/
inductive ImageX (α : Type) where
  | ok (x : α)
  | service (va : Nat)
  /-- The image is rejected, with the cause and the position record. -/
  | reject (cause : Cause) (pos : Nat)
  /-- The image has no variant of the shape of the region that passes to its task (R331). -/
  | noVariant
  deriving DecidableEq, Repr

/-- The position record of a header failure: zeros but for the check (R284). -/
def headerPos : Nat := 0xD <<< 40

/-- Bytes of an image (R284). -/
def State.imageBytes (s : State) (die space : Nat) (v : Svc) (va len : Nat) : ImageX (List Byte) :=
  match s.stew die space Need.read v va len with
  | .service a => .service a
  | .final c => .reject c headerPos
  | .ok segs =>
    let d := s.engineRead segs
    if d.2 ≠ .clean then .reject 0x06 headerPos else .ok d.1

/-- The next step of a reading. -/
def ImageX.bind {α β : Type} (x : ImageX α) (f : α → ImageX β) : ImageX β :=
  match x with
  | .ok y => f y
  | .service a => .service a
  | .reject c p => .reject c p
  | .noVariant => .noVariant

/-- The header of an image and its variant table (R281, check 0xD). -/
def State.imageTable (s : State) (die space : Nat) (v : Svc) (va : Nat) : ImageX (Nat × List Variant) :=
  (s.imageBytes die space v va 64).bind fun h =>
    let n := numOf h
    if ihMagic n ≠ 0x53380A01 ∨ ihReserved n ≠ 0 ∨ ihSize n % 64 ≠ 0 ∨ ihSize n < 64 + 16 * ihVars n then .reject 0x02 headerPos
    else (s.imageBytes die space v (va + 64) (16 * ihVars n)).bind fun t =>
      .ok (n, (List.range (ihVars n)).map fun i => Variant.ofNum (numOf ((t.drop (16 * i)).take 16)))

/-- A variant's entry is well formed and lies in the image (check 0xD). -/
def Variant.good (v : Variant) (header : Nat) : Bool :=
  v.reserved == 0 && decide (1 ≤ v.rows) && decide (v.rows ≤ 20) && decide (1 ≤ v.cols) && decide (v.cols ≤ 80) &&
    v.off % 64 == 0 && v.len % 8 == 0 && decide (64 + 16 * ihVars header ≤ v.off) && decide (v.off + v.len ≤ ihSize header)

/-- The whole image: its header, its variants and its bytes, once its digest agrees (R281, R284). -/
def State.image (s : State) (die space : Nat) (v : Svc) (va : Nat) : ImageX (Nat × List Variant × List Byte) :=
  (s.imageTable die space v va).bind fun h =>
    (s.imageBytes die space v va (ihSize h.1)).bind fun bs =>
      if sha3 (bs.drop 64) = ihDigest h.1 then .ok (h.1, h.2, bs) else .reject 0x02 headerPos

/-! ## Items -/

/-- An item of a section (Tables 14.3 and 14.4). -/
structure Item where
  kind : Nat := 0
  ctx : Nat := 0
  index : Nat := 0
  elem : Nat := 0
  row : Nat := 0
  col : Nat := 0
  len : Nat := 0
  reserved : Nat := 0
  pay : List Byte := []
  /-- The payload runs past the section. -/
  short : Bool := false
  deriving DecidableEq, Repr, Inhabited

/-- The payload as a number. -/
def Item.num (it : Item) : Nat := numOf it.pay

/-- The bytes of a payload; none for an unassigned kind (Table 14.4). -/
def payLen (kind len : Nat) : Option Nat :=
  match kind with
  | 1 => some 4
  | 2 | 4 | 7 | 8 => some 8
  | 3 | 6 => some 32
  | 5 => some 16
  | 9 => some (4 + len)
  | _ => none

/-- The bytes of an item, its word and padding included (R283). -/
def Item.size (it : Item) : Nat := 8 + ((payLen it.kind it.len).getD 0 + 7) / 8 * 8

/-- The items of a section, up to the first that cannot be followed (R283). -/
def parseItems (bs : List Byte) (fuel : Nat) : List Item :=
  match fuel with
  | 0 => []
  | k + 1 =>
    if bs.isEmpty then []
    else
      let w := numOf (bs.take 8)
      let it : Item :=
        { kind := bits w 0 4, ctx := bits w 4 2, index := bits w 6 6, elem := bits w 12 7, row := bits w 19 6, col := bits w 25 8
          len := bits w 33 24, reserved := bits w 57 7 }
      match payLen it.kind it.len with
      | none => [it]
      | some n =>
        if bs.length < it.size then [{ it with short := true }]
        else { it with pay := (bs.drop 8).take n } :: parseItems (bs.drop it.size) k

/-- The items of a variant's section. -/
def sectionItems (img : List Byte) (v : Variant) : List Item := parseItems ((img.drop v.off).take v.len) (v.len + 1)

/-- The contexts for which a section holds a slot or constant item (R298), as a mask. -/
def namedContexts (items : List Item) : BitVec 4 :=
  items.foldl (fun m it => if it.kind = 1 ∨ it.kind = 3 then m ||| (1#4 <<< it.ctx) else m) 0

/-- The lowest-numbered context of a mask. -/
def lowestContext (m : BitVec 4) : Option Nat := [0, 1, 2, 3].find? fun c => m.getLsbD c

/-! ## The checks -/

/-- What the checks know beside the section. -/
structure LoadEnv where
  /-- Tile rows and columns of the variant. -/
  rows : Nat
  cols : Nat
  origin : BlockId
  /-- The trigger entries that the contexts the load does not name keep, by tile row, column, element and index. -/
  kept : Nat → Nat → Nat → Nat → BitVec 64

/-- What a scan has seen (R284). -/
structure Scan where
  /-- 0 window slots, 1 tiles, 2 data. -/
  phase : Nat := 0
  group : Option (Nat × Nat) := none
  /-- The element under way and the rank of its last item. -/
  elem : Option (Nat × Nat) := none
  seen : List Item := []
  deriving DecidableEq, Repr, Inhabited

/-- The rank of an element's item: frame, triggers, then context by context (R284). -/
def Item.rank (it : Item) : Nat := if it.kind = 7 then 0 else if it.kind = 2 then 1 else 2 + it.ctx

/-- The item belongs to an element. -/
def Item.ofElem (it : Item) : Bool := it.kind == 1 || it.kind == 2 || it.kind == 3 || it.kind == 7

/-- Tiles in ascending row, then column (R41). -/
def tileBefore (a b : Nat × Nat) : Bool := decide (a.1 < b.1) || (a.1 == b.1 && decide (a.2 < b.2))

/-- The item stands in order; a quarter item is judged by the group in which it stands (R284). -/
def Scan.inOrder (sc : Scan) (it : Item) : Bool :=
  if it.kind = 8 then sc.phase == 0
  else if it.kind = 9 then true
  else if sc.phase = 2 then false
  else if it.kind = 5 then sc.group.isSome && sc.elem.isNone
  else
    let t := (it.row, it.col)
    match sc.group with
    | none => true
    | some g =>
      if tileBefore g t then true
      else if g ≠ t then false
      else match sc.elem with
        | none => true
        | some e => it.ofElem && (decide (e.1 < it.elem) || (e.1 == it.elem && decide (e.2 ≤ it.rank)))

/-- The scan after an item. -/
def Scan.step (sc : Scan) (it : Item) : Scan :=
  let phase := if it.kind = 8 then 0 else if it.kind = 9 then 2 else 1
  let s1 := { sc with phase := phase, seen := sc.seen ++ [it] }
  if it.kind = 5 ∨ phase ≠ 1 then s1
  else { s1 with group := some (it.row, it.col), elem := if it.ofElem then some (it.elem, it.rank) else none }

/-- Fields of a quarter word out of the ranges of Table 14.8 (check 0xD). -/
def quarterBad (n : Nat) : Bool :=
  let mode := bits n 0 2
  mode == 3 || bits n 54 10 != 0 || bits n 85 43 != 0 || (mode == 0 && bits n 2 2 == 3) ||
    ((mode == 1 || mode == 2) && bits n 84 1 == 0) || (mode != 1 && bits n 51 1 == 1) ||
    (mode == 1 && (bits n 4 13 == 0 || decide (6553 < bits n 4 13))) || (mode == 2 && decide (bits n 25 13 < bits n 38 13))

/-- A frame word breaks a limit of Table 6.4 (check 0xD). -/
def frameKeysBad (pos n : Nat) : Bool :=
  let u : FrameUnit := { word := BitVec.ofNat 64 n }
  let e : ElemId := ⟨⟨0, 0, 0⟩, pos⟩
  decide (24 < bits n 1 5) || decide (8 < bits n 13 4) || decide (8 < bits n 48 4) || u.need == 0 || decide (4 < bits n 33 3) ||
    !e.hasQueue (bits n 33 3) ||
    (u.loop && (decide (u.priv < u.ovl) || decide (16 < u.priv + u.ovl) || decide (2 ^ (u.priv + u.ovl) ≤ u.need.toNat) ||
      u.enter == u.leave))

/-- An index or a value outside its range, a reserved bit, an unassigned kind (check 0xD). -/
def Item.malformed (it : Item) : Bool :=
  it.reserved != 0 || it.short || decide (39 < it.row) || decide (159 < it.col) || (payLen it.kind it.len).isNone || (it.kind != 1 && it.kind != 3 && it.ctx != 0) ||
    (!(it.ofElem || (it.kind == 9 && it.index == 1)) && it.elem != 0) || (it.kind != 9 && it.len != 0) ||
    (match it.kind with
     | 1 => decide (32 ≤ it.index)
     | 3 | 5 => decide (4 ≤ it.index)
     | 4 =>
       let w := Route.ofWord (BitVec.ofNat 64 it.num)
       bits it.num 38 26 != 0 || w.tk == 3 || (w.tk == 1 && decide (16 ≤ w.tgt)) || (w.tk == 2 && decide (4 ≤ w.tgt))
     | 6 => decide (16 ≤ it.index)
     | 7 => it.index != 0 || bits it.num 52 12 != 0 || decide (it.elem < 112) || decide (120 ≤ it.elem) || frameKeysBad it.elem it.num
     | 8 => decide (it.index < 4) || bits it.num 14 50 != 0
     | 9 => decide (2 ≤ it.index) || (it.index == 1 && (decide (it.elem < 112) || decide (120 ≤ it.elem)))
     | _ => false) ||
    (it.kind == 5 && quarterBad it.num)

/-- A tile of the variant, compute or memory as `mem` says. -/
def LoadEnv.tileOk (v : LoadEnv) (row col : Nat) (mem : Bool) : Bool :=
  decide (row < v.rows) && decide (col < v.cols) && ((row + col) % 2 == 1) == mem

/-- The quarter word that the section gives a quarter, tile store where it gives none (R292). -/
def Scan.quarterWord (sc : Scan) (row col q : Nat) : Nat :=
  match sc.seen.find? fun it => it.kind == 5 && it.row == row && it.col == col && it.index == q with
  | some it => it.num
  | none => 0

/-- The frame word that the section gives an S-element. -/
def Scan.frameWord (sc : Scan) (row col elem : Nat) : Nat :=
  match sc.seen.find? fun it => it.kind == 7 && it.row == row && it.col == col && it.elem == elem with
  | some it => it.num
  | none => 0

/-- The bytes of a data item leave a tile-store quarter or fall in a scratch hole (check 0xE, R196). -/
def Scan.dataBad (sc : Scan) (it : Item) : Bool :=
  let off := numOf (it.pay.take 4)
  let stop := off + it.len
  if it.index = 0 then
    decide (0x100000 < stop) || (List.range 4).any fun q =>
      overlap off it.len (q * 0x40000) 0x40000 && bits (sc.quarterWord it.row it.col q) 0 2 != 0
  else
    let u : FrameUnit := { word := BitVec.ofNat 64 (sc.frameWord it.row it.col it.elem) }
    decide (0x4000 - u.hole < stop)

/-- The element feeds a class of the section (R285, R286). -/
def Scan.feeds (sc : Scan) (row col elem : Nat) : Bool :=
  sc.seen.any fun it => it.kind == 4 && it.row == row && it.col == col &&
    (let w := Route.ofWord (BitVec.ofNat 64 it.num)
     w.v && w.fv && w.src == elem)

/-- A target outside the variant or of the wrong kind (check 0xE). -/
def LoadEnv.badTarget (v : LoadEnv) (sc : Scan) (it : Item) : Bool :=
  match it.kind with
  | 4 =>
    let w := Route.ofWord (BitVec.ofNat 64 it.num)
    !v.tileOk it.row it.col false || (w.v && !v.tileOk w.trow w.tcol (w.tk == 2)) ||
      (w.v && w.fv && sc.seen.any fun p => p.kind == 4 && p.row == it.row && p.col == it.col && p.index != it.index &&
        (let u := Route.ofWord (BitVec.ofNat 64 p.num)
         u.v && u.fv && u.src == w.src))
  | 5 => !v.tileOk it.row it.col true || (bits it.num 84 1 == 1 && !v.tileOk (bits it.num 64 6) (bits it.num 70 8) false)
  | 8 => !v.tileOk (bits it.num 0 6) (bits it.num 6 8) true
  | 9 => !v.tileOk it.row it.col (it.index == 0) || sc.dataBad it
  | _ => !v.tileOk it.row it.col false

/-- A trigger entry of the element once the load takes effect: the section's, or one that remains. -/
def LoadEnv.trig (v : LoadEnv) (sc : Scan) (row col elem idx : Nat) : BitVec 64 :=
  match sc.seen.reverse.find? fun p => p.kind == 2 && p.row == row && p.col == col && p.elem == elem && p.index == idx with
  | some p => BitVec.ofNat 64 p.num
  | none => v.kept row col elem idx

/-- The queues that operand codes name as sources, and as destinations (R32). -/
def srcQueues (cs : List (BitVec 5)) : List Nat :=
  cs.filterMap fun c => if 16 ≤ c.toNat ∧ c.toNat < 28 then some ((c.toNat - 16) % 6) else none
def dstQueues (cs : List (BitVec 5)) : List Nat := cs.filterMap fun c => if 16 ≤ c.toNat ∧ c.toNat < 22 then some (c.toNat - 16) else none

/-- The queues that a word reads, and those it fills, the implicit ones among them (R84, R264, R272, R324). A `gsend` whose d is 21 names
oq5 as one that it fills, though its response fills iq5 of the element itself: R41 does not say (DESIGN CHOICE, log entry 47). -/
def readsOf (f : Form) : List Nat :=
  srcQueues ((if f.aS.isSrc then [f.fields.a] else []) ++ (if f.bS.isSrc then [f.fields.b] else []))
def fillsOf (f : Form) : List Nat :=
  dstQueues (if f.dS.isDst then [f.fields.d] else []) ++ (match f.path with
    | .req => [5]
    | .gsend | .drain => [4]
    | _ => [])

/-- Check 0x6 (R110, R111): the queues of a word and its trigger; oq5 in the outq of an `otok` counts here, though no ordering
token goes into it (log entry 47). -/
def queuesBad (f : Form) (t : Trig) : Bool :=
  if f.fields.major = 0x29 then
    (f.fields.fn == 1 && ((queuesOf t.inq).length != 1 || (queuesOf t.outq).isEmpty)) ||
      (f.fields.fn == 2 && (decide ((queuesOf t.inq).length < 2) || (queuesOf t.outq).length != 1))
  else (readsOf f).any (fun q => !t.inq.getLsbD q) || (fillsOf f).any (fun q => !t.outq.getLsbD q)

/-- The first failing check of a slot word (Table 2.6); `w` is not the empty slot. -/
def slotCheck (pos : Nat) (w : Word) (trig : BitVec 64) : Option Nat :=
  let F := fieldsOf w
  if (formRows F.major.toNat).isNone ∨ (F.major = 0 ∧ F.fn = 0) then some 1
  else match formOf w with
    | none => some 2
    | some f =>
      let e : ElemId := ⟨⟨0, 0, 0⟩, pos⟩
      if !f.kinds.contains e.kind then some 3
      else if !f.ok then some 4
      else if (readsOf f ++ dstQueues (if f.dS.isDst then [F.d] else [])).any (fun q => !e.hasQueue q) then some 5
      else if queuesBad f (Trig.ofWord trig) then some 6
      else if trig = 0 then some 7
      else none

/-- A trigger entry breaks a condition of R37. -/
def trigBad (t : Trig) : Bool :=
  (t.prim && t.inq == 0) || (!t.prim && !(t.bfix && t.tagm == 0)) || (t.bfix && t.tagm &&& 3 != 0) ||
    t.stv &&& ~~~t.stm != 0 || t.sset &&& t.sclr != 0 || (t.gsel == 7 && (t.gneg || t.gall))

/-- The first failing check of a trigger entry (Table 2.6); `w` is not null. -/
def trigCheck (pos : Nat) (w kept : BitVec 64) : Option Nat :=
  let t := Trig.ofWord w
  let e : ElemId := ⟨⟨0, 0, 0⟩, pos⟩
  if w.getLsbD 63 then some 8
  else if trigBad t then some 9
  else if (queuesOf t.inq ++ queuesOf t.outq).any (fun q => !e.hasQueue q) then some 10
  else if e.kind ≠ .v ∧ !(t.bfix && t.tagv &&& 3 == 0) then some 11
  else if kept ≠ 0 ∧ kept ≠ w then some 12
  else none

/-- The majors whose unnamed queues are ordering inputs and outputs (R87, R248, R324). -/
def hasOrdering (major : Nat) : Bool := decide (0x20 ≤ major) && decide (major ≤ 0x3D) && !(decide (0x34 ≤ major) && decide (major ≤ 0x35))

/-- In an element that feeds no class, a slot fills oq4 other than through `gsend` or `mdrn`, or its trigger makes oq4 an ordering
output of it (check 0xE). -/
def slotOq4Bad (w : Word) (trig : BitVec 64) : Bool :=
  match formOf w with
  | none => false
  | some f =>
    let implicit := f.path == .gsend || f.path == .drain
    (f.dS.isDst && f.fields.d == 20) || ((Trig.ofWord trig).outq.getLsbD 4 && hasOrdering f.fields.major.toNat && !implicit)

/-- The frame and spill areas of a frame word break R144 (check 0xF). -/
def frameBad (n : Nat) : Bool :=
  let u : FrameUnit := { word := BitVec.ofNat 64 n }
  decide (12288 < u.area + 1024 * u.spills)

/-- The die crossings of a path between two tiles of the package: along the row, then along the column (R287, R306). -/
def crossings (r0 c0 r1 c1 : Nat) : List (Nat × Nat × Nat) :=
  ([40, 80, 120].filterMap fun b =>
    if c0 < b ∧ b ≤ c1 then some (0, r0, b) else if c1 < b ∧ b ≤ c0 then some (1, r0, b) else none) ++
    (if r0 < 20 ∧ 20 ≤ r1 then [(2, c1, 20)] else if r1 < 20 ∧ 20 ≤ r0 then [(3, c1, 20)] else [])

/-- The crossings of a class: of the path from its tile, and from each quarter that emits into it (R306). -/
def LoadEnv.classLinks (v : LoadEnv) (items : List Item) (it : Item) : List (Nat × Nat × Nat) :=
  let w := Route.ofWord (BitVec.ofNat 64 it.num)
  let at0 := fun (row col : Nat) => crossings (2 * v.origin.br + row) (2 * v.origin.bc + col) (2 * v.origin.br + w.trow) (2 * v.origin.bc + w.tcol)
  let emits := items.filter fun q => q.kind == 5 && bits q.num 84 1 == 1 && bits q.num 64 6 == it.row && bits q.num 70 8 == it.col &&
    bits q.num 78 6 == it.index
  (at0 it.row it.col ++ emits.flatMap fun q => at0 q.row q.col).eraseDups

/-- The landing grants exceed a crossing (check 0xF, R306). -/
def LoadEnv.landingBad (v : LoadEnv) (items : List Item) : Bool :=
  let uses := (items.filter fun it => it.kind == 4 && (Route.ofWord (BitVec.ofNat 64 it.num)).v).flatMap fun it =>
    (v.classLinks items it).map fun l => (l, (Route.ofWord (BitVec.ofNat 64 it.num)).win)
  uses.any fun u => decide (128 < (uses.filter fun x => x.1 == u.1).foldl (fun n x => n + x.2) 0)

/-- The lines of a line buffer exceed Table 10.3. -/
def quarterParamsBad (n : Nat) : Bool :=
  bits n 0 2 == 2 && decide (262144 < (bits n 25 13 + 1) * 32 * (bits n 17 8 + 1))

/-- The last load checks of an item (0xE, 0xF). -/
def LoadEnv.lastCheck (v : LoadEnv) (sc : Scan) (it : Item) : Option Nat :=
  let fed := sc.feeds it.row it.col it.elem
  match it.kind with
  | 1 =>
    let w := BitVec.ofNat 32 it.num
    if w ≠ 0 ∧ !fed ∧ slotOq4Bad w (v.trig sc it.row it.col it.elem (trigOf w).toNat) then some 14 else none
  | 4 => if v.landingBad (sc.seen ++ [it]) then some 15 else none
  | 5 =>
    if sc.seen.any fun p => p.kind == 5 && p.row == it.row && p.col == it.col && p.index == it.index && p.num != it.num then some 15
    else if quarterParamsBad it.num || v.landingBad (sc.seen ++ [it]) then some 15
    else none
  | 7 =>
    if bits it.num 33 3 = 4 ∧ !fed then some 14 else if frameBad it.num then some 15 else none
  | _ => none

/-- The position record of an item (R284) or, for a slot word or a trigger entry, of the word (Table 2.7). -/
def Item.pos (it : Item) (check : Nat) : Nat :=
  let word := decide (check ≤ 12)
  let trig := if word && it.kind == 1 then (trigOf (BitVec.ofNat 32 it.num)).toNat else it.index
  pack [(0, it.elem), (7, if word && it.kind == 2 then 1 else 0), (8, if word && it.kind == 2 then 0 else it.ctx),
    (10, if word && it.kind == 1 then it.index else 0), (15, trig), (26, it.row), (32, it.col), (40, check)]

/-- The first failing check of an item: its form and order, its target, its word, and then the checks that need the others. -/
def LoadEnv.check (v : LoadEnv) (sc : Scan) (it : Item) : Option Nat :=
  if it.malformed || !sc.inOrder it then some 13
  else if v.badTarget sc it then some 14
  else
    let word := match it.kind with
      | 1 =>
        let w := BitVec.ofNat 32 it.num
        if w = 0 then none else slotCheck it.elem w (v.trig sc it.row it.col it.elem (trigOf w).toNat)
      | 2 => if it.num = 0 then none else trigCheck it.elem (BitVec.ofNat 64 it.num) (v.kept it.row it.col it.elem it.index)
      | _ => none
    match word with
    | some c => some c
    | none => v.lastCheck sc it

/-- Two items belong to one run that R41 scans in index order: the triggers of an element, or the slots of one context of it. -/
def Item.sameRun (a b : Item) : Bool :=
  a.row == b.row && a.col == b.col && a.elem == b.elem && a.rank == b.rank && a.ofElem && b.ofElem && a.kind != 7 && b.kind != 7

/-- The place of an item in its run: triggers and slots by index, constants after the slots. -/
def Item.place (it : Item) : Nat := if it.kind = 3 then 32 + it.index else it.index

/-- An item put before the items of its run that R41 scans after it. -/
def putItem (x : Item) (l : List Item) : List Item :=
  match l with
  | [] => [x]
  | y :: r => if x.sameRun y && decide (y.place < x.place) then y :: putItem x r else x :: y :: r

/-- The items of a section in the order in which the loader checks them: section order, with the triggers 0 to 63 and the slots 0 to 31
of an element in ascending order (R41, R284, log entry 47). -/
def scanOrder (items : List Item) : List Item := items.foldr putItem []

/-- The items of a section in the order of their checks: the position record of the first that fails (R284). -/
def LoadEnv.scan (v : LoadEnv) (sc : Scan) (items : List Item) : Option Nat :=
  match items with
  | [] => none
  | it :: rest => match v.check sc it with
    | some c => some (it.pos c)
    | none => v.scan (sc.step it) rest

/-! ## What a load finds -/

/-- The space of a region's launch. -/
def State.launchSpace (s : State) (l : Launch) : Nat := s.space (lrCtx l.recd)

/-- The trigger entries that remain in a region when the named contexts are unloaded (R39, R298). -/
def State.keptTrig (s : State) (r : Region) (named : BitVec 4) (row col elem idx : Nat) : BitVec 64 :=
  match r.tileAt row col with
  | none => 0
  | some t =>
    let x := s.elem ⟨t, elem⟩
    if (Table.get x.defs idx : BitVec 4) &&& ~~~named = 0 then 0 else Table.get x.trigs idx

/-- The environment of the checks of a variant on a region. -/
def State.loadEnv (s : State) (r : Region) (v : Variant) (items : List Item) : LoadEnv :=
  { rows := 2 * v.rows, cols := 2 * v.cols, origin := r.origin, kept := s.keptTrig r (namedContexts items) }

/-- The variants that a launch allows, in table order (R371, R382). -/
def choices (l : Launch) (vs : List Variant) : List (Nat × Variant) :=
  (List.range vs.length).filterMap fun n =>
    let allowed := match l.saved with
      | some sv => sv.variant == n
      | none => lrMask l.recd == 0 || (lrMask l.recd).testBit n
    if allowed then (vs[n]?).map fun v => (n, v) else none

/-- The variant that a region loads: the one it was placed with, or, in a region that has passed to a successor, the first allowed one
of its shape (R331). -/
def Region.chosen (r : Region) (vs : List Variant) : ImageX (Nat × Variant) :=
  if r.passed then
    match (choices r.task vs).find? fun p => p.2.rows == r.rows && p.2.cols == r.cols with
    | some p => .ok p
    | none => .noVariant
  else
    match vs[r.variant]? with
    | some v => .ok (r.variant, v)
    | none => .reject 0x02 headerPos

/-- The variant that a region loads and its validated items (R284, R331). -/
def State.loadItems (s : State) (r : Region) : ImageX (Nat × List Item) :=
  (s.imageTable r.die (s.launchSpace r.task) r.svc (lrImg r.task.recd)).bind fun h =>
    (r.chosen h.2).bind fun c =>
      (s.image r.die (s.launchSpace r.task) r.svc (lrImg r.task.recd)).bind fun p =>
        let v := c.2
        if !v.good p.1 || v.rows != r.rows || v.cols != r.cols then .reject 0x02 headerPos
        else
          let items := sectionItems p.2.2 v
          match (s.loadEnv r v items).scan {} (scanOrder items) with
          | some pos => .reject 0x02 pos
          | none => .ok (c.1, items)

/-- T, the cycles of a load (R296). -/
def loadCycles (items : List Item) : Nat :=
  let tiles := (items.map fun it => (it.row, it.col)).eraseDups
  let most := tiles.foldl (fun m t =>
    max m ((items.filter fun it => (it.row, it.col) == t).foldl (fun n it => n + it.size) 0)) 0
  48 + (most + 255) / 256

/-! ## What a load writes -/

/-- Bytes of the one map set to zero, empty and clean (R204, R207). -/
def State.wipe (s : State) (a n : Nat) : State :=
  let out := fun (b : Nat) => !(decide (a ≤ b) && decide (b < a + n))
  { s.dropCached a n with mem := s.mem.filter (fun c => out c.1), full := s.full.filter out, pois := s.pois.filter fun p => out p.1 }

/-- A trigger table without the entries that no context outside `named` defines (R39, R298). -/
def Elem.unname (x : Elem) (named : BitVec 4) : Elem :=
  let defs := (x.defs.map fun p => (p.1, p.2 &&& ~~~named)).filter fun p => p.2 != 0
  { x with
    defs := defs
    trigs := x.trigs.filter fun p => defs.any fun q => q.1 == p.1
    ctxs := x.ctxs.filter fun p => !named.getLsbD p.1 }

/-- What every load resets in an element (R297, R350). -/
def Elem.loadReset (x : Elem) : Elem :=
  { x with pref := 0, counters := [], sbBusy := 0, sbStat := [], acs := [], nk := 1, kmask := BitVec.allOnes 64, intake := none
           drain := none, ctl := [], hash := {}
           frame := { x.frame with word := 0, frames := [], lnc := 0, here := [], emitq := [], spill := [], steppedAt := none, servedAt := none, testAt := none } }

/-- The banks of an element as the first load after a grant allocates them (R136, R297). -/
def Elem.allocBanks (x : Elem) (reqtag : BitVec 16) : Elem :=
  (List.range 4).foldl (fun y b => y.modBank b fun k => k.alloc reqtag .active) { x with exits := 0 }

/-- A slot word, trigger entry, constant or frame word is written to its element (Table 14.4). An explicit null trigger item nulls the
entry also where a context that stays resident defines it: R39 does not say what becomes of the kept entry (DESIGN CHOICE, log entry
47). -/
def Elem.loadItem (x : Elem) (it : Item) (named : BitVec 4) : Elem :=
  let ctx := fun (f : ElemCtx → ElemCtx) => { x with ctxs := Table.modify x.ctxs it.ctx f }
  match it.kind with
  | 1 => ctx fun c => { c with slots := Table.set c.slots it.index (BitVec.ofNat 32 it.num) }
  | 2 => { x with trigs := Table.set x.trigs it.index (BitVec.ofNat 64 it.num)
                  defs := Table.set x.defs it.index (Table.get x.defs it.index ||| named) }
  | 3 => ctx fun c => { c with k := Table.set c.k it.index (vecOfNat it.num) }
  | 7 => { x with frame := { x.frame with word := BitVec.ofNat 64 it.num } }
  | _ => x

/-- The bytes of a data item, written where it names (Table 14.4). -/
def State.loadData (s : State) (t : TileId) (it : Item) : State :=
  let off := numOf (it.pay.take 4)
  let a := if it.index = 0 then mtileAddr t off else scratchAddr t ((it.elem - 112) * 0x4000 + off)
  s.storeBytes a (it.pay.drop 4) .clean

/-- One item is written (Table 14.4); quarter words are written before, and window slots after (R204, R293). -/
def State.loadItem (s : State) (r : Region) (named : BitVec 4) (it : Item) : State :=
  match r.tileAt it.row it.col with
  | none => s
  | some t =>
    match it.kind with
    | 1 | 2 | 3 | 7 => s.modElem ⟨t, it.elem⟩ fun x => x.loadItem it named
    | 4 => s.modTile t fun x => { x with routes := Table.set x.routes it.index (BitVec.ofNat 64 it.num) }
    | 6 => s.modPort t it.index fun p => { p with staging := it.num }
    | 9 => s.loadData t it
    | _ => s

/-- The window table of a section (R198, R293). -/
def windowOf (items : List Item) : Table (Option (Nat × Nat)) :=
  items.foldl (fun t it => if it.kind = 8 then Table.set t it.index (some (bits it.num 0 6, bits it.num 6 8)) else t) []

/-- A quarter takes its word, and is cleared where the word changes (R204). -/
def State.setQuarter (s : State) (t : TileId) (q : Nat) (w : BitVec 128) : State :=
  if (s.quarter t q).word = w then s
  else (s.wipe (quarterAddr t q) 0x40000).modQuarter t q fun _ => { word := w }

/-- The quarters of a region's memory tiles as a section sets them (R200, R292). -/
def State.loadQuarters (s : State) (r : Region) (items : List Item) : State :=
  let sc : Scan := { seen := items }
  (r.tiles.filter fun t => !t.isCompute).foldl (fun z t =>
    let p := r.rel t
    (List.range 4).foldl (fun y q => y.setQuarter t q (BitVec.ofNat 128 (sc.quarterWord p.1 p.2 q))) z) s

/-- The elements of a region, all 128 of each compute tile. -/
def Region.elems (r : Region) : List ElemId := (r.tiles.filter TileId.isCompute).flatMap fun t => (List.range 128).map fun p => ⟨t, p⟩

/-- Every element of a region changed. -/
def State.modElems (s : State) (r : Region) (f : Elem → Elem) : State := r.elems.foldl (fun z e => z.modElem e f) s

/-- The region after a load or a fold that names contexts (R298). -/
def Region.name (r : Region) (items : List Item) : Region :=
  let named := namedContexts items
  { r with
    loaded := (r.loaded &&& ~~~named) ||| named
    active := match lowestContext named with
      | some c => BitVec.ofNat 2 c
      | none => r.active
    window := windowOf items }

/-- The items of a validated section take effect on a region (R296 to R298). T is the minimum residency of a region that has never
been restored (R377). Banks take the region's tag at its first load only: after a region has passed to a successor they keep the tags that
the predecessor's fires left (R27; log entry 52). -/
def State.applyLoad (s : State) (rid n : Nat) (items : List Item) : State :=
  let r := s.region rid
  let named := namedContexts items
  let s0 := r.elems.foldl (fun z e => z.cutSpills e r.ctxno fun _ => true) s
  let s1 := s0.modElems r fun x =>
    let y := (x.unname named).loadReset
    if r.first then y.allocBanks r.reqtag else y
  let s2 := (r.tiles.filter TileId.isCompute).foldl (fun z t => z.modTile t fun x =>
    { x with routes := [], entered := [], ports := [], ents := [] }) s1
  let s3 := items.foldl (fun z it => z.loadItem r named it) (s2.loadQuarters r items)
  s3.modRegion rid fun x => { (x.name items) with
    life := .running, waits := false, passed := false, variant := n, first := false, svc := .clear, sw := .running, head := 0
    resid := 0, age := 0, minres := if x.restored then x.minres else loadCycles items, dry := 0, still := 0 }

/-- The number of the variant that a region's load has chosen (R329): in a region that has passed to a successor none before its table
can be read. -/
def State.variantOf (s : State) (r : Region) : Nat :=
  match (s.imageTable r.die (s.launchSpace r.task) r.svc (lrImg r.task.recd)).bind fun h => r.chosen h.2 with
  | .ok c => c.1
  | _ => r.variant

/-- The region ends without running its image (R42): its record takes st 4, and its blocks are free. -/
def State.rejectLoad (s : State) (rid : Nat) (cause : Cause) (pos : Nat) : State :=
  let r := s.region rid
  let s1 := s.writeRec r.die r.task.recd 4 cause (s.variantOf r) pos 0 0
  let s2 := match r.twin with
    | some p => s1.endRegion p.1
    | none => s1
  s2.endRegion rid

/-- A region's successor has no variant of the region's shape (R331): the region is released, and the record takes st 5. -/
def State.endUnshaped (s : State) (rid : Nat) : State :=
  let r := s.region rid
  let s1 := s.writeRec r.die r.task.recd 5 0 0 0 0 0
  match r.twin with
  | some p => (s1.release p.1).release rid
  | none => s1.release rid

/-- The load of a region is under way, and not waiting (R299). -/
def Region.loads (r : Region) : Bool := r.live && (r.life == .restoring || (r.life == .loading && !r.waits))

/-- A page of the image is asked for (R221, R284). -/
def State.loadAsk (s : State) (rid va : Nat) : State :=
  let r := s.region rid
  let a := s.stewAsk r.die r.task.owner (s.launchSpace r.task) 0 va r.svc
  a.1.modRegion rid fun x => { x with svc := a.2 }

/-- `IMAGE_REJECTED` (R42, R284, R331): a check fails, or the image cannot be read, or a successor's image does not fit its region. -/
def execImageRejected (region : Nat) (s : State) : Host.Outcome State Fault Refusal :=
  let r := s.region region
  if r.loads && !r.svc.waits then
    match s.loadItems r with
    | .reject c p => go (s.rejectLoad region c p)
    | .noVariant => go (s.endUnshaped region)
    | .service va => go (s.loadAsk region va)
    | .ok _ => go s
  else go s

/-- `LOAD_TAKES_EFFECT` (R296): the image has passed every check, and takes effect in every tile at once. -/
def execLoadTakesEffect (region : Nat) (s : State) : Host.Outcome State Fault Refusal :=
  let r := s.region region
  if r.loads && r.life == .loading && !r.svc.waits then
    match s.loadItems r with
    | .ok p => go (s.applyLoad region p.1 p.2)
    | .service va => go (s.loadAsk region va)
    | .reject _ _ | .noVariant => go s
  else go s

/-- `LOAD_WAIT_EXPIRY` (R299): the region is not idle within the window: the load is not made, and the region takes stillness. -/
def execLoadWaitExpiry (region : Nat) (s : State) : Host.Outcome State Fault Refusal :=
  let r := s.region region
  if r.live && r.life == .loading && r.waits && decide (s.window r ≤ r.age) && !s.idle r then
    go ((s.modRegion region fun x => { x with life := .running, waits := false, age := 0 }).takeStillness region)
  else go s

end Sys2Proof.Machine
end

