-- ==== Sys2Proof/Machine/Reuse.lean ====
section
/-!
DEFINITION. The reuse of pure tasks (R366, R402 to R411): lookups, hits, offers and insertions.
-/

namespace Sys2Proof.Machine

/-! ## Argument blocks -/

/-- Fields of an argument block (Table 16.4). -/
def abRanges (n : Nat) : Nat := bits n 0 4
def abScalars (n : Nat) : Nat := bits n 4 4
def abResBase (n : Nat) : Nat := bits n 128 57
def abResLen (n : Nat) : Nat := bits n 192 32
def abBase (n i : Nat) : Nat := bits n (256 + 128 * i) 57
def abLen (n i : Nat) : Nat := bits n (320 + 128 * i) 32
def abScalar (n j : Nat) : Nat := bits n (1280 + 32 * j) 32

/-- The bytes of a virtual range that can be read now, without service (R404). -/
def State.readNow (s : State) (die space va len : Nat) : Option (List Byte) :=
  match s.stew die space Need.read .clear va len with
  | .ok segs =>
    let d := s.engineRead segs
    if d.2 = .clean then some d.1 else none
  | _ => none

/-! ## Lookup -/

/-- The seal pairs of a block's ranges (R404): none where the space holds no sealed entry for exactly the range. -/
def State.sealPairs (s : State) (space n : Nat) : List (Option (Nat × BitVec 32)) :=
  (List.range (abRanges n)).map fun i => match s.sealOf space (abBase n i) (abLen n i) with
    | some (k, e) => if e.st == .sealed then some (k, e.gen) else none
    | none => none

/-- The key input of a pure task (R403). -/
def State.keyInput (s : State) (space digest n : Nat) (pairs : List (Option (Nat × BitVec 32))) : List Byte :=
  bytesOf 1 (abRanges n + 16 * abScalars n) ++ bytesOf 32 digest ++
    (pairs.flatMap fun p => match p with
      | some (k, _) => bytesOf 32 (natOfVec (Table.get s.seals k : SealEnt).digest)
      | none => bytesOf 32 0) ++
    ((List.range (abScalars n)).flatMap fun j => bytesOf 4 (abScalar n j)) ++ bytesOf 2 space

/-- A launch with what its lookup records (R404). -/
def State.recordLookup (s : State) (l : Launch) : Launch :=
  let space := s.launchSpace l
  match s.readNow l.die space (lrImg l.recd) 64, s.readNow l.die space (lrArgs l.recd) 192 with
  | some h, some b =>
    let pairs := s.sealPairs space (numOf b)
    { l with key := some (sha3 (s.keyInput space (ihDigest (numOf h)) (numOf b) pairs)), pairs := pairs }
  | _, _ => { l with key := none, pairs := [] }

/-- A die's entry agrees with a lookup in everything but its pairs. -/
def Reuse.matches_ (e : Reuse) (key space : Nat) : Bool := e.st == .live && e.key == key && e.space == space

/-- The live entry that a lookup hits (R404). -/
def State.hitOf (s : State) (l : Launch) : Option (Nat × Reuse) :=
  match l.key with
  | none => none
  | some k =>
    if l.miss || l.pairs.any (·.isNone) then none
    else (s.die l.die).reuse.find? fun p =>
      p.2.matches_ k (s.launchSpace l) && p.2.rlen == abResLen l.args && p.2.pairs.map some == l.pairs

/-- A live entry whose key matches but whose recorded pairs differ is made dead at the lookup (R404). -/
def State.killStale (s : State) (l : Launch) : State :=
  match l.key with
  | none => s
  | some k =>
    let kill := fun (_ : Nat) (e : Reuse) =>
      if e.matches_ k (s.launchSpace l) && e.pairs.map some != l.pairs then { e with st := .dead } else e
    s.modDie l.die fun d => { d with reuse := Table.mapAll d.reuse kill }

/-! ## Hits -/

/-- The hit of a launch. -/
def State.hit? (s : State) (acc : Nat) : Option Hit := s.hits.find? fun h => h.launch.acc == acc

/-- The state without a hit. -/
def State.dropHit (s : State) (acc : Nat) : State := { s with hits := s.hits.filter fun h => h.launch.acc != acc }

/-- The state with a hit changed. -/
def State.modHit (s : State) (acc : Nat) (f : Hit → Hit) : State :=
  { s with hits := s.hits.map fun x => if x.launch.acc = acc then f x else x }

/-- A page of a result range, as a steward of a die translates it, holds a sealed byte (R405). -/
def State.pagesSealed (s : State) (die space va len : Nat) : Bool :=
  (s.pagesOf ⟨die, none⟩ space va len (len / 0x10000 + 2)).any fun p => match p.2 with
    | .page e => s.sealHit space e.vbase e.size
    | _ => false

/-- The aligned 32-byte blocks of some runs, each with its place in the bytes that the runs hold. -/
def segBlocks (segs : List Seg) : List (Nat × Nat × Nat) :=
  (segs.foldl (fun (a : List (Nat × Nat × Nat) × Nat) g =>
    (a.1 ++ (List.range ((g.1 % 32 + g.2 + 31) / 32)).map (fun i =>
      let lo := max g.1 ((g.1 / 32 + i) * 32)
      (a.2 + (lo - g.1), lo, min (g.1 + g.2) ((g.1 / 32 + i + 1) * 32) - lo)), a.2 + g.2)) ([], 0)).1

/-- One block of a hit is written in one step (R405, R236). -/
def State.hitBlock (s : State) (h : Hit) (b : Nat × Nat × Nat) : State :=
  s.storeBytes b.2.1 (Mem.readBytes s.mem ((s.die h.die).rsBase + h.off + b.1) b.2.2) .clean

/-- A hit has written its last block: its record takes st 1, and its entry is the most recently hit (R405). -/
def State.endHit (s : State) (h : Hit) : State :=
  let touch := fun (e : Reuse) => if e.st == .live && e.roff == h.off then { e with used := s.nextId } else e
  { (((s.dropHit h.launch.acc).writeRec h.die h.launch.recd 1 0 0 0 0 0).modDie h.die fun d =>
      { d with reuse := Table.modify d.reuse h.entry touch }) with nextId := s.nextId + 1 }

/-- `REUSE_HIT` (R405): the pages of the result range are translated; then the stored bytes are written block by block, in a free order,
and the record with st 1; or the hit is abandoned and the launch re-enters its queue ahead of its level, its next lookup a miss. -/
def execReuseHit (acc : Nat) (s : State) : Host.Outcome State Fault Refusal :=
  match s.hit? acc with
  | none => go s
  | some h =>
    let l := h.launch
    let space := s.launchSpace l
    let va := abResBase l.args
    let abandon := { s.dropHit acc with queue := { l with miss := true } :: s.queue }
    if h.svc.waits then go s
    else match h.todo with
      | some [] => go (s.endHit h)
      | some (b :: rest) =>
        if s.sealHit space va h.len || s.lostIn [b.2] then go abandon
        else go ((s.hitBlock h b).modHit acc fun x => { x with todo := some rest })
      | none => match s.stew l.die space Need.write h.svc va h.len with
        | .service a =>
          let q := s.stewAsk l.die l.owner space 1 a h.svc
          go (q.1.modHit acc fun x => { x with svc := q.2 })
        | .final _ => go abandon
        | .ok segs =>
          if s.pagesSealed l.die space va h.len || s.lostIn segs then go abandon
          else
            let bs := segBlocks segs
            go ({ s with fresh := s.fresh + bs.length }.modHit acc fun x =>
              { x with todo := some (freeOrder (fun k => Config.blockPlace (s.fresh + k)) 0 bs) })

/-! ## Offers -/

/-- The least recently hit live entry among those that a test admits (R407). -/
def leastUsed (t : Table Reuse) (p : Reuse → Bool) : Option Nat :=
  (t.foldl (fun (b : Option (Nat × Nat)) e =>
    if e.2.st == .live && p e.2 then
      match b with
      | some c => if c.2 ≤ e.2.used then some c else some (e.1, e.2.used)
      | none => some (e.1, e.2.used)
    else b) none).map (·.1)

/-- The dead entries that a test admits are freed; where none is dead, the least recently hit (R407). -/
def freeSome (t : Table Reuse) (p : Reuse → Bool) : Table Reuse :=
  if t.any fun e => e.2.st == .dead && p e.2 then t.filter fun e => !(e.2.st == .dead && p e.2)
  else match leastUsed t p with
    | some n => Table.erase t n
    | none => t

/-- The first offset of a reuse store at which a result has room (R407; log entry 24); `busy` are the bytes that hits under way still
read. -/
def storeGap (t : Table Reuse) (busy : List (Nat × Nat)) (len size : Nat) : Option Nat :=
  let used := ((t.map (·.2)).filter fun e => e.st != .free).map (fun e => (e.roff, e.rlen)) ++ busy
  let fits := fun (o : Nat) => decide (o + len ≤ size) && used.all fun e => !overlap o len e.1 e.2
  ((0 :: used.map fun e => e.1 + e.2).filter fits).min?

/-- Entries are freed until the store has room (R407, step 3). -/
def roomInStore (t : Table Reuse) (busy : List (Nat × Nat)) (len size fuel : Nat) : Table Reuse :=
  match fuel with
  | 0 => t
  | k + 1 => if (storeGap t busy len size).isSome then t else roomInStore (freeSome t fun _ => true) busy len size k

/-- The entries of a table that are not free. -/
def heldBy (t : Table Reuse) (p : Reuse → Bool) : Nat := (t.filter fun e => e.2.st != .free && p e.2).length

/-- Room for an entry of a space (R407). -/
def makeRoom (t : Table Reuse) (busy : List (Nat × Nat)) (space quota len size : Nat) : Table Reuse :=
  let t1 := if quota ≤ heldBy t (fun e => e.space == space) then freeSome t fun e => e.space == space else t
  let t2 := if 65536 ≤ heldBy t1 (fun _ => true) then freeSome t1 fun _ => true else t1
  roomInStore t2 busy len size (t2.length + 1)

/-- A recorded pair still holds (R406). -/
def State.pairHolds (s : State) (p : Option (Nat × BitVec 32)) : Bool :=
  match p with
  | some (k, g) =>
    let e : SealEnt := Table.get s.seals k
    e.st == .sealed && e.gen == g
  | none => false

/-- An entry of the reuse table is made for a task (R406): the state, with the entry inserting, or none where the offer ends; a space whose
quota is taken up by entries still being inserted makes none (R407). -/
def State.offer (s : State) (rid : Nat) : Option State :=
  let r := s.region rid
  let l := r.task
  let d := s.die l.die
  let space := s.launchSpace l
  let quota := (Table.get d.quota space : Nat)
  match l.key with
  | none => none
  | some k =>
    if r.impure || !l.pairs.all s.pairHolds || decide (16777216 < r.resLen) || decide (d.rsLen < r.resLen) || quota == 0 ||
        d.reuse.any (fun p => p.2.st == .live && p.2.key == k) then none
    else
      let busy := (s.hits.filter fun h => h.die == l.die).map fun h => (h.off, h.len)
      let t := makeRoom d.reuse busy space quota r.resLen d.rsLen
      match (if quota ≤ heldBy t (fun e => e.space == space) then none else storeGap t busy r.resLen d.rsLen), (List.range 65536).find? fun n => (Table.get t n : Reuse).st == .free with
      | some off, some n =>
        let e : Reuse := { key := k, space := space, st := .inserting, rlen := r.resLen, roff := off
                           pairs := l.pairs.filterMap id, owner := l.owner }
        some ((s.modDie l.die fun x => { x with reuse := Table.set t n e }).modRegion rid fun x => { x with inserting := some n })
      | _, _ => none

/-- `REUSE_INSERTION` (R406, R411): the result bytes are copied into the reuse store and the entry becomes live, or the insertion is
abandoned. -/
def execReuseInsertion (region : Nat) (s : State) : Host.Outcome State Fault Refusal :=
  let r := s.region region
  let d := s.die r.task.die
  let space := s.launchSpace r.task
  match r.inserting with
  | none => go s
  | some n =>
    let ends := fun (z : State) => z.modRegion region fun x => { x with inserting := none, offered := true, svc := .clear }
    let put := fun (z : State) (e : Reuse) => z.modDie r.task.die fun x => { x with reuse := Table.set x.reuse n e }
    if (Table.get d.reuse n : Reuse).st ≠ ReuseSt.inserting then go (ends s)
    else if r.svc.waits then go s
    else match s.stew r.task.die space Need.read r.svc r.resBase r.resLen with
      | .service va =>
        let a := s.stewAsk r.task.die r.task.owner space 0 va r.svc
        go (a.1.modRegion region fun x => { x with svc := a.2 })
      | .final _ => go (ends (put s {}))
      | .ok segs =>
        let b := s.engineRead segs
        if b.2 ≠ .clean then go (ends (put s {}))
        else
          let e : Reuse := Table.get d.reuse n
          let s1 := (s.dropCached (d.rsBase + e.roff) b.1.length).pokeBytes (d.rsBase + e.roff) b.1
          go (ends (put { s1 with nextId := s.nextId + 1 } { e with st := .live, used := s.nextId }))

end Sys2Proof.Machine
end

