-- ==== Sys2Proof/Machine/Sched.lean ====
section
/-!
DEFINITION. The package scheduler (R369 to R373), pre-emption (R375 to R377), folds (R378 to R380, R458), saves and restores (R381,
R382), the end of a task by `tdone` (R331, R335), and stillness (R385).
-/

namespace Sys2Proof.Machine

/-! ## Pairs and queue entries -/

/-- The state with a queued launch changed. -/
def State.modLaunch (s : State) (acc : Nat) (f : Launch → Launch) : State :=
  { s with queue := s.queue.map fun l => if l.acc = acc then f l else l }

/-- The state without a queued launch. -/
def State.dropLaunch (s : State) (acc : Nat) : State := { s with queue := s.queue.filter fun l => l.acc != acc }

/-- A queued launch waits for a page (R221). -/
def State.launchAsk (s : State) (l : Launch) (va : Nat) : State :=
  let a := s.stewAsk l.die l.owner (s.launchSpace l) 0 va l.svc
  a.1.modLaunch l.acc fun x => { x with svc := a.2 }

/-! ## Dependences -/

/-- What the queue finds of a dependence (R330). -/
inductive DepX where
  | met
  | waits
  | failed
  | service (va : Nat)
  deriving DecidableEq, Repr, Inhabited

/-- One named completion record (R330). -/
def State.depOf (s : State) (l : Launch) (va : Nat) : DepX :=
  match s.stew l.die (s.launchSpace l) Need.read l.svc va 64 with
  | .service a => .service a
  | .final _ => .failed
  | .ok segs =>
    let d := s.engineRead segs
    let n := numOf d.1
    if d.2 ≠ .clean then .failed else if bits n 0 1 = 0 then .waits else if bits n 1 3 ≤ 1 then .met else .failed

/-- Two dependences together: a failure decides, then a page to be served, then a wait. -/
def DepX.both (a b : DepX) : DepX :=
  match a, b with
  | .failed, _ => .failed
  | _, .failed => .failed
  | .service v, _ => .service v
  | _, .service v => .service v
  | .met, .met => .met
  | _, _ => .waits

/-- The dependences from `i` on that a launch names. -/
def State.depsFrom (s : State) (l : Launch) (is : List Nat) : DepX :=
  is.foldl (fun x i => if lrDep l.recd i = 0 then x else x.both (s.depOf l (lrDep l.recd i))) .met

/-- The dependences of an entry (R330, R331): a next launch whose predecessor's record is final has missed its region; an entry that
has been ready once is not judged again. -/
def State.depsOf (s : State) (l : Launch) : DepX :=
  if l.saved.isSome || l.miss then .met
  else if lrNext l.recd then
    match s.depOf l (lrDep l.recd 0) with
    | .met => .failed
    | x => x.both (s.depsFrom l [1, 2, 3])
  else s.depsFrom l [0, 1, 2, 3]

/-- One entry of the queue is judged (R330): its record is written with st 6 where a dependence has failed. -/
def State.judge (s : State) (l : Launch) : State :=
  if l.svc.waits then s
  else match s.depsOf l with
    | .failed => (s.dropLaunch l.acc).writeRec l.die l.recd 6 0 0 0 0 0
    | .service va => s.launchAsk l va
    | _ => s

/-- The candidate (R370): the first ready entry of the highest level; a successor is one once it has been saved (R331, R382). -/
def State.candidate (s : State) : Option Launch :=
  (s.queue.filter fun l => (!lrNext l.recd || l.saved.isSome) && s.depsOf l == .met).foldl (fun (b : Option Launch) l =>
    match b with
    | none => some l
    | some k => if lrPrio k.recd < lrPrio l.recd then some l else b) none

/-! ## Places -/

/-- The origins within a die (R371). -/
def originsIn (die rows cols : Nat) : List BlockId :=
  (List.range (11 - rows)).flatMap fun br => (List.range (21 - cols)).map fun bc => ⟨10 * (die / 4) + br, 20 * (die % 4) + bc⟩

/-- A placement crosses a die edge. -/
def crossesDie (rows cols : Nat) (o : BlockId) : Bool := decide (10 < o.br % 10 + rows) || decide (20 < o.bc % 20 + cols)

/-- The placements of a variant in the order of R371. -/
def placesOf (die : Nat) (v : Variant) : List BlockId :=
  originsIn die v.rows v.cols ++ ((List.range 8).filter (· != die)).flatMap (fun d => originsIn d v.rows v.cols) ++
    (((List.range (21 - v.rows)).flatMap fun br => (List.range (81 - v.cols)).map fun bc => (⟨br, bc⟩ : BlockId)).filter
      (crossesDie v.rows v.cols))

/-- The regions that overlap a placement. -/
def State.overlapping (s : State) (o : BlockId) (v : Variant) : List Nat :=
  (s.regions.filter fun p => (rectBlocks o v.rows v.cols).any p.2.hasBlock).map (·.1)

/-- Two placements share no block and no island (R372). -/
def apart (v : Variant) (o q : BlockId) : Bool :=
  let bs := rectBlocks o v.rows v.cols
  let isl := bs.flatMap fun b => (blockTiles b).map TileId.island
  (rectBlocks q v.rows v.cols).all fun b => !bs.contains b && (blockTiles b).all fun t => !isl.contains (TileId.island t)

/-- The first placement that a test admits; for a twin pair, with the first after it that stands apart (R372). -/
def firstPlaces (die : Nat) (v : Variant) (twin : Bool) (ok : BlockId → Bool) : Option (List BlockId) :=
  let ps := placesOf die v
  match ps.find? ok with
  | none => none
  | some o => if twin then (ps.find? fun q => ok q && apart v o q).map fun q => [o, q] else some [o]

/-- The launch runs in a twin pair (R372). -/
def State.twinned (s : State) (l : Launch) : Bool :=
  match l.saved with
  | some _ => l.saved1.isSome
  | none => s.ccb (lrCtx l.recd) 15 1 == 1

/-! ## Grants -/

/-- The region that a placement of a launch becomes (R373). -/
def newRegion (l : Launch) (n : Nat) (v : Variant) (o : BlockId) (twin : Option (Nat × Bool)) : Region :=
  { live := true, ctxno := lrCtx l.recd, reqtag := lrTag l.recd, origin := o, rows := v.rows, cols := v.cols
    resBase := abResBase l.args, resLen := abResLen l.args, pure := lrPure l.recd, nsc := abScalars l.args, twin := twin
    task := { l with svc := .clear }, variant := n, life := if l.saved.isSome then .restoring else .loading }

/-- The memory of a block's tiles zeroed, emptied and cleaned (R207). -/
def State.clearBlock (s : State) (b : BlockId) : State :=
  (blockTiles b).foldl (fun z t =>
    if t.isCompute then z.wipe (scratchAddr t 0) 0x20000
    else { z.wipe (mtileAddr t 0) 0x100000 with mtiles := Table.erase z.mtiles t.key }) s

/-- The blocks that a context other than their last owner receives are cleared (R207); a restore clears none (R382). -/
def State.clearFor (s : State) (r : Region) : State :=
  if r.life = .restoring then s
  else r.blocks.foldl (fun z b =>
    if (Table.get z.lastOwner (b.br * 80 + b.bc) : Option (BitVec 14)) = some r.ctxno then z else z.clearBlock b) s

/-- A region is granted, under the next name. -/
def State.grantOne (s : State) (r : Region) : State :=
  { s.clearFor r with regions := Table.set s.regions s.nextId r, nextId := s.nextId + 1 }

/-- A launch leaves its queue for its placement (R370, R372, R373). -/
def State.grant (s : State) (l : Launch) (n : Nat) (v : Variant) (places : List BlockId) : State :=
  let s1 := s.dropLaunch l.acc
  let k := s.nextId
  match places with
  | [o] => s1.grantOne (newRegion l n v o none)
  | [o, q] => (s1.grantOne (newRegion l n v o (some (k + 1, true)))).grantOne (newRegion l n v q (some (k, false)))
  | _ => s

/-! ## Folds -/

/-- The fold map on tiles and on elements (R378). -/
def foldTile (r : Region) (v : Variant) (t : TileId) : TileId :=
  (r.tileAt ((r.rel t).1 % (2 * v.rows)) ((r.rel t).2 % (2 * v.cols))).getD t
def foldElem (r : Region) (v : Variant) (e : ElemId) : ElemId := ⟨foldTile r v e.tile, e.pos⟩

/-- The elements that a section loads, by row, column and position. -/
def loadedElems (items : List Item) : List (Nat × Nat × Nat) :=
  ((items.filter Item.ofElem).map fun it => (it.row, it.col, it.elem)).eraseDups

/-- The tiles of a section that hold tile services (R378). -/
def serviceTiles (items : List Item) : List (Nat × Nat) :=
  ((items.filter fun it => (it.ofElem && decide (120 ≤ it.elem)) || it.kind == 4 || it.kind == 6).map fun it => (it.row, it.col)).eraseDups

/-- A list holds no thing twice. -/
def noRepeats {α : Type} [BEq α] (l : List α) : Bool := l.eraseDups.length == l.length

/-- The fold map keeps the loaded elements and the tile services apart (R378). -/
def foldApart (v : Variant) (items : List Item) : Bool :=
  noRepeats ((loadedElems items).map fun e => (e.1 % (2 * v.rows), e.2.1 % (2 * v.cols), e.2.2)) &&
    noRepeats ((serviceTiles items).map fun t => (t.1 % (2 * v.rows), t.2 % (2 * v.cols)))

/-- The items that a fold writes (R379). -/
def foldItems (items : List Item) : List Item :=
  items.filter fun it => it.kind == 1 || it.kind == 2 || it.kind == 3 || it.kind == 4 || it.kind == 8

/-- The checks of the items that a fold writes (R458). -/
def LoadEnv.scanFold (v : LoadEnv) (sc : Scan) (items : List Item) : Bool :=
  match items with
  | [] => true
  | it :: rest => ((foldItems [it]).isEmpty || (v.check sc it).isNone) && v.scanFold (sc.step it) rest

/-- The image of a region's task: its header, its table, its bytes and the items of the running variant. -/
def State.runningImage (s : State) (r : Region) : ImageX (Nat × List Variant × List Byte × List Item) :=
  (s.image r.die (s.launchSpace r.task) r.svc (lrImg r.task.recd)).bind fun p =>
    match p.2.1[r.variant]? with
    | some v => if v.good p.1 then .ok (p.1, p.2.1, p.2.2, sectionItems p.2.2 v) else .reject 0x02 headerPos
    | none => .reject 0x02 headerPos

/-- The fold of a region to a variant passes its validation (R458). -/
def State.foldValid (s : State) (r : Region) (v : Variant) (img : List Byte) : Bool :=
  let items := sectionItems img v
  (s.loadEnv r v items).scanFold {} items

/-- What pre-emption asks of a victim (R376, R378, R458). -/
inductive Shrink where
  | fold (n : Nat)
  /-- The first target fails its validation, and is no target again. -/
  | bad (n : Nat)
  | save
  /-- A page of its image is to be served first (R221, R284). -/
  | service (va : Nat)
  deriving DecidableEq, Repr, Inhabited

/-- The kept rectangle of a fold leaves blocks free, in both regions of a pair. -/
def State.foldClears (s : State) (rid : Nat) (v : Variant) (need : List BlockId) : Bool :=
  (s.pair rid).all fun n => (rectBlocks (s.region n).origin v.rows v.cols).all fun b => !need.contains b

/-- The first fold target of a region that leaves blocks free (R378). -/
def State.shrink (s : State) (rid : Nat) (need : List BlockId) : Shrink :=
  let r := s.region rid
  match s.runningImage r with
  | .service va => .service va
  | .reject _ _ | .noVariant => .save
  | .ok (h, vs, img, items) =>
    let target := fun (p : Nat × Variant) =>
      p.2.good h && decide (r.variant < p.1) && !r.task.noFold.contains p.1 && decide (p.2.rows ≤ r.rows) && decide (p.2.cols ≤ r.cols) &&
        foldApart p.2 items && s.foldClears rid p.2 need
    match (choices { r.task with saved := none } vs).find? target with
    | none => .save
    | some p => if s.foldValid r p.2 img then .fold p.1 else .bad p.1

/-! ## Pre-emption -/

/-- A victim that R376 accepts. -/
def State.victimOk (s : State) (l : Launch) (rid : Nat) : Bool :=
  let r := s.region rid
  let p := lrPrio r.task.recd
  r.life == .running && (decide (p < lrPrio l.recd) || (p == lrPrio l.recd && decide (s.ccb r.ctxno 64 64 ≤ r.resid))) &&
    decide (r.minres ≤ r.resid)

/-- The victims of placements, with their partners (R372, R376). -/
def State.victims (s : State) (v : Variant) (places : List BlockId) : List Nat :=
  ((places.flatMap fun o => s.overlapping o v).flatMap s.pair).eraseDups

/-- A victim is asked to fold or to be saved (R376), unless it has been asked already; a page of its image that can be served is
served before it is known which (R458). -/
def State.preempt (s : State) (need : List BlockId) (rid : Nat) : State :=
  if (s.pair rid).any fun n => (s.region n).fold.isSome || (s.region n).saveAsked || (s.region n).svc.waits then s
  else match s.shrink rid need with
  | .service va => s.loadAsk rid va
  | .fold n => s.modPair rid fun r => { r with fold := some n }
  | .bad n => s.modPair rid fun r => { r with saveAsked := true, task := { r.task with noFold := r.task.noFold ++ [n] } }
  | .save => s.modPair rid fun r => { r with saveAsked := true }

/-- A region can take up a pre-emption request (R375). -/
def Region.yields (r : Region) : Bool := r.live && r.life == .running && r.sw == .running && r.hphase == .off

/-- A pending request of a region, and of its partner, is taken up (R375, R377); a fault that is taken now goes first (R438). -/
def State.takeUp (s : State) (rid : Nat) : State :=
  let r := s.region rid
  if ((s.pair rid).all fun n => (s.region n).yields) && !s.takesNow rid then
    if r.fold.isSome then s.modPair rid fun x => { x with life := .folding, age := 0 }
    else if r.saveAsked && (s.pair rid).all fun n => decide ((s.region n).minres ≤ (s.region n).resid) then s.modPair rid fun x => { x with life := .saving, age := 0 }
    else s
  else s

/-- Every pending request. -/
def State.takeUpAll (s : State) : State := (s.regions.map (·.1)).foldl State.takeUp s

/-- No placement is free: the first acceptable placement's victims are pre-empted (R376). -/
def State.makeWay (s : State) (l : Launch) (vs : List (Nat × Variant)) : State :=
  let ok := fun (v : Variant) (o : BlockId) => (s.victims v [o]).all (s.victimOk l)
  match vs.findSome? fun p => (firstPlaces l.die p.2 (s.twinned l) (ok p.2)).map fun ps => (p.2, ps) with
  | none => s
  | some (v, ps) => (s.victims v ps).foldl (State.preempt · (ps.flatMap fun o => rectBlocks o v.rows v.cols)) s

/-! ## The scheduler -/

/-- A variant has a shape that can be placed. -/
def Variant.shaped (v : Variant) : Bool := decide (1 ≤ v.rows) && decide (v.rows ≤ 20) && decide (1 ≤ v.cols) && decide (v.cols ≤ 80)

/-- The variant that is chosen for a candidate, with its free places (R371): one whose entry gives no shape needs none (log entry
47). -/
def State.choose (s : State) (l : Launch) (cs : List (Nat × Variant)) : Option ((Nat × Variant) × List BlockId) :=
  cs.findSome? fun p =>
    if p.2.shaped then
      (firstPlaces l.die p.2 (s.twinned l) fun o => (s.overlapping o p.2).isEmpty).map fun ps => (p, ps)
    else some (p, [])

/-- A candidate is placed, or way is made for it (R371, R376); an image whose header or chosen variant's entry fails, or that cannot
be read, is rejected (R284). -/
def State.place (s : State) (l : Launch) : State :=
  let reject := fun (c : Cause) (pos : Nat) => (s.dropLaunch l.acc).writeRec l.die l.recd 4 c 0 pos 0 0
  match s.imageTable l.die (s.launchSpace l) l.svc (lrImg l.recd) with
  | .service va => s.launchAsk l va
  | .reject c pos => reject c pos
  | .noVariant => s
  | .ok (h, vs) =>
    match s.choose l (choices l vs) with
    | some (p, ps) => if p.2.good h then s.grant l p.1 p.2 ps else reject 0x02 headerPos
    | none => s.makeWay l (choices l vs)

/-- The candidate of a cycle (R370, R404): a pure one is looked up first; a saved one has been looked up before. -/
def State.schedule (s : State) (l : Launch) : State :=
  if l.svc.waits then s
  else if lrPure l.recd && l.saved.isNone then
    let k := s.recordLookup l
    let s1 := s.killStale k
    match s.hitOf k with
    | some (n, e) =>
      { s1.dropLaunch l.acc with hits := s1.hits ++ [{ launch := k, die := l.die, entry := n, off := e.roff, len := e.rlen }] }
    | none => (s1.modLaunch l.acc fun _ => { k with miss := false }).place { k with miss := false }
  else s.place l

/-- `SCHEDULER_CYCLE` (R370): the dependences are judged, the candidate is looked up or placed, and pending pre-emption requests
are taken up. -/
def execSchedulerCycle (s : State) : Host.Outcome State Fault Refusal :=
  let s1 := s.takeUpAll
  let s2 := s1.queue.foldl State.judge s1
  match s2.candidate with
  | some l => go (s2.schedule l).takeUpAll
  | none => go s2

/-! ## The end of a task by tdone -/

/-- The next launch that takes over a task's region (R331). -/
def State.successor (s : State) (r : Region) : Option Launch :=
  (s.queue.filter fun l => l.die == r.task.die && l.saved.isNone && lrNext l.recd && lrDep l.recd 0 == lrCrec r.task.recd && lrCtx l.recd == r.ctxno &&
    s.depsFrom l [1, 2, 3] == .met).foldl (fun (b : Option Launch) l =>
      match b with
      | none => some l
      | some k => if l.acc < k.acc then some l else b) none

/-- The region as its successor takes it over (R331): the load, which waits as R299 gives, chooses the variant. -/
def Region.passTo (r : Region) (l : Launch) : Region :=
  { r with
    reqtag := lrTag l.recd, task := { l with svc := .clear }, passed := true, variant := 0, life := .loading, waits := true, age := 0, done := none
    pure := lrPure l.recd, impure := false, offered := false, inserting := none, resBase := abResBase l.args
    resLen := abResLen l.args, nsc := abScalars l.args, svc := .clear, saveAsked := false, fold := none }

/-- Both regions of a task are released (R373). -/
def State.releasePair (s : State) (rid : Nat) : State := (s.pair rid).foldl State.release s

/-- The record of a task that has ended by `tdone` (R335). -/
def State.writeDone (s : State) (r : Region) : State := s.writeRec r.die r.task.recd 0 0 r.variant 0 0 (r.done.getD 0)

/-- A finished task's record is written, and its region is released or passes to its successor (R331, R335). -/
def State.finishTask (s : State) (rid : Nat) : State :=
  let r := s.region rid
  match s.successor r with
  | none => (s.writeDone r).releasePair rid
  | some l => ((s.writeDone r).dropLaunch l.acc).modPair rid fun x => x.passTo l

/-- `REGION_IDLE` (R299, R335): a load that waits for the idle region begins; or a finished pure task is offered to the reuse table,
and then, once no purge of its context is under way (R416, log entry 19), the task's record is written and its region released or passed
on. -/
def execRegionIdle (region : Nat) (s : State) : Host.Outcome State Fault Refusal :=
  let r := s.region region
  if r.live && r.life == .loading && r.waits && s.idle r then go (s.modRegion region fun x => { x with waits := false, age := 0 })
  else if r.live && !s.purging r.ctxno && (s.pair region).all fun n => (s.region n).life == .finishing && s.idle (s.region n) then
    let first := match r.twin with
      | some (other, isFirst) => if isFirst then region else other
      | none => region
    let q := s.region first
    if q.inserting.isSome then go s
    else if q.pure && !q.offered then
      match s.offer first with
      | some s1 => go s1
      | none => go (s.modRegion first fun x => { x with offered := true })
    else go (s.finishTask first)
  else go s

/-- `TDONE_SETTLING_EXPIRY` (R335): a region that is not idle within its window after `tdone` takes stillness. -/
def execTdoneSettlingExpiry (region : Nat) (s : State) : Host.Outcome State Fault Refusal :=
  let r := s.region region
  if r.live && r.life == .finishing && decide (s.window r ≤ r.age) && !s.idle r then
    go ((s.modRegion region fun x => { x with age := 0 }).takeStillness region)
  else go s

/-- `STILLNESS` (R385): the counter has reached the window; the drain of a fold takes none (R380). -/
def execStillness (region : Nat) (s : State) : Host.Outcome State Fault Refusal :=
  let r := s.region region
  if r.live && r.life != .folding && decide (s.window r ≤ r.still) then go (s.takeStillness region) else go s

/-! ## What moves with a fold, a save or a restore -/

/-- The request is a command of an engine, which parks or stands still with its engine. -/
def Req.isCommand (r : Req) : Bool :=
  match r.op with
  | .stream _ | .pgsel | .matrix | .drain | .thresh _ _ => true
  | .copy => r.started
  | _ => false

/-- An access lets its region be folded or saved (R379, R381): it is performed, parked, for a page of its unit too (R222), or waits at
a home; commands do not ask, but a copy has performed what it has checked (Table 12.5), and a write stream stands at a token boundary
(R254). -/
def Req.settled (r : Req) : Bool :=
  (r.isCommand && r.todo.isEmpty && !r.midToken) || (r.svc.waits && r.todo.isEmpty) || (match r.stage with
    | .performed | .parked _ => true
    | .waiting _ => r.isSync
    | _ => false)

/-- Every access of a region is performed, parked or waits at a home (R379, R381). -/
def State.settled (s : State) (r : Region) : Bool := s.reqs.all fun q => !r.hasTile q.elem.tile || q.settled

/-- A withdrawn request is issued again where its element now stands (R379, R382). -/
def State.reissue (s : State) (q : Req) : State :=
  if q.space = .g then s.putReq { q with stage := .sent, parts := [], pages := [] }
  else match q.ranges.findSome? fun x => s.holeIn q.elem.tile q.space x.addr x.len with
    | some a => s.parkFinal q 0x05 (a % 2 ^ 32) 0
    | none => s.putReq { q with stage := .atHome, parts := s.localParts q }

/-- Every withdrawn request of a region is issued again. -/
def State.reissueAll (s : State) (rid : Nat) : State :=
  let r := s.region rid
  (s.reqs.filter fun q => r.hasTile q.elem.tile && q.arrival.isSome && q.isSync).foldl State.reissue s

/-- The wait conditions of a region's images name their words where the elements now stand; those that are met become eligible
(R141). -/
def State.resolveWaits (s : State) (rid : Nat) : State :=
  let r := s.region rid
  let cond := fun (m : SpillRec) => match m.cond with
    | .word sp a b => WaitCond.word sp a ((s.localByte m.elem.tile (if sp then .m else .x) a).getD b)
    | c => c
  let put := fun (k : Nat) (x : Elem) =>
    if r.hasTile (ElemId.ofKey k).tile then
      { x with frame := { x.frame with spill := Table.mapAll x.frame.spill fun _ m => { m with cond := cond m } } }
    else x
  let s1 := { s with elems := Table.mapAll s.elems put }
  s1.noteMet fun m => r.hasTile m.elem.tile && s1.condMet m

/-! ## Folding -/

/-- What a fold moves of an element (R379, step 3). -/
def Elem.carry (dst src : Elem) (f : ElemId → ElemId) : Elem :=
  { dst with
    banks := src.banks, pref := src.pref, counters := src.counters, ctl := src.ctl, sbBusy := src.sbBusy, sbStat := src.sbStat
    exits := src.exits, touchFaults := src.touchFaults, ctlOver := src.ctlOver
    frame := { dst.frame with spill := Table.mapAll src.frame.spill fun _ m => { m with elem := f m.elem } } }

/-- What a fold leaves of an element that it has moved. -/
def Elem.leave (x : Elem) : Elem :=
  { x.unload with banks := [], counters := [], ctl := [], sbBusy := 0, sbStat := [], frame := { x.frame with spill := [] } }

/-- The elements of a section that a fold moves, with their images. -/
def foldMoves (r : Region) (v : Variant) (items : List Item) : List (ElemId × ElemId) :=
  (loadedElems items).filterMap fun e => match r.tileAt e.1 e.2.1 with
    | some t => let a : ElemId := ⟨t, e.2.2⟩; if foldElem r v a = a then none else some (a, foldElem r v a)
    | none => none

/-- The tiles whose services a fold moves, with their images. -/
def foldServices (r : Region) (v : Variant) (items : List Item) : List (TileId × TileId) :=
  (serviceTiles items).filterMap fun p => match r.tileAt p.1 p.2 with
    | some t => if foldTile r v t = t then none else some (t, foldTile r v t)
    | none => none

/-- A request as a fold leaves it where it belongs to the region (Table 12.5): a parked copy runs again at its next chunk, and its
fault, unless it is final, is met anew; a read stream issues again what it has not delivered. -/
def Req.folded (q : Req) : Req := { q with preempted := false, ahead := [], svc := if q.op == .copy && q.svc.waits then .clear else q.svc }

/-- The step 3 of R379: elements, tile services, requests and faults go to their places under the fold map. -/
def State.foldMove (s : State) (r : Region) (v : Variant) (items : List Item) : State :=
  let f := foldElem r v
  let at1 := fun (e : ElemId) => if r.hasTile e.tile then f e else e
  let s1 := (foldMoves r v items).foldl (fun z p => (z.modElem p.2 fun x => x.carry (z.elem p.1) f).modElem p.1 Elem.leave) s
  let s2 := (foldServices r v items).foldl (fun z p =>
    let t := z.tile p.1
    (z.modTile p.2 fun x => { x with ports := t.ports, ents := t.ents }).modTile p.1 fun x => { x with ports := [], ents := [] }) s1
  { s2 with
    reqs := s2.reqs.map fun q => if r.hasTile q.elem.tile then { q.folded with elem := f q.elem } else q
    faults := s2.faults.map fun q => { q with elem := at1 q.elem }
    switches := s2.switches.map fun q => { q with elem := at1 q.elem }
    ctlFlight := s2.ctlFlight.map fun c => (at1 c.1, c.2) }

/-- The steps 3 to 6 of R379 on one region. -/
def State.foldTo (s : State) (rid n : Nat) (v : Variant) (old new : List Item) : State :=
  let r := s.region rid
  let ws := foldItems new
  let named := namedContexts ws
  let s1 := s.foldMove r v old
  let s2 := s1.modRegion rid fun x => { x with rows := v.rows, cols := v.cols }
  let k := s2.region rid
  let s3 := (k.tiles.filter TileId.isCompute).foldl (fun z t => z.modTile t fun x => { x with routes := [], entered := [] })
    (s2.modElems k fun x => x.unname named)
  let s4 := ws.foldl (fun z it => z.loadItem k named it) s3
  let s5 := s4.modRegion rid fun x => { (x.name ws) with life := .running, fold := none, age := 0, still := 0, variant := n }
  let gone := r.blocks.filter fun b => !k.hasBlock b
  let left := fun (e : Nat) => gone.contains (ElemId.ofKey e).tile.block
  let s6 := { s5.freeBlocks r.ctxno gone with elems := Table.mapAll s5.elems fun e x => if left e then x.vacate else x }
  (s6.reissueAll rid).resolveWaits rid

/-- A FIFO or line-buffer quarter is empty. -/
def Quarter.isEmpty (q : Quarter) : Bool := q.held.isEmpty && q.lines.isEmpty && q.bursts.isEmpty

/-- A region is drained for a fold (R379, step 1), with its switch controller running (R375). -/
def State.foldReady (s : State) (r : Region) (v : Variant) : Bool :=
  r.sw == .running && s.drained r && s.settled r && (s.mtilesOf r).all fun p =>
    let q := r.rel p.1
    (decide (q.1 < 2 * v.rows) && decide (q.2 < 2 * v.cols)) || p.2.quarters.all fun k => k.2.mode == 0 || k.2.isEmpty

/-- A fold that is not made: the region is saved instead, and the variant is no target again (R458). -/
def State.foldFails (s : State) (rid n : Nat) : State :=
  s.modPair rid fun x =>
    { x with life := .running, fold := none, saveAsked := true, age := 0, still := 0, task := { x.task with noFold := x.task.noFold ++ [n] } }

/-- `FOLD_DRAINED` (R379): the drained region takes its smaller variant. -/
def execFoldDrained (region : Nat) (s : State) : Host.Outcome State Fault Refusal :=
  let r := s.region region
  match r.fold with
  | none => go s
  | some n =>
    if r.life ≠ .folding ∨ r.svc.waits then go s
    else match s.runningImage r with
      | .service va => go (s.loadAsk region va)
      | .reject _ _ | .noVariant => go (s.foldFails region n)
      | .ok (h, vs, img, old) =>
        match vs[n]? with
        | none => go (s.foldFails region n)
        | some v =>
          if !v.good h || !s.foldValid r v img then go (s.foldFails region n)
          else if (s.pair region).all fun k => s.foldReady (s.region k) v then
            go ((s.pair region).foldl (fun z k => z.foldTo k n v old (sectionItems img v)) s)
          else go s

/-- `FOLD_ABANDON` (R380): the drain has lasted the stillness window; the hold is lifted, and the region is saved instead, where a
switch or a trap is under way once it has ended (R301, R375). -/
def execFoldAbandon (region : Nat) (s : State) : Host.Outcome State Fault Refusal :=
  let r := s.region region
  if r.live && r.life == .folding && decide (s.window r ≤ r.age) then
    let free := (s.pair region).all fun n => (s.region n).sw == .running && (s.region n).hphase == .off
    go (s.modPair region fun x =>
      { x with life := if free then .saving else .running, fold := none, saveAsked := true, age := 0, still := 0 })
  else go s

/-! ## Saves -/

/-- The tile that holds a byte of the one map, where a tile does. -/
def tileOfAddr (a : Nat) : Option TileId :=
  if 2 ^ 53 ≤ a then some (TileId.ofKey ((a - 2 ^ 53) / 2 ^ 17))
  else if 2 ^ 52 ≤ a then some (TileId.ofKey ((a - 2 ^ 52) / 2 ^ 20))
  else none

/-- A byte of the one map lies in a tile of a region. -/
def Region.hasAddr (r : Region) (a : Nat) : Bool :=
  match tileOfAddr a with
  | some t => r.hasTile t
  | none => false

/-- What a save writes of a region (R381). -/
def State.savedOf (s : State) (rid : Nat) : Saved :=
  let r := s.region rid
  { origin := r.origin, rows := r.rows, cols := r.cols, variant := r.variant, active := r.active, loaded := r.loaded, head := r.head
    mem := s.mem.filter (fun c => r.hasAddr c.1)
    full := s.full.filter r.hasAddr
    pois := s.pois.filter fun p => r.hasAddr p.1
    elems := s.elems.filter fun p => r.hasTile (ElemId.ofKey p.1).tile
    tiles := s.tiles.filter fun p => r.hasTile (TileId.ofKey p.1)
    mtiles := s.mtiles.filter fun p => r.hasTile (TileId.ofKey p.1)
    reqs := s.reqs.filter fun q => r.hasTile q.elem.tile
    faults := s.faults.filter fun f => f.region == rid
    switches := s.switches.filter fun q => r.hasTile q.elem.tile
    ctls := s.ctlFlight.filter fun c => r.hasTile c.1.tile
    sw := r.sw, impure := r.impure, still := r.still, first := r.first, clock := r.clock }

/-- The bytes of the save area that a save of a region writes: those of its memory tiles and of its S-elements, and 4 KiB of every
compute tile for what else R381 names (log entry 22). -/
def Region.saveLen (r : Region) : Nat :=
  (r.tiles.map fun t => if t.isCompute then 0x21000 else 0x100000).sum

/-- A run of bytes of the one map replaced by bytes of a function, but for those that are kept; a granule that is replaced whole is clean. -/
def State.writeRun (s : State) (a n : Nat) (f : Nat → Byte) (keep : Nat → Bool) : State :=
  let z := ((List.range n).filter fun k => !keep k).foldl (fun z k => z.pokeBytes (a + k) [f k]) (s.dropCached a n)
  let whole := fun (g : Nat) => decide (a ≤ g) && decide (g + 32 ≤ a + n) && (List.range 32).all fun k => !keep (g - a + k)
  { z with pois := z.pois.filter fun p => !whole p.1 }

/-- The pages of a save area from `va` on, once they are translated, take what the save writes: the layout is the steward's own, so that
each byte is a free value (R381, log entry 22). A sealed byte (R341), or one behind a lost link (R212), keeps what it holds. -/
def State.writeSave (s : State) (space va : Nat) (segs : List Seg) : State :=
  let put := fun (z : State × Nat) (g : Seg) =>
    (z.1.writeRun g.1 g.2 (Config.savedByte s.fresh g.1) (fun k => s.sealHit space (va + z.2 + k) 1 || s.linkLost (g.1 + k)), z.2 + g.2)
  { (segs.foldl put (s, 0)).1 with fresh := s.fresh + 1 }

/-- The rows of the hash quarters of a region that has left its blocks, closed: what they held is saved. -/
def State.closeRows (s : State) (r : Region) : State :=
  { s with mtiles := Table.mapAll s.mtiles fun k m =>
      if r.hasTile (TileId.ofKey k) then
        { m with quarters := Table.mapAll m.quarters fun _ q => { q with row := .closed, log := [], held := [], bursts := [], sending := none, lines := [] } }
      else m }

/-- A saved region leaves its blocks: what it held in them is in its record. -/
def State.leaveBlocks (s : State) (rid : Nat) : State :=
  let r := s.region rid
  let gone := (s.reqs.filter fun q => r.hasTile q.elem.tile).map (·.id)
  (({ s with
      reqs := s.reqs.filter fun q => !r.hasTile q.elem.tile
      dies := Table.mapAll s.dies fun _ d => { d with sealq := d.sealq.filter fun n => !gone.contains n } }).closeRows r).endRegion rid

/-- `SAVE_WRITTEN` (R381, R382): the region's state is in the save area, its blocks are free, and its task is queued again, ahead of
its level. -/
def execSaveWritten (region : Nat) (s : State) : Host.Outcome State Fault Refusal :=
  let r := s.region region
  let ready := fun (k : Region) => k.life == .saving && k.sw == .running && s.settled k && !k.svc.waits
  if r.live && (s.pair region).all fun n => ready (s.region n) then
    match s.stew r.die (s.launchSpace r.task) Need.write r.svc (s.ccb r.ctxno 320 57) r.saveLen with
    | .service va => go (s.loadAsk region va)
    | x =>
      let segs := match x with
        | .ok l => l
        | _ => []
      let ids := match r.twin with
        | some (o, true) => [region, o]
        | some (o, false) => [o, region]
        | none => [region]
      let task := { r.task with
        saved := ids.head?.map s.savedOf
        saved1 := (ids[1]?).map s.savedOf
        svc := .clear }
      go { ids.foldl State.leaveBlocks (s.writeSave (s.launchSpace r.task) (s.ccb r.ctxno 320 57) segs) with queue := task :: s.queue }
  else go s

/-! ## Restores -/

/-- A tile at the place that corresponds to it when a rectangle moves from one origin to another. -/
def shiftTile (o n : BlockId) (t : TileId) : TileId :=
  (TileId.ofPackage (t.prow + 2 * (n.br : Int) - 2 * o.br) (t.pcol + 2 * (n.bc : Int) - 2 * o.bc)).getD t
def shiftElem (o n : BlockId) (e : ElemId) : ElemId := ⟨shiftTile o n e.tile, e.pos⟩

/-- A byte of the one map, moved with its tile. -/
def shiftAddr (o n : BlockId) (a : Nat) : Nat :=
  if 2 ^ 53 ≤ a then scratchAddr (shiftTile o n (TileId.ofKey ((a - 2 ^ 53) / 2 ^ 17))) ((a - 2 ^ 53) % 2 ^ 17)
  else if 2 ^ 52 ≤ a then mtileAddr (shiftTile o n (TileId.ofKey ((a - 2 ^ 52) / 2 ^ 20))) ((a - 2 ^ 52) % 2 ^ 20)
  else a

/-- A saved element where it is restored: its configuration is what the load has written, and the steward's injection word stays
(R312). -/
def Elem.restored (x now : Elem) (f : ElemId → ElemId) (g : TileId → TileId) : Elem :=
  { x with
    ctxs := now.ctxs, trigs := now.trigs, defs := now.defs, injw := now.injw
    hash := { x.hash with tile := x.hash.tile.map g }
    frame := { x.frame with
      word := now.frame.word
      spill := Table.mapAll x.frame.spill fun _ m => { m with elem := f m.elem } } }

/-- A saved request where it is restored (R223, R382): a parked access is parked again under its record, and a copy runs again at its
next chunk, where only a final fault stands (Table 12.5). -/
def Req.restored (q : Req) (f : ElemId → ElemId) (g : TileId → TileId) (a : Nat → Nat) : Req :=
  { q.folded with
    elem := f q.elem
    blk := if q.isHash && q.started then
        let h := HashReg.ofCode q.blk
        match h.tile with
        | some t => h.code (g t)
        | none => q.blk
      else q.blk
    parts := q.parts.map fun p => { p with addr := a p.addr } }

/-- A saved token of a class where it is restored: at its source's router. -/
def Flit.restored (f : Flit) (g : TileId → TileId) : Flit := { f with src := g f.src, hop := 0, arr := 0, landed := false }

/-- A saved tile where it is restored: its routes are what the load has written, and its monitor, its misroute count, its cache and
its TLB are the tile's own. -/
def Tile.restored (x now : Tile) (g : TileId → TileId) : Tile :=
  { x with
    routes := now.routes, mon := now.mon, misroute := now.misroute, cache := now.cache, tlb := now.tlb
    classes := x.classes.map fun (c : Nat × List Flit) => (c.1, c.2.map fun t => t.restored g) }

/-- The fault of a parked access that the driver has refused while its region was saved (R222). -/
def State.recordRefused (s : State) (q : Req) : State :=
  match q.stage with
  | .parked p => if p.final && !s.faults.any fun f => f.req == some q.id then s.parkFinal q p.cause p.addr ((p.tr.map (·.2)).getD 0) else s
  | _ => s

/-- The seals of a restored region that are parked while their ranges are hashed wait for their die's engine again. -/
def State.requeueSeals (s : State) (qs : List Req) : State :=
  qs.foldl (fun z q => match q.op with
    | .sealRange _ _ => if q.started then z.modDie q.elem.tile.die fun d => { d with sealq := d.sealq ++ [q.id] } else z
    | _ => z) s

/-- A saved state is written back into a region (R382). -/
def State.putBack (s : State) (rid : Nat) (v : Saved) : State :=
  let r := s.region rid
  let f := shiftElem v.origin r.origin
  let g := shiftTile v.origin r.origin
  let a := shiftAddr v.origin r.origin
  let s1 := { s.dropBlocks (fun b => r.hasAddr b || r.hasAddr (b + 63)) with
    mem := v.mem.foldl (fun m (c : Host.Cell) => Mem.write m (a c.1) c.2) (s.mem.filter fun c => !r.hasAddr c.1)
    full := v.full.foldl (fun l x => insertAsc l (a x)) (s.full.filter fun x => !r.hasAddr x)
    pois := v.pois.foldl (fun t (p : Nat × Poison) => Table.set t (a p.1) p.2) (s.pois.filter fun p => !r.hasAddr p.1)
    reqs := s.reqs ++ v.reqs.map fun (q : Req) => q.restored f g a
    mtiles := s.mtiles.filter fun p => !r.hasTile (TileId.ofKey p.1)
    faults := s.faults ++ v.faults.map fun (q : FaultRec) => { q with region := rid, elem := if q.cause = 0x0B then q.elem else f q.elem }
    switches := s.switches ++ v.switches.map fun (q : SwitchReq) => { q with elem := f q.elem }
    ctlFlight := s.ctlFlight ++ v.ctls.map fun (c : ElemId × Nat) => (f c.1, c.2) }
  let s2 := v.elems.foldl (fun z (p : Nat × Elem) => z.modElem (f (ElemId.ofKey p.1)) fun x => p.2.restored x f g) s1
  let s3 := v.tiles.foldl (fun z (p : Nat × Tile) => z.modTile (g (TileId.ofKey p.1)) fun x => p.2.restored x g) s2
  let s4 := v.mtiles.foldl (fun z (p : Nat × MemTile) => { z with mtiles := Table.set z.mtiles (g (TileId.ofKey p.1)).key p.2 }) s3
  let s5 := s4.modRegion rid fun x =>
    { x with active := v.active, head := v.head, impure := v.impure, minres := x.rage, restored := true, clock := v.clock, rage := 0, resid := 0, life := .running }
  let qs := v.reqs.map fun (q : Req) => q.restored f g a
  ((qs.foldl State.recordRefused (s5.requeueSeals qs)).reissueAll rid).resolveWaits rid

/-- `RESTORE_WRITTEN` (R377, R382): the configuration items are loaded, the saved state stands again, and the withdrawn requests are
reissued. -/
def execRestoreWritten (region : Nat) (s : State) : Host.Outcome State Fault Refusal :=
  let r := s.region region
  let v := match r.twin with
    | some (_, false) => r.task.saved1
    | _ => r.task.saved
  match v with
  | none => go s
  | some v =>
    if r.live && r.life == .restoring && !r.svc.waits then
      match s.loadItems r with
      | .ok p =>
        let s1 := s.modRegion region fun x => { x with task := { x.task with saved := none, saved1 := none } }
        let s2 := s1.applyLoad region p.1 p.2
        go ((s2.modRegion region fun x => { x with rage := r.rage }).putBack region v)
      | .service va => go (s.loadAsk region va)
      | .reject _ _ | .noVariant => go s
    else go s

end Sys2Proof.Machine
end

