-- ==== Sys2Proof/Machine/Faults.lean ====
section
/-!
DEFINITION. Traps, faults and containment: the retire unit (R419, R420), the taking of faults and handler mode (R421 to R427), purges
(R429 to R432), errors in a structure's own storage (R433, R434), and the exit comparators of twin regions (R435 to R437).
-/

namespace Sys2Proof.Machine

/-! ## The retire unit -/

/-- The live tag with the least distance from the head (R419). -/
def nextHead (h : BitVec 16) (l : List (BitVec 16)) : Option (BitVec 16) :=
  l.foldl (fun (b : Option (BitVec 16)) t =>
    match b with
    | none => some t
    | some u => if (t - h).toNat < (u - h).toNat then some t else b) none

/-- Where an exit entry goes when it leaves its gateway (R420, R435). -/
def Req.leaveGate (q : Req) : Stage := if q.parts.isEmpty then .sent else .atHome

/-- An exit entry passes its gateway, and with it, in a twin pair, the agreeing entry of the other copy (R420, R435). -/
def State.pairPasses (s : State) (q : Req) : Bool :=
  (q :: (q.mate.bind s.req?).toList ++ s.reqs.filter fun m => m.mate == some q.id).all fun m =>
    s.exitPasses m.elem.tile m.itertag m.inHandler

/-- The held entries that pass leave in the order in which they were held (R420). -/
def State.releaseHeld (s : State) (rid : Nat) : State :=
  let here := fun (q : Req) => (s.pair rid).any fun n => (s.region n).hasTile q.elem.tile
  (s.reqs.filter fun q => here q && q.stage == .exitHeld && s.pairPasses q).foldl (fun z q => z.putReq { q with stage := q.leaveGate }) s

/-- `RETIRE_HEAD` (R419, R420): the head moves to the nearest live iteration when it is not live itself, and the held exit entries
of the head leave. -/
def execRetireHead (region : Nat) (s : State) : Host.Outcome State Fault Refusal :=
  let r := s.region region
  if !r.live then go s
  else
    let l := s.liveTags region
    let h := if l.contains r.head then r.head else (nextHead r.head l).getD r.head
    go ((s.modRegion region fun x => { x with head := h }).releaseHeld region)

/-! ## Faults that are taken -/

/-- The cause is contained by a purge of the request (Table 22.1). -/
def byPurge (c : Cause) : Bool := c == 0x06 || c == 0x09 || c == 0x0A || c == 0x0C

/-- The bank of a fault raised at its fire. -/
def State.faultBank (s : State) (f : FaultRec) : List (ElemId × Nat × Nat) :=
  if f.async || f.cause == 0x0B then [] else [(f.elem, f.bank, ((s.elem f.elem).bank f.bank).epoch)]

/-- The purge of a fault's request (R430): the bank whose fire met the fault is allocated and made free by the marking (log entry
46); at a tag-bank fault the bank belongs to another request, and its halt alone ends (R418). -/
def State.purgeFault (s : State) (f : FaultRec) : State :=
  let bs := s.faultBank f
  let p : Purge :=
    { die := s.faultDie f, owner := ⟨f.ctxno, f.reqtag⟩, cause := f.cause, banks := if f.cause = 0x11 then [] else bs
      halts := if f.cause = 0x11 then bs else [], holds := [(f.region, f.itertag)] }
  let s1 := s.requestPurge p
  -- the entry of copy 1 that disagreed may carry another tag (R436)
  match (if f.cause = 0x09 then (f.req.bind s.req?).bind (fun q => q.mate.bind s.req?) else none) with
  | some m => if m.reqtag = f.reqtag then s1 else s1.requestPurge { p with owner := ⟨m.ctxno, m.reqtag⟩, banks := [], halts := [], holds := [] }
  | none => s1

/-- The same fault of the other copy of a twin pair, where that copy has recorded it too: the pair acts as one region (R437). -/
def State.mateFault (s : State) (f : FaultRec) : Option FaultRec :=
  let r := s.region f.region
  match r.twin with
  | none => none
  | some (m, _) => s.faults.find? fun g =>
      g.region == m && g.cause == f.cause && g.async == f.async && g.cc == f.cc && g.slot == f.slot && g.bank == f.bank &&
        g.reqtag == f.reqtag && g.itertag == f.itertag && g.elem.pos == f.elem.pos && (s.region m).rel g.elem.tile == r.rel f.elem.tile

/-- The faults that are taken with a fault: it, and the same fault of the other copy (R437). -/
def State.taken (s : State) (f : FaultRec) : List FaultRec := f :: (s.mateFault f).toList

/-- A fault is taken with trap handling disabled (R422, Table 22.1). -/
def State.takeQuiet (s : State) (f : FaultRec) (r : Region) : State :=
  let n := s.takeSeq f.ctxno
  let s1 := (n.1.logFault f r n.2)
  let s2 := { s1 with faults := (s.taken f).foldl List.erase s1.faults }
  if byPurge f.cause then (s.taken f).foldl State.purgeFault s2 else s2.endTask f.region (s.faultDie f) f.cause f.itertag

/-! ## Handler mode -/

/-- The address of trap frame 0 (R427). -/
def State.tfa (s : State) (ctxno : BitVec 14) : Nat := s.ccb ctxno 128 57

/-- What the write of a trap frame meets (R427). -/
def State.frameX (s : State) (r : Region) (f : FaultRec) (va : Nat) : StewX :=
  let space := s.space f.ctxno
  match s.stew (s.faultDie f) space Need.write r.svc va 128 with
  | .ok segs => if s.sealHit space va 128 || s.lostIn segs then .final 0x07 else .ok segs
  | x => x

/-- A second fault in a row ends the context (R424, R427): the record goes into trap frame 1, or, where frame 0 could not be
written, into the fault log. -/
def State.doubleFault (s : State) (f : FaultRec) (r : Region) (frame : Bool) : State :=
  let n := s.takeSeq f.ctxno
  let d := { f with cause := 0x0F }
  let s1 :=
    if frame then (n.1.writeVirtual ⟨s.faultDie f, none⟩ (s.space f.ctxno) (s.tfa f.ctxno + 128) (bytesOf 128 (faultNum d r true n.2))).getD n.1
    else n.1.logFault d r n.2
  { s1 with faults := s1.faults.erase f }.endContext f.ctxno (s.faultDie f) 0x0F f.itertag

/-- Handler mode begins in a region (R422, step 1): every element is quiesced, and a switch that drains is abandoned; a save that stood
still is asked for again (log entry 22). -/
def Region.enterHandler (r : Region) (f : FaultRec) : Region :=
  { r with
    life := if r.life == .saving then .running else r.life
    hphase := .entering, hage := 0, dry := 0, hctx := r.active, hfault := some f, svc := .clear
    again := if r.sw == .draining then some r.target else r.again
    sw := if r.sw == .draining then .running else r.sw }

/-- A fault is taken with trap handling enabled (R422, R427); where frame 0 cannot be written, the context is ended, once a purge has
room (R429). -/
def State.takeTrap (s : State) (rid : Nat) (f : FaultRec) (r : Region) : State :=
  let fails :=
    let n := s.takeSeq f.ctxno
    if s.purgeRoom (s.faultDie f) then (n.1.logFault f r n.2).doubleFault f r false else s
  if s.tfa f.ctxno = 0 then fails
  else match s.frameX r f (s.tfa f.ctxno) with
    | .service va =>
      let a := s.stewAsk (s.faultDie f) ⟨f.ctxno, f.reqtag⟩ (s.space f.ctxno) 1 va r.svc
      a.1.modRegion rid fun x => { x with svc := a.2 }
    | .final _ => fails
    | .ok segs =>
      let n := s.takeSeq f.ctxno
      let s1 := (n.1.engineWrite segs (bytesOf 128 (faultNum f r true n.2)) .clean).logFault f r n.2
      let s2 := { s1 with faults := (s.taken f).foldl List.erase s1.faults }.modPair rid fun x => x.enterHandler f
      (s.mateFault f).toList.foldl (fun z g => z.modRegion g.region fun x => { x with hfault := some g }) s2

/-- `FAULT_TAKEN` (R421, R422, R424, R429): the fault that is due is taken; while a purge it asks for has no room, it stays recorded. A region
that is being loaded or restored has no handler to run (log entry 22). -/
def execFaultTaken (region : Nat) (s : State) : Host.Outcome State Fault Refusal :=
  let r := s.region region
  match s.dueFault region with
    | none => go s
    | some f =>
      let room := s.purgeRoom (s.faultDie f)
      if r.svc.waits || !(s.pair region).all (fun n => (s.region n).takes f.cause) then go s
      else if r.hphase == .on then go (if room then s.doubleFault f r true else s)
      else if !s.th f.ctxno || r.loads then go (if room then s.takeQuiet f r else s)
      else if (s.pair region).any fun n => (s.region n).sw == .settling then go s
      else go (s.takeTrap region f r)

/-- `HANDLER_ENTRY` (R422, step 3): two cycles after the quiesce cc3 is active and ccb.hm is 1, in both copies of a pair. -/
def execHandlerEntry (region : Nat) (s : State) : Host.Outcome State Fault Refusal :=
  let r := s.region region
  if r.live && r.hphase == .entering && decide (2 ≤ r.hage) then
    go ((s.modPair region fun x => { x with hphase := .on, handler := true, active := 3, still := 0 }).setCcb r.ctxno 384 1 1)
  else go s

/-- The halted bank of a fault goes on, passing over a cause once where its fire is retried so (Table 22.1). -/
def State.goOn (s : State) (f : FaultRec) (past : Bool) : State :=
  if f.async || f.cause == 0x0B then s
  else s.modElem f.elem fun x => x.modBank f.bank fun k =>
    { k with halted := false, waive := if past then some (f.cc, f.slot, f.cause) else k.waive }

/-- A parked access or command is retried (Table 22.1). -/
def State.retry (s : State) (f : FaultRec) (past : Bool) : State :=
  match f.req.bind s.req? with
  | some q =>
    let k := { q with waive := q.waive || past, svc := .clear }
    match q.stage with
    | .parked _ => if q.isHome && q.space != .g then s.reissue k else s.putReq { k with stage := .sent, parts := [] }
    | _ => s
  | none => s

/-- `hret` acts as `hret.drop` for the cause (Table 22.1). -/
def resumesByDrop (c : Cause) : Bool := c == 0x01 || c == 0x11 || byPurge c

/-- What `hret` does for the cause of the fault (Table 22.1). -/
def State.resume (s : State) (f : FaultRec) : State :=
  let c := f.cause
  if resumesByDrop c then s.purgeFault f
  else if c = 0x08 ∨ c = 0x0D ∨ c = 0x10 ∨ c = 0x12 then (s.goOn f true).retry f true
  else (s.goOn f false).retry f false

/-- The region leaves handler mode for the context that the trap interrupted (R423); the switch that the trap abandoned is pending
again (R422). -/
def Region.leaveHandler (r : Region) : Region :=
  let x := { r with hphase := .off, handler := false, active := r.hctx, hfault := none, again := none, still := 0, dry := 0 }
  match r.again with
  | some c => x.startSwitch c
  | none => x

/-- `HANDLER_EXIT` (R423): after two cycles the interrupted context is active again, and the form of `hret` acts; one that purges waits
for room (R429), and the switch that the trap abandoned is asked for after the requests of the cycle (R303). -/
def execHandlerExit (region : Nat) (s : State) : Host.Outcome State Fault Refusal :=
  let r := s.region region
  match r.hfault with
  | none => go s
  | some f =>
    if !(r.live && r.hphase == .leaving && decide (2 ≤ r.hage)) || ((s.pair region).any fun n => s.requestDue (s.region n)) ||
        ((r.hform != 0 || resumesByDrop f.cause) && !s.purgeRoom (s.faultDie f)) then go s
    else
      -- byte 1 of frame 0 holds v and async
      let bit9 : Byte := if f.async then 2 else 0
      let s1 := (s.writeVirtual ⟨s.faultDie f, none⟩ (s.space r.ctxno) (s.tfa r.ctxno + 1) [bit9]).getD s
      let s2 := (s1.modPair region Region.leaveHandler).setCcb r.ctxno 384 1 0
      -- the fault of this copy, and that of the other where it recorded its own (R437)
      let fs := f :: ((s.pair region).filterMap fun n => (s.region n).hfault).filter (· != f)
      match r.hform with
      | 0 => go (fs.foldl State.resume s2)
      | 1 => go (fs.foldl State.purgeFault s2)
      | _ => go (s2.endContext r.ctxno (s.faultDie f) f.cause f.itertag)

/-! ## Purges -/

/-- The purge that a die's engine carries out. -/
def State.purgeNow (s : State) (die : Nat) : Option Purge := s.purges.find? fun p => p.die == die && p.st != .queued

/-- The state with a die's purge changed. -/
def State.modPurge (s : State) (die : Nat) (f : Purge → Purge) : State :=
  { s with purges := modFirst (fun p => p.die == die && p.st != .queued) f s.purges }

/-- The open hash rows of a tag begin their rollback (R398). -/
def State.failRows (s : State) (o : Owner) : State :=
  let roll := fun (_ : Nat) (q : Quarter) => if q.row == .opened && q.rowOwner == o then { q with row := .rolling } else q
  { s with mtiles := Table.mapAll s.mtiles fun _ m => { m with quarters := Table.mapAll m.quarters roll } }

/-- A row whose rollback no `hins` of its engine carries out: that of a purge (R397, R398). -/
def State.strayRow (s : State) : Option (TileId × Nat) :=
  (s.mtiles.flatMap fun p => (p.2.quarters.filter fun q => q.2.row == .rolling &&
    !(s.reqs.any fun r => r.op == .hins && r.started && !r.performed && s.hashTile r == some (TileId.ofKey p.1) &&
      (HashReg.ofCode r.blk).quarter == q.1)).map fun q => (TileId.ofKey p.1, q.1)).head?

/-- The reuse insertions of a tag are freed (R411). -/
def State.dropInserts (s : State) (o : Owner) : State :=
  { s with dies := Table.mapAll s.dies fun _ d => { d with reuse := d.reuse.filter fun e => !(e.2.st == .inserting && e.2.owner == o) } }

/-- The scoreboard tokens of the commands of a tag, with the counts of their commands (R247). -/
def State.tokensOf (s : State) (o : Owner) : List (ElemId × Nat × Nat) :=
  s.reqs.filterMap fun (q : Req) =>
    if q.ctxno = o.ctxno ∧ q.reqtag = o.reqtag ∧ q.parent.isNone then (q.token?).map fun n => (q.elem, n, q.got) else none

/-- The banks that the faults of a tag halt, with their allocations (R421). -/
def State.haltsOf (s : State) (o : Owner) : List (ElemId × Nat × Nat) :=
  s.faults.filterMap fun f =>
    if f.ctxno = o.ctxno ∧ f.reqtag = o.reqtag ∧ !f.async ∧ f.cause ≠ 0x0B then
      some (f.elem, f.bank, ((s.elem f.elem).bank f.bank).epoch)
    else none

/-- The tokens of removed commands become idle with st 8 (R247). -/
def State.idleTokens (s : State) (l : List (ElemId × Nat × Nat)) : State :=
  l.foldl (fun z b => if (z.elem b.1).sbIsBusy b.2.1 then z.sbIdle b.1 b.2.1 b.2.2 8 else z) s

/-- A port without the streams that are gone. -/
def State.sweepPort (s : State) (p : Port) : Port :=
  let keep := fun (n : Option Nat) => n.filter fun k => (s.req? k).isSome
  { p with running := keep p.running, waiting := keep p.waiting, owner := keep p.owner }

/-- Every port without the streams that are gone. -/
def State.sweepPorts (s : State) : State :=
  { s with tiles := Table.mapAll s.tiles fun _ t => { t with ports := Table.mapAll t.ports fun _ q => s.sweepPort q } }

/-- What a save holds, standing at the places it had. -/
def State.stand (s : State) (v : Saved) (ctxno : BitVec 14) : State :=
  { s with
    mem := v.mem, full := v.full, pois := v.pois, elems := v.elems, tiles := v.tiles, mtiles := v.mtiles, reqs := v.reqs, faults := v.faults
    regions := [(0, { live := true, ctxno := ctxno, origin := v.origin, rows := v.rows, cols := v.cols })] }

/-- What a save holds without the work of a tag (R375, R430): its rows are rolled back and its commands' tokens idle at once, since nothing
of it acts before the restore. -/
def State.cutSaved (s : State) (o : Owner) (v : Saved) : Saved :=
  let z := s.stand v o.ctxno
  let y := (((z.cut (fun _ => true) (· == o) false).freeBanks [] (z.haltsOf o)).failRows o)
  let w := ((y.rollRows (fun _ => true) (· == .rolling)).idleTokens (z.tokensOf o)).sweepPorts
  { v with
    mem := w.mem, full := w.full, pois := w.pois, elems := w.elems, tiles := w.tiles, mtiles := w.mtiles, reqs := w.reqs, faults := w.faults }

/-- A launch without the work of a tag in what is saved of it. -/
def State.cutLaunch (s : State) (o : Owner) (l : Launch) : Launch :=
  if lrCtx l.recd = o.ctxno then { l with saved := l.saved.map (s.cutSaved o), saved1 := l.saved1.map (s.cutSaved o) } else l

/-- Every saved state of the package without the work of a tag (R375). -/
def State.cutAllSaved (s : State) (o : Owner) : State :=
  { s with
    queue := s.queue.map (s.cutLaunch o)
    regions := Table.mapAll s.regions fun _ r => { r with task := s.cutLaunch o r.task } }

/-- The marking of a purge (R430, R431): where it ends a task, the launches that the task's region queued stay. -/
def State.markPurge (s : State) (p : Purge) : State :=
  let o := p.owner
  let mine := fun (l : Launch) => l.owner == o
  let sbs := s.tokensOf o
  let halts := s.haltsOf o
  let stays := fun (l : Launch) => p.ends.any fun e => l.queuedBy == some e.1 || (l.queuedBy.isSome && l.queuedBy == (s.region e.1).twin.map (·.1))
  let out := fun (l : Launch) => mine l && !stays l
  let gone := s.queue.filter out ++ (s.hits.filter fun h => mine h.launch).map (·.launch)
  let s1 := (s.cut (fun _ => true) (· == o) false).cutAllSaved o
  let s2 := { s1 with queue := s1.queue.filter (!out ·), hits := s1.hits.filter fun h => !mine h.launch }
  let s3 := (((s2.freeBanks p.banks (halts ++ p.halts)).freeRanges (· == o)).failRows o).dropInserts o
  let tasks := s3.regions.filter fun x => x.2.live && x.2.task.owner == o
  let firsts := tasks.filter fun x => match x.2.twin with
    | some (_, isFirst) => isFirst
    | none => true
  let recs := (gone.map fun l => (l.recd, 3, (0 : Cause), (0 : BitVec 16), 0, (0 : Word))) ++ firsts.map fun x => endRec p x.1 x.2
  ((tasks.foldl (fun z x => z.endRegion x.1) s3).spend s).modPurge p.die fun q =>
    { q with st := .sweeping, recs := recs, sbs := sbs, banks := [], halts := [], holds := [], ends := [] }

/-- `PURGE_MARKING` (R429): every matching entry becomes absent, in every domain of the package at once. -/
def execPurgeMarking (die : Nat) (s : State) : Host.Outcome State Fault Refusal :=
  match s.purgeNow die with
  | some p => if p.st = .marking then go (s.markPurge p) else go s
  | none => go s

/-- `PURGE_SWEEP_DONE` (R247, R397, R429): the rows of removed work are rolled back, one undo entry in a step; then the tokens of removed
commands are idle with st 8, and their ports are free. -/
def execPurgeSweepDone (die : Nat) (s : State) : Host.Outcome State Fault Refusal :=
  match s.purgeNow die with
  | none => go s
  | some p =>
    if p.st ≠ .sweeping then go s
    else match s.strayRow with
    | some q => go (s.rollStep q.1 q.2)
    | none =>
      go ((s.idleTokens p.sbs).sweepPorts.modPurge die fun q => { q with st := .recording, sbs := [] })

/-- The next purge of a die's engine begins (R429). -/
def State.nextPurge (s : State) (die : Nat) : State :=
  { s with purges := modFirst (fun p => p.die == die) (fun p => { p with st := .marking }) s.purges }

/-- `PURGE_RECORDING` (R432): the purged completion record goes into the fault log, and the removed launches and tasks take their
records. -/
def execPurgeRecording (die : Nat) (s : State) : Host.Outcome State Fault Refusal :=
  match s.purgeNow die with
  | none => go s
  | some p =>
    if p.st ≠ .recording then go s
    else
      let s1 := s.logEntry p.owner.ctxno die 3 (bytesOf 64 (recordOf p.owner 3 p.cause 0 0 0 0))
      let s2 := p.recs.foldl (fun z (r : Nat × Nat × Cause × BitVec 16 × Nat × Word) =>
        z.writeRec die r.1 r.2.1 r.2.2.1 r.2.2.2.2.1 0 r.2.2.2.1 r.2.2.2.2.2) s1
      let s3 := p.cmds.foldl (fun z n => z.modDie n fun d => { d with fin := some (0, 0) }) s2
      go ({ s3 with purges := dropFirst (fun (q : Purge) => q.die == die && q.st != PurgeSt.queued) s3.purges }.nextPurge die)

/-! ## Twin regions -/

/-- The request has an address for every lane that its guard lets act. -/
def Req.byLane (r : Req) : Bool :=
  match r.op with
  | .store .. | .atomic _ | .gsend _ => true
  | _ => false

/-- Two values agree in the lanes of a guard. -/
def sameLanes {α : Type} [BEq α] (g : Mask) (a b : Lanes α) : Bool := (guarded g).all fun i => a.get i == b.get i

/-- Two exit entries of a pair agree (R435): kind, address and length, data or captured block, tags and poison; a `cpy` and an `ioread`
use the whole of their operand (R56). -/
def Req.agrees (p q : Req) : Bool :=
  p.op == q.op && p.space == q.space && p.guard == q.guard &&
    (if p.byLane then sameLanes p.guard p.addr q.addr else p.addr.l0 == q.addr.l0) &&
    (if p.op == .copy || p.op == .ioread then p.data == q.data else sameLanes p.guard p.data q.data) &&
    sameLanes p.guard p.expd q.expd && sameLanes p.guard p.rpois q.rpois && p.blk == q.blk && p.off == q.off &&
    p.ctxno == q.ctxno && p.reqtag == q.reqtag && p.itertag == q.itertag

/-- The operation is a stream, whose tokens both copies take. -/
def Req.isStream (q : Req) : Bool :=
  match q.op with
  | .stream _ => true
  | _ => false

/-- A twin mismatch is recorded, and both copies' task is impure (R411, R436). -/
def State.mismatch (s : State) (q : Req) (opa opb : Vec) : State :=
  let f := { s.reqFault q 0x09 0 0 with opa := opa, opb := opb }
  (s.record f).modPair f.region fun x => { x with impure := true }

/-- The copy of a pair in which a request stands: its region, its partner's, and whether it is copy 0. -/
def State.copyOfTwin (s : State) (q : Req) : Option (Nat × Nat × Bool) :=
  (s.regionOf q.elem.tile).bind fun n => (s.region n).twin.map fun t => (n, t.1, t.2)

/-- The same element of the two copies (R435). -/
def State.sameElem (s : State) (n m : Nat) (a b : ElemId) : Bool :=
  a.pos == b.pos && (s.region n).rel a.tile == (s.region m).rel b.tile

/-- `EXIT_COMPARE` (R435, R436): the n-th exit entries of one element of the two copies are compared; an agreeing pair is performed
once, when it may leave its gateways (R420), and a disagreeing one records twin mismatch. -/
def execExitCompare (req0 req1 : Nat) (s : State) : Host.Outcome State Fault Refusal :=
  match s.req? req0, s.req? req1 with
  | some p, some q =>
    match s.copyOfTwin p, s.copyOfTwin q with
    | some (n, m, true), some (k, _, false) =>
      if m ≠ k ∨ p.stage ≠ .twin ∨ q.stage ≠ .twin ∨ s.isUnheld p ∨ s.isUnheld q ∨ p.started ≠ q.started ∨ p.mate.isSome ∨ q.mate.isSome ∨
          !s.sameElem n m p.elem q.elem ∨ p.exitNo ≠ q.exitNo then go s
      else if p.agrees q then
        let a := { p with stage := if s.pairPasses p && s.pairPasses q then p.leaveGate else .exitHeld, mate := if p.isStream then none else some q.id }
        let b := { q with stage := Stage.mate, mate := if p.isStream then some p.id else none }
        go ((s.putReq a).putReq b)
      else go (((s.putReq { p with mate := some q.id }).putReq { q with mate := some p.id }).mismatch p p.data q.data)
    | _, _ => go s
  | _, _ => go s

/-- `TWIN_PARTNER_TIMEOUT` (R436): an entry whose partner has not come within the window is a mismatch, with opb 0. -/
def execTwinPartnerTimeout (req : Nat) (s : State) : Host.Outcome State Fault Refusal :=
  match s.req? req with
  | none => go s
  | some q =>
    match s.copyOfTwin q with
    | none => go s
    | some (n, m, _) =>
      let partner := s.reqs.any fun p => p.stage == .twin && p.exitNo == q.exitNo && (s.region m).hasTile p.elem.tile &&
        s.sameElem n m q.elem p.elem
      if q.stage ≠ .twin ∨ q.mate.isSome ∨ partner ∨ q.age ≤ s.window (s.region n) then go s
      else go ((s.putReq { q with mate := some q.id }).mismatch q q.data (Lanes.fill 0))

/-! ## Errors in a structure's own storage -/

/-- The island counts an error, and latches when its threshold is reached (R452). -/
def State.latchIsland (s : State) (n : Nat) : State :=
  let i : Island := Table.get s.islands n
  if i.threshold ≠ 0 ∧ i.threshold.toNat ≤ i.count.toNat ∧ !i.latched then
    ({ s with islands := Table.set s.islands n { i with latched := true } }.modDie (n / 16) fun d =>
      { d with isl := d.isl ||| (1#16 <<< (n % 16)) }).notify (n / 16) 2
  else s

/-- `CORRECTED_ERROR` (R433, R452): the island's saturating count adds 1. -/
def execCorrectedError (island : Nat) (s : State) : Host.Outcome State Fault Refusal :=
  let i : Island := Table.get s.islands island
  let n := if i.count = 0xFFFFFFFF then i.count else i.count + 1
  go ({ s with islands := Table.set s.islands island { i with count := n } }.latchIsland island)

/-- The contexts of tokens, of queue entries and of requests. -/
def entryCtxs (l : List QEntry) : List (BitVec 14) :=
  l.filterMap fun e => match e with
    | .tok t => some t.ctxno
    | .resv _ => none

/-- The queue of an element that a structure error names: 0 to 5 the input queues, 6 to 11 the output queues. -/
def Elem.queueAt (x : Elem) (n : Nat) : List QEntry := if n < 6 then x.inq n else x.outq (n - 6)

/-- The entries of a tile's hold buffer (R420). -/
def State.holdEntries (s : State) (t : TileId) : List Req :=
  s.reqs.filter fun q => q.elem.tile == t && (q.stage == .exitHeld || q.stage == .twin || q.stage == .mate)

/-- The request is a seal whose range is being hashed (R342). -/
def Req.isHashing (q : Req) : Bool :=
  q.started && !q.performed && (match q.op with
    | .sealRange _ _ => true
    | _ => false)

/-- The request is the seal that hashes a seal entry. -/
def Req.hashes (q : Req) (n : Nat) : Bool := q.isHashing && q.prog == n

/-- The flits that stand in a tile's router, or hold a slot of one of its windows. -/
def State.flitsOf (s : State) (t : TileId) : List Flit :=
  s.tiles.flatMap fun p => p.2.classes.flatMap fun c => c.2.filter (s.inRouter t (TileId.ofKey p.1) c.1)

/-- The contexts that a structure error ends (R434): those that an entry carries, and that of the region that the structure serves. -/
def State.struckBy (s : State) (code : Nat) (e : ElemId) (n : Nat) : List (BitVec 14) :=
  let d := s.die e.tile.die
  let own := if (s.regionAt e.tile).live then [(s.regionAt e.tile).ctxno] else []
  let l : List (BitVec 14) := match code with
    | 0 => own ++ entryCtxs ((s.elem e).queueAt n)
    | 1 => own
    | 2 => own ++ (s.flitsOf e.tile).map fun f => f.tok.ctxno
    | 3 => own ++ (s.holdEntries e.tile).map (·.ctxno)
    | 4 => own ++ (s.elem e).frame.emitq.map (·.ctxno)
    | 5 => (s.queue.filter fun l => l.die == e.tile.die).map fun l => lrCtx l.recd
    | 6 => (d.ranges.filter fun r => r.2.live).map fun r => r.2.owner.ctxno
    | 7 => (s.reqs.filter Req.isHashing).map (·.ctxno)
    | _ => (d.reuse.filter fun p => p.2.st == .inserting).map fun p => p.2.owner.ctxno
  l.eraseDups

/-- The struck structure is cleared (R434). -/
def State.clearStruck (s : State) (code : Nat) (e : ElemId) (n : Nat) : State :=
  match code with
  | 0 => s.modElem e fun x => if n < 6 then { x with iq := Table.set x.iq n [] } else { x with oq := Table.set x.oq (n - 6) [] }
  | 1 => s.modElem e Elem.unload
  | 2 => { s with tiles := Table.mapAll s.tiles fun k t => { t with
      classes := (t.classes.map fun c => (c.1, c.2.filter fun f => !s.inRouter e.tile (TileId.ofKey k) c.1 f)).filter fun c => !c.2.isEmpty } }
  | 3 => (s.holdEntries e.tile).foldl (fun z q => (z.unpend q).dropReq q.id) s
  | 4 => s.modElem e fun x => { x with frame := { x.frame with frames := [], emitq := [], here := [], spill := [], lnc := 0, testAt := none } }
  | 5 => { s with queue := s.queue.filter fun l => l.die != e.tile.die }
  | 6 => s.modDie e.tile.die fun d => { d with ranges := [] }
  | 7 => { s.killReuse n with seals := Table.erase s.seals n }
  | _ => s.modDie e.tile.die fun d => { d with reuse := Table.erase d.reuse n }

/-- A structure error record (R428, R434). -/
def structNum (c : BitVec 14) (code : Nat) (e : ElemId) (r : Region) : Nat :=
  let p := if r.live then r.rel e.tile else (0, 0)
  pack [(0, 6), (16, e.pos), (40, e.tile.die), (43, p.1), (49, p.2), (64, c.toNat), (160, code)]

/-- `STRUCTURE_ERROR` (R434): an uncorrectable error ends every context with an entry in the structure, and the structure is
cleared. -/
def execStructureError (code : Nat) (place : ElemId) (index : Nat) (s : State) : Host.Outcome State Fault Refusal :=
  let strike := fun (z : State) (c : BitVec 14) =>
    (z.logEntry c place.tile.die 4 (bytesOf 128 (structNum c code place (s.regionAt place.tile)))).endContext c place.tile.die 0x06 0
  go (((s.struckBy code place index).foldl strike s).clearStruck code place index)

/-- The seals of a range that is being hashed end without a digest. -/
def State.failHashing (s : State) (n : Nat) : State :=
  let e : SealEnt := Table.get s.seals n
  let owner := s.reqs.filter fun q => q.hashes n
  let s1 := owner.foldl (fun z q => (z.modDie q.elem.tile.die fun d => { d with sealq := d.sealq.filter (· != q.id) }).sealFails q) s
  (s1.sealWaiters e.space e.base e.len).foldl State.sealFails s1

/-- `SPACE_DESCRIPTOR_CLEARED` (R408, Table 16.9): the seal entries of the space are freed, and its reuse entries are dead. -/
def execSpaceDescriptorCleared (space : BitVec 14) (s : State) : Host.Outcome State Fault Refusal :=
  let bases := s.dies.filterMap fun p => p.2.spaceBase
  if bases.isEmpty || bases.any fun b => bits (s.peek (b + 8 * space.toNat) 8) 0 1 == 1 then go s
  else
      let ns := (s.seals.filter fun p => p.2.st != .free && p.2.space == space.toNat).map (·.1)
      let hashing := ns.filter fun n => (Table.get s.seals n : SealEnt).st == .hashing
      let s1 := hashing.foldl State.failHashing s
      let s2 := ns.foldl (fun z n => { z.killReuse n with seals := Table.erase z.seals n }) s1
      let kill := fun (_ : Nat) (e : Reuse) =>
        if (e.st == .live || e.st == .inserting) && e.space == space.toNat then { e with st := .dead } else e
      go { s2 with dies := Table.mapAll s2.dies fun _ d => { d with reuse := Table.mapAll d.reuse kill } }

end Sys2Proof.Machine
end

