-- ==== Sys2Proof/Machine/MemInstr.lean ====
section
/-!
DEFINITION. Memory, atomic and synchronisation instructions at the fire, majors 0x20 to 0x2B (R81 to R123): loads and stores,
touch and probe, synchronising words, atomics, frames, ordering tokens and fences, barriers, and device-issued I/O.
-/

namespace Sys2Proof.Machine

/-- The access width of a type code (R94). -/
def widthOf (y : BitVec 3) : Nat := if y.toNat ≤ 2 then 1 else if y.toNat ≤ 4 then 2 else 4

/-- Whether a type code sign-extends (R94). -/
def signedOf (y : BitVec 3) : Bool := y.toNat == 2 || y.toNat == 4

/-- The space of an s code (R94). -/
def spaceOf (s : BitVec 1) : Space := if s = 0 then .x else .m

/-- What a load does, by its destination (R97). -/
def modeOf (d : BitVec 5) : LoadMode := if d.toNat = 15 then .touch else if d.toNat = 29 then .probe else .data

/-- The lane sums of two operands, as addresses of `.x` or `.m` (R95). -/
def sumAddr (v w : Vec) : Lanes Nat := Lanes.ofFn fun i => (v.get i + w.get i).toNat

/-- The lanes of an operand as addresses. -/
def laneAddr (v : Vec) : Lanes Nat := Lanes.ofFn fun i => (v.get i).toNat

/-- The address `gbase(a) + x`, as 64 bits: one below zero lies beyond the space, and a base beyond it leaves no address in it
(R82). -/
def offsetAddr (v : Vec) (x : Int) : Nat :=
  if 2 ^ 57 ≤ gbase v then gbase v else (((gbase v : Int) + x) % 2 ^ 64).toNat

/-- The addresses `gbase(a) + sext(b.lane[i])` of a global load (R95). -/
def globalAddr (v w : Vec) : Lanes Nat := Lanes.ofFn fun i => offsetAddr v (w.get i).toInt

/-- The lane addresses of the vector access at `gbase(a) + sext(b.lane[0])` (R95). -/
def globalVec (v w : Vec) : Lanes Nat := Lanes.ofFn fun i => offsetAddr v (w.l0.toInt + 4 * i.val)

/-- The lane addresses of a vector access of `.x` or `.m` (R95). -/
def localVec (ea : Nat) : Lanes Nat := Lanes.ofFn fun i => ea + 4 * i.val

/-- The addresses `gbase(a) + w × i` (R95, R103). -/
def packedAddr (v : Vec) (w : Nat) : Lanes Nat := Lanes.ofFn fun i => gbase v + w * i.val

/-- Addresses with the low bits ignored. -/
def alignAll (n : Nat) (a : Lanes Nat) : Lanes Nat := Lanes.ofFn fun i => a.get i / n * n

/-- A load of `.x` or `.m` (R95). -/
def loadLocal (s : State) (t : BitVec 6) (d a b : BitVec 5) (sp : Space) (w : Nat) (sg vec : Bool) :
    Host.Outcome State Fault Refusal :=
  fireReq s t d [a, b] (fun _ => []) (.load w sg vec (modeOf d)) false false (fun _ => 0) fun f q =>
    { q with
      space := sp
      addr := let ea := sumAddr (f.src a).val (f.src b).val
        if vec then localVec ea.l0 else ea }

/-- A store of `.x` or `.m` (R95). -/
def storeLocal (s : State) (t : BitVec 6) (a b : BitVec 5) (sp : Space) (w : Nat) (vec : Bool) :
    Host.Outcome State Fault Refusal :=
  fireReq s t 15 [a, b] (fun _ => []) (.store w vec) false false (fun _ => 0) fun f q =>
    { q with
      space := sp
      addr := if vec then localVec (f.src a).val.l0.toNat else laneAddr (f.src a).val
      data := (f.src b).val }

/-- A global load (R95). -/
def loadGlobal (s : State) (t : BitVec 6) (d a b : BitVec 5) (w : Nat) (sg vec : Bool) :
    Host.Outcome State Fault Refusal :=
  fireReq s t d [a, b] (fun _ => []) (.load w sg vec (modeOf d)) false false (fun f => gbase (f.src a).val) fun f q =>
    { q with
      space := .g
      addr := if vec then globalVec (f.src a).val (f.src b).val else globalAddr (f.src a).val (f.src b).val }

/-- A range touch (R98). -/
def touchFire (s : State) (t : BitVec 6) (a b : BitVec 5) (sp : Space) : Host.Outcome State Fault Refusal :=
  let len := fun f : Fire => (f.src b).val.l0.toNat
  let f := fireOf s t
  fireReq s t 15 [a, b] (fun _ => []) (.rangeTouch (len f)) false false (fun _ => 0) fun f q =>
    { q with space := sp, addr := Lanes.fill (if sp = .g then gbase (f.src a).val else (f.src a).val.l0.toNat) }

/-- An atomic (R102, R103): `acas` reads its expected value from d (R104). -/
def atomicFire (s : State) (t : BitVec 6) (d a b : BitVec 5) (op : AtomOp) (sp : Space) :
    Host.Outcome State Fault Refusal :=
  fireReq s t d [a, b] (fun f => if op = .cas ∧ d.toNat < 15 then [f.regSrc d.toNat] else []) (.atomic op) true true
    (fun f => if sp = .g then gbase (f.src a).val else 0) fun f q =>
    { q with
      space := sp
      addr := alignAll 4 (if sp = .g then packedAddr (f.src a).val 4 else laneAddr (f.src a).val)
      data := (f.src b).val
      expd := if op = .cas then (f.src d).val else Lanes.fill 0
      exit := sp == Space.g }

/-- The barrier instructions (R114). -/
def barrierFire (s : State) (t : BitVec 6) (d a b : BitVec 5) (sp : Space) (op : Fire → ReqOp) (rel acq : Bool) :
    Host.Outcome State Fault Refusal :=
  fireReq s t d [a] (fun _ => []) (op (fireOf s t)) false false (fun f => if sp = .g then gbase (f.src a).val else 0)
    fun f q =>
    { q with
      space := sp
      addr := Lanes.fill ((if sp = .g then gbase (f.src a).val else (f.src a).val.l0.toNat) / 8 * 8)
      scope := b.toNat
      release := rel
      acquire := acq }

/-- The phase operand of `awt` (R114). -/
def phaseOf (sp : Space) (v : Vec) : Nat := (if sp = .g then v.l2 else v.l1).toNat % 65536

/-- A frame request (R108): it travels on the tile's frame path. -/
def frameFire (s : State) (t : BitVec 6) (d : BitVec 5) (srcs : List (BitVec 5)) (op : Fire → ReqOp) (data : Fire → Vec) :
    Host.Outcome State Fault Refusal :=
  fireReq s t d srcs (fun _ => []) (op (fireOf s t)) false false (fun _ => 0) fun f q => { q with data := data f }

/-- `otok` and `fence` (R111, R112): the ordering outputs are filled at the fire. -/
def orderFire (s : State) (t : BitVec 6) : Host.Outcome State Fault Refusal :=
  let f := fireOf s t
  fire s f [] [] none (orderIn f [])
    (fun x => (orderOut f 15).foldl (fun y q => y.pushOut q (.tok (f.orderTok (orderIn f [])))) x) id id

/-- `iowait` (R120): an acquire at device scope. -/
def iowaitFire (s : State) (t : BitVec 6) (d a : BitVec 5) (sp : Space) : Host.Outcome State Fault Refusal :=
  fireReq s t d [a] (fun _ => []) .iowait false false (fun _ => 0) fun f q =>
    { q with space := sp, addr := Lanes.fill ((f.src a).val.l0.toNat / 4 * 4), scope := 4, acquire := true }

/-! ## The instructions -/

/-- `LD` (R95). -/
def execLd (t : BitVec 6) (d : BitVec 5) (a : BitVec 5) (b : BitVec 5) (s : BitVec 1) (y : BitVec 3) (st : State) : Host.Outcome State Fault Refusal :=
  loadLocal st t d a b (spaceOf s) (widthOf y) (signedOf y) false

/-- `LDV` (R95). -/
def execLdv (t : BitVec 6) (d : BitVec 5) (a : BitVec 5) (b : BitVec 5) (s : BitVec 1) (st : State) : Host.Outcome State Fault Refusal :=
  loadLocal st t d a b (spaceOf s) 4 false true

/-- `ST` (R95). -/
def execSt (t : BitVec 6) (a : BitVec 5) (b : BitVec 5) (s : BitVec 1) (y : BitVec 3) (st : State) : Host.Outcome State Fault Refusal :=
  storeLocal st t a b (spaceOf s) (widthOf y) false

/-- `STV` (R95). -/
def execStv (t : BitVec 6) (a : BitVec 5) (b : BitVec 5) (s : BitVec 1) (st : State) : Host.Outcome State Fault Refusal :=
  storeLocal st t a b (spaceOf s) 4 true

/-- `LDG` (R95). -/
def execLdg (t : BitVec 6) (d : BitVec 5) (a : BitVec 5) (b : BitVec 5) (y : BitVec 3) (s : State) : Host.Outcome State Fault Refusal :=
  loadGlobal s t d a b (widthOf y) (signedOf y) false

/-- `LDG_V` (R95). -/
def execLdgV (t : BitVec 6) (d : BitVec 5) (a : BitVec 5) (b : BitVec 5) (s : State) : Host.Outcome State Fault Refusal :=
  loadGlobal s t d a b 4 false true

/-- `STG` (R95). -/
def execStg (t : BitVec 6) (a : BitVec 5) (b : BitVec 5) (y : BitVec 3) (s : State) : Host.Outcome State Fault Refusal :=
  fireReq s t 15 [a, b] (fun _ => []) (.store (widthOf y) false) false false (fun f => gbase (f.src a).val) fun f q =>
    { q with space := .g, addr := packedAddr (f.src a).val (widthOf y), data := (f.src b).val, exit := true }

/-- `LDF` (R100). -/
def execLdf (t : BitVec 6) (d : BitVec 5) (a : BitVec 5) (b : BitVec 5) (s : BitVec 1) (c : BitVec 3) (st : State) : Host.Outcome State Fault Refusal :=
  fireReq st t d [a, b] (fun _ => []) .ldf false false (fun _ => 0) fun f q =>
    { q with
      space := spaceOf s
      addr := Lanes.fill ((sumAddr (f.src a).val (f.src b).val).l0 / 4 * 4)
      scope := c.toNat
      acquire := true }

/-- `STF` (R100). -/
def execStf (t : BitVec 6) (a : BitVec 5) (b : BitVec 5) (s : BitVec 1) (c : BitVec 3) (st : State) : Host.Outcome State Fault Refusal :=
  fireReq st t 15 [a, b] (fun _ => []) .stf false false (fun _ => 0) fun f q =>
    { q with
      space := spaceOf s
      addr := Lanes.fill ((f.src a).val.l0.toNat / 4 * 4)
      data := (f.src b).val
      scope := c.toNat
      release := true }

/-- `TOUCH_X` (R98). -/
def execTouchX (t : BitVec 6) (a : BitVec 5) (b : BitVec 5) (s : State) : Host.Outcome State Fault Refusal :=
  touchFire s t a b .x

/-- `AADD_X` (R103). -/
def execAaddX (t : BitVec 6) (d : BitVec 5) (a : BitVec 5) (b : BitVec 5) (s : State) : Host.Outcome State Fault Refusal :=
  atomicFire s t d a b .add .x

/-- `AMIN_S32_X` (R103). -/
def execAminS32X (t : BitVec 6) (d : BitVec 5) (a : BitVec 5) (b : BitVec 5) (s : State) : Host.Outcome State Fault Refusal :=
  atomicFire s t d a b .minS .x

/-- `AMIN_N32_X` (R103). -/
def execAminN32X (t : BitVec 6) (d : BitVec 5) (a : BitVec 5) (b : BitVec 5) (s : State) : Host.Outcome State Fault Refusal :=
  atomicFire s t d a b .minN .x

/-- `AMAX_S32_X` (R103). -/
def execAmaxS32X (t : BitVec 6) (d : BitVec 5) (a : BitVec 5) (b : BitVec 5) (s : State) : Host.Outcome State Fault Refusal :=
  atomicFire s t d a b .maxS .x

/-- `AMAX_N32_X` (R103). -/
def execAmaxN32X (t : BitVec 6) (d : BitVec 5) (a : BitVec 5) (b : BitVec 5) (s : State) : Host.Outcome State Fault Refusal :=
  atomicFire s t d a b .maxN .x

/-- `AAND_X` (R103). -/
def execAandX (t : BitVec 6) (d : BitVec 5) (a : BitVec 5) (b : BitVec 5) (s : State) : Host.Outcome State Fault Refusal :=
  atomicFire s t d a b .and .x

/-- `AOR_X` (R103). -/
def execAorX (t : BitVec 6) (d : BitVec 5) (a : BitVec 5) (b : BitVec 5) (s : State) : Host.Outcome State Fault Refusal :=
  atomicFire s t d a b .or .x

/-- `AXOR_X` (R103). -/
def execAxorX (t : BitVec 6) (d : BitVec 5) (a : BitVec 5) (b : BitVec 5) (s : State) : Host.Outcome State Fault Refusal :=
  atomicFire s t d a b .xor .x

/-- `AFADD_X` (R105). -/
def execAfaddX (t : BitVec 6) (d : BitVec 5) (a : BitVec 5) (b : BitVec 5) (s : State) : Host.Outcome State Fault Refusal :=
  atomicFire s t d a b .fadd .x

/-- `AXCH_X` (R103). -/
def execAxchX (t : BitVec 6) (d : BitVec 5) (a : BitVec 5) (b : BitVec 5) (s : State) : Host.Outcome State Fault Refusal :=
  atomicFire s t d a b .xch .x

/-- `ACAS_X` (R104). -/
def execAcasX (t : BitVec 6) (d : BitVec 5) (a : BitVec 5) (b : BitVec 5) (s : State) : Host.Outcome State Fault Refusal :=
  atomicFire s t d a b .cas .x

/-- `ARV_X` (R115). -/
def execArvX (t : BitVec 6) (d : BitVec 5) (a : BitVec 5) (b : BitVec 5) (s : State) : Host.Outcome State Fault Refusal :=
  barrierFire s t d a b .x (fun _ => .arv) true false

/-- `AWT_X` (R115). -/
def execAwtX (t : BitVec 6) (d : BitVec 5) (a : BitVec 5) (b : BitVec 5) (s : State) : Host.Outcome State Fault Refusal :=
  barrierFire s t d a b .x (fun f => .awt (phaseOf .x (f.src a).val)) false true

/-- `ARW_X` (R115). -/
def execArwX (t : BitVec 6) (d : BitVec 5) (a : BitVec 5) (b : BitVec 5) (s : State) : Host.Outcome State Fault Refusal :=
  barrierFire s t d a b .x (fun _ => .arw) true true

/-- `TOUCH_M` (R98). -/
def execTouchM (t : BitVec 6) (a : BitVec 5) (b : BitVec 5) (s : State) : Host.Outcome State Fault Refusal :=
  touchFire s t a b .m

/-- `AADD_M` (R103). -/
def execAaddM (t : BitVec 6) (d : BitVec 5) (a : BitVec 5) (b : BitVec 5) (s : State) : Host.Outcome State Fault Refusal :=
  atomicFire s t d a b .add .m

/-- `AMIN_S32_M` (R103). -/
def execAminS32M (t : BitVec 6) (d : BitVec 5) (a : BitVec 5) (b : BitVec 5) (s : State) : Host.Outcome State Fault Refusal :=
  atomicFire s t d a b .minS .m

/-- `AMIN_N32_M` (R103). -/
def execAminN32M (t : BitVec 6) (d : BitVec 5) (a : BitVec 5) (b : BitVec 5) (s : State) : Host.Outcome State Fault Refusal :=
  atomicFire s t d a b .minN .m

/-- `AMAX_S32_M` (R103). -/
def execAmaxS32M (t : BitVec 6) (d : BitVec 5) (a : BitVec 5) (b : BitVec 5) (s : State) : Host.Outcome State Fault Refusal :=
  atomicFire s t d a b .maxS .m

/-- `AMAX_N32_M` (R103). -/
def execAmaxN32M (t : BitVec 6) (d : BitVec 5) (a : BitVec 5) (b : BitVec 5) (s : State) : Host.Outcome State Fault Refusal :=
  atomicFire s t d a b .maxN .m

/-- `AAND_M` (R103). -/
def execAandM (t : BitVec 6) (d : BitVec 5) (a : BitVec 5) (b : BitVec 5) (s : State) : Host.Outcome State Fault Refusal :=
  atomicFire s t d a b .and .m

/-- `AOR_M` (R103). -/
def execAorM (t : BitVec 6) (d : BitVec 5) (a : BitVec 5) (b : BitVec 5) (s : State) : Host.Outcome State Fault Refusal :=
  atomicFire s t d a b .or .m

/-- `AXOR_M` (R103). -/
def execAxorM (t : BitVec 6) (d : BitVec 5) (a : BitVec 5) (b : BitVec 5) (s : State) : Host.Outcome State Fault Refusal :=
  atomicFire s t d a b .xor .m

/-- `AFADD_M` (R105). -/
def execAfaddM (t : BitVec 6) (d : BitVec 5) (a : BitVec 5) (b : BitVec 5) (s : State) : Host.Outcome State Fault Refusal :=
  atomicFire s t d a b .fadd .m

/-- `AXCH_M` (R103). -/
def execAxchM (t : BitVec 6) (d : BitVec 5) (a : BitVec 5) (b : BitVec 5) (s : State) : Host.Outcome State Fault Refusal :=
  atomicFire s t d a b .xch .m

/-- `ACAS_M` (R104). -/
def execAcasM (t : BitVec 6) (d : BitVec 5) (a : BitVec 5) (b : BitVec 5) (s : State) : Host.Outcome State Fault Refusal :=
  atomicFire s t d a b .cas .m

/-- `ARV_M` (R115). -/
def execArvM (t : BitVec 6) (d : BitVec 5) (a : BitVec 5) (b : BitVec 5) (s : State) : Host.Outcome State Fault Refusal :=
  barrierFire s t d a b .m (fun _ => .arv) true false

/-- `AWT_M` (R115). -/
def execAwtM (t : BitVec 6) (d : BitVec 5) (a : BitVec 5) (b : BitVec 5) (s : State) : Host.Outcome State Fault Refusal :=
  barrierFire s t d a b .m (fun f => .awt (phaseOf .m (f.src a).val)) false true

/-- `ARW_M` (R115). -/
def execArwM (t : BitVec 6) (d : BitVec 5) (a : BitVec 5) (b : BitVec 5) (s : State) : Host.Outcome State Fault Refusal :=
  barrierFire s t d a b .m (fun _ => .arw) true true

/-- `TOUCH_G` (R98). -/
def execTouchG (t : BitVec 6) (a : BitVec 5) (b : BitVec 5) (s : State) : Host.Outcome State Fault Refusal :=
  touchFire s t a b .g

/-- `AADD_G` (R103). -/
def execAaddG (t : BitVec 6) (d : BitVec 5) (a : BitVec 5) (b : BitVec 5) (s : State) : Host.Outcome State Fault Refusal :=
  atomicFire s t d a b .add .g

/-- `AMIN_S32_G` (R103). -/
def execAminS32G (t : BitVec 6) (d : BitVec 5) (a : BitVec 5) (b : BitVec 5) (s : State) : Host.Outcome State Fault Refusal :=
  atomicFire s t d a b .minS .g

/-- `AMIN_N32_G` (R103). -/
def execAminN32G (t : BitVec 6) (d : BitVec 5) (a : BitVec 5) (b : BitVec 5) (s : State) : Host.Outcome State Fault Refusal :=
  atomicFire s t d a b .minN .g

/-- `AMAX_S32_G` (R103). -/
def execAmaxS32G (t : BitVec 6) (d : BitVec 5) (a : BitVec 5) (b : BitVec 5) (s : State) : Host.Outcome State Fault Refusal :=
  atomicFire s t d a b .maxS .g

/-- `AMAX_N32_G` (R103). -/
def execAmaxN32G (t : BitVec 6) (d : BitVec 5) (a : BitVec 5) (b : BitVec 5) (s : State) : Host.Outcome State Fault Refusal :=
  atomicFire s t d a b .maxN .g

/-- `AAND_G` (R103). -/
def execAandG (t : BitVec 6) (d : BitVec 5) (a : BitVec 5) (b : BitVec 5) (s : State) : Host.Outcome State Fault Refusal :=
  atomicFire s t d a b .and .g

/-- `AOR_G` (R103). -/
def execAorG (t : BitVec 6) (d : BitVec 5) (a : BitVec 5) (b : BitVec 5) (s : State) : Host.Outcome State Fault Refusal :=
  atomicFire s t d a b .or .g

/-- `AXOR_G` (R103). -/
def execAxorG (t : BitVec 6) (d : BitVec 5) (a : BitVec 5) (b : BitVec 5) (s : State) : Host.Outcome State Fault Refusal :=
  atomicFire s t d a b .xor .g

/-- `AFADD_G` (R105). -/
def execAfaddG (t : BitVec 6) (d : BitVec 5) (a : BitVec 5) (b : BitVec 5) (s : State) : Host.Outcome State Fault Refusal :=
  atomicFire s t d a b .fadd .g

/-- `AXCH_G` (R103). -/
def execAxchG (t : BitVec 6) (d : BitVec 5) (a : BitVec 5) (b : BitVec 5) (s : State) : Host.Outcome State Fault Refusal :=
  atomicFire s t d a b .xch .g

/-- `ACAS_G` (R104). -/
def execAcasG (t : BitVec 6) (d : BitVec 5) (a : BitVec 5) (b : BitVec 5) (s : State) : Host.Outcome State Fault Refusal :=
  atomicFire s t d a b .cas .g

/-- `ARV_G` (R115). -/
def execArvG (t : BitVec 6) (d : BitVec 5) (a : BitVec 5) (b : BitVec 5) (s : State) : Host.Outcome State Fault Refusal :=
  barrierFire s t d a b .g (fun _ => .arv) true false

/-- `AWT_G` (R115). -/
def execAwtG (t : BitVec 6) (d : BitVec 5) (a : BitVec 5) (b : BitVec 5) (s : State) : Host.Outcome State Fault Refusal :=
  barrierFire s t d a b .g (fun f => .awt (phaseOf .g (f.src a).val)) false true

/-- `ARW_G` (R115). -/
def execArwG (t : BitVec 6) (d : BitVec 5) (a : BitVec 5) (b : BitVec 5) (s : State) : Host.Outcome State Fault Refusal :=
  barrierFire s t d a b .g (fun _ => .arw) true true

/-- `FALLOC` (R108). -/
def execFalloc (t : BitVec 6) (d : BitVec 5) (b : BitVec 5) (s : State) : Host.Outcome State Fault Refusal :=
  frameFire s t d [] (fun _ => .falloc b.toNat) fun _ => Lanes.fill 0

/-- `FPUT` (R108). -/
def execFput (t : BitVec 6) (a : BitVec 5) (b : BitVec 5) (s : State) : Host.Outcome State Fault Refusal :=
  frameFire s t 15 [a, b] (fun f => .fput (f.src a).val.l0) fun f => (f.src b).val

/-- `FFREE` (R108). -/
def execFfree (t : BitVec 6) (a : BitVec 5) (s : State) : Host.Outcome State Fault Refusal :=
  frameFire s t 15 [a] (fun f => .ffree (f.src a).val.l0) fun _ => Lanes.fill 0

/-- `OTOK_FORK` (R111). -/
def execOtokFork (t : BitVec 6) (s : State) : Host.Outcome State Fault Refusal :=
  orderFire s t

/-- `OTOK_JOIN` (R111). -/
def execOtokJoin (t : BitVec 6) (s : State) : Host.Outcome State Fault Refusal :=
  orderFire s t

/-- `FENCE` (R112). -/
def execFence (t : BitVec 6) (c : BitVec 3) (s : State) : Host.Outcome State Fault Refusal :=
  orderFire s t

/-- `IOREAD` (R119). -/
def execIoread (t : BitVec 6) (a : BitVec 5) (s : State) : Host.Outcome State Fault Refusal :=
  fireReq s t 15 [a] (fun _ => []) .ioread true false (fun _ => 0) fun f q =>
    { q with
      space := if bits (natOfVec (f.src a).val) 224 1 = 0 then .x else .m
      addr := { Lanes.fill 0 with l0 := bits (natOfVec (f.src a).val) 192 32 / 4 * 4 }
      data := (f.src a).val
      exit := true }

/-- `IOWAIT_X` (R120). -/
def execIowaitX (t : BitVec 6) (d : BitVec 5) (a : BitVec 5) (s : State) : Host.Outcome State Fault Refusal :=
  iowaitFire s t d a .x

/-- `IOWAIT_M` (R120). -/
def execIowaitM (t : BitVec 6) (d : BitVec 5) (a : BitVec 5) (s : State) : Host.Outcome State Fault Refusal :=
  iowaitFire s t d a .m

end Sys2Proof.Machine
end

