-- ==== Sys2Proof/Machine/Dsa.lean ====
section
/-!
DEFINITION. ML-DSA-44: verification, as the boot ROM uses it (R448), and the device identity key and its signatures (R449). The spec
names the function and leaves its definition to FIPS 204, with an empty context string (log entry 50).
-/

namespace Sys2Proof.Machine

/-- The modulus. -/
def dsaQ : Nat := 8380417

/-- A polynomial modulo X^256 + 1: its 256 coefficients, the lowest first, each below the modulus. -/
abbrev DsaPoly := List Nat

/-- A power of the 512th root of unity 1753. -/
def dsaRoot (e : Nat) : Nat := 1753 ^ (e % 512) % dsaQ

/-- The eight bits of a number in reverse order. -/
def rev8 (n : Nat) : Nat := (List.range 8).foldl (fun v k => 2 * v + n / 2 ^ k % 2) 0

/-- The exponent of the root at which the j-th value of a polynomial is taken. -/
def dsaPlace (j : Nat) : Nat := 2 * rev8 j + 1

/-- The 256 values of a polynomial at the odd powers of the root. -/
def DsaPoly.values (p : DsaPoly) : List Nat :=
  (List.range 256).map fun j => p.foldr (fun c v => (c + dsaRoot (dsaPlace j) * v) % dsaQ) 0

/-- The polynomial of 256 values: 8347681 is the inverse of 256. -/
def DsaPoly.ofValues (v : List Nat) : DsaPoly :=
  (List.range 256).map fun k =>
    8347681 * ((List.range 256).foldl (fun a j => a + v.getD j 0 * dsaRoot (512 - dsaPlace j * k % 512)) 0) % dsaQ

/-- Fields of `w` bits, the lowest first, of bytes as one number. -/
def dsaFields (bs : List Byte) (w n : Nat) : List Nat :=
  let x := numOf bs
  (List.range n).map fun k => x / 2 ^ (w * k) % 2 ^ w

/-- The first 256 numbers below the modulus among the 23-bit heads of groups of three bytes. -/
def dsaSample (bs : List Byte) : List Nat :=
  ((dsaFields bs 24 (bs.length / 3)).filterMap fun n => if n % 2 ^ 23 < dsaQ then some (n % 2 ^ 23) else none).take 256

/-- An entry of the public matrix, by its values. -/
def dsaMatrix (rho : List Byte) (row col : Nat) : List Nat :=
  dsaSample (shake128 (rho ++ [BitVec.ofNat 8 col, BitVec.ofNat 8 row]) 16)

/-- Places `i` to 255 of the challenge are filled from a stream of bytes: each takes the next byte that is no larger than its own
number, and a sign. -/
def dsaPlaces (signs : Nat) (bs : List Byte) (c : DsaPoly) (i : Nat) : DsaPoly :=
  match bs with
  | [] => c
  | b :: rest =>
    if 256 ≤ i then c
    else if i < b.toNat then dsaPlaces signs rest c i
    else
      let sign := if signs / 2 ^ (i - 217) % 2 = 1 then dsaQ - 1 else 1
      dsaPlaces signs rest ((c.set i (c.getD b.toNat 0)).set b.toNat sign) (i + 1)

/-- The challenge polynomial of a hash: 39 of its coefficients are 1 or −1. -/
def dsaChallenge (hash : List Byte) : DsaPoly :=
  let out := shake256 hash 8
  dsaPlaces (numOf (out.take 8)) (out.drop 8) (List.replicate 256 0) 217

/-- The places of the hints of one row: they rise. -/
def dsaRising (l : List Nat) : Bool :=
  match l with
  | a :: b :: rest => decide (a < b) && dsaRising (b :: rest)
  | _ => true

/-- The hint of each of the four rows, from its 84 bytes: 80 places, of which the rows use rising stretches one after another and the
rest are 0, and the four ends. None where the bytes are malformed. -/
def dsaHints (bs : List Byte) : Option (List (List Nat)) :=
  let ns := bs.map BitVec.toNat
  let at80 := fun (i : Nat) => ns.getD (80 + i) 0
  let rows := (List.range 4).map fun i =>
    let lo := if i = 0 then 0 else at80 (i - 1)
    (ns.drop lo).take (at80 i - lo)
  if (List.range 4).all (fun i => decide (at80 i ≤ 80) && (i == 0 || decide (at80 (i - 1) ≤ at80 i))) && rows.all dsaRising &&
      ((ns.take 80).drop (at80 3)).all (· == 0) then some rows
  else none

/-- The high part of a coefficient, with its hint. -/
def dsaHigh (hint : Bool) (r : Nat) : Nat :=
  let low := r % 190464
  let neg := decide (95232 < low)
  let hi := if neg then r / 190464 + 1 else r / 190464
  let top := hi == 44
  let hi' := if top then 0 else hi
  if !hint then hi' else if decide (0 < low) && !neg && !top then (hi' + 1) % 44 else (hi' + 43) % 44

/-- Coefficients of `w` bits each, packed into bytes. -/
def dsaPack (w : Nat) (p : List Nat) : List Byte := bytesOf (p.length * w / 8) (p.foldr (fun c v => c + 2 ^ w * v) 0)

/-- What a signature is made over: the hash of the key's hash and of the message behind an empty context. -/
def dsaMessage (pk msg : List Byte) : List Byte := (shake256 ((shake256 pk 1).take 64 ++ [0, 0] ++ msg) 1).take 64

/-- ML-DSA-44 accepts a signature of 2,420 bytes for a public key of 1,312 bytes over a message, with an empty context string. -/
def dsaVerify (pk msg sig : List Byte) : Bool :=
  let rho := pk.take 32
  let t1 := (List.range 4).map fun i => DsaPoly.values ((dsaFields ((pk.drop (32 + 320 * i)).take 320) 10 256).map fun c => c * 8192 % dsaQ)
  let hash := sig.take 32
  let raw := (List.range 4).flatMap fun i => dsaFields ((sig.drop (32 + 576 * i)).take 576) 18 256
  let z := (List.range 4).map fun i => DsaPoly.values (((raw.drop (256 * i)).take 256).map fun v => (131072 + dsaQ - v) % dsaQ)
  match dsaHints (sig.drop 2336) with
  | none => false
  | some hints =>
    let mu := dsaMessage pk msg
    let c := DsaPoly.values (dsaChallenge hash)
    let w := (List.range 4).flatMap fun i =>
      let cols := (List.range 4).map fun j => (dsaMatrix rho i j, z.getD j [])
      let v := (List.range 256).map fun n =>
        (cols.foldl (fun a p => a + p.1.getD n 0 * p.2.getD n 0) 0 + (dsaQ - c.getD n 0 * (t1.getD i []).getD n 0 % dsaQ)) % dsaQ
      (List.range 256).map fun n => dsaHigh ((hints.getD i []).contains n) ((DsaPoly.ofValues v).getD n 0)
    raw.all (fun v => decide (78 < v) && decide (v < 262066)) && (shake256 (mu ++ dsaPack 6 w) 1).take 32 == hash

/-! ## Keys and signatures -/

/-- The sum, the difference and the product of coefficients. -/
def dsaZip (f : Nat → Nat → Nat) (a b : List Nat) : List Nat := (a.zip b).map fun p => f p.1 p.2 % dsaQ
def dsaAdd (a b : List Nat) : List Nat := dsaZip (· + ·) a b
def dsaSub (a b : List Nat) : List Nat := dsaZip (fun x y => x + (dsaQ - y)) a b
def dsaMul (a b : List Nat) : List Nat := dsaZip (· * ·) a b

/-- A coefficient as the integer of least magnitude. -/
def dsaSigned (x : Nat) : Int := if dsaQ / 2 < x then (x : Int) - dsaQ else x

/-- The low part of a coefficient, beside `dsaHigh`. -/
def dsaLow (r : Nat) : Int :=
  let low := r % 190464
  let c : Int := if 95232 < low then (low : Int) - 190464 else low
  if r - c = dsaQ - 1 then c - 1 else c

/-- Every coefficient of some polynomials is smaller than a bound. -/
def dsaBelow (n : Nat) (ps : List (List Int)) : Bool := ps.all fun p => p.all fun x => decide (x.natAbs < n)

/-- The n-th secret polynomial of a seed: its coefficients lie between −2 and 2. -/
def dsaSmall (seed : List Byte) (n : Nat) : DsaPoly :=
  let out := shake256 (seed ++ [BitVec.ofNat 8 n, 0]) 15
  ((out.flatMap fun b => [b.toNat % 16, b.toNat / 16]).filterMap fun x => if x < 15 then some ((dsaQ + 2 - x % 5) % dsaQ) else none).take 256

/-- A key: its public part, and the secret number and polynomials. -/
structure DsaKey where
  pub : List Byte
  secret : List Byte
  s1 : List DsaPoly
  s2 : List DsaPoly
  t0 : List DsaPoly

/-- The row of the public matrix times four polynomials that are given by their values. -/
def dsaRow (rho : List Byte) (i : Nat) (v : List (List Nat)) : DsaPoly :=
  DsaPoly.ofValues ((List.range 4).foldl (fun a j => dsaAdd a (dsaMul (dsaMatrix rho i j) (v.getD j []))) (List.replicate 256 0))

/-- The key of a 32-byte seed. -/
def dsaKey (seed : List Byte) : DsaKey :=
  let h := shake256 (seed ++ [4, 4]) 1
  let rho := h.take 32
  let s1 := (List.range 4).map fun i => dsaSmall ((h.drop 32).take 64) i
  let s2 := (List.range 4).map fun i => dsaSmall ((h.drop 32).take 64) (4 + i)
  let t := (List.range 4).map fun i => dsaAdd (dsaRow rho i (s1.map DsaPoly.values)) (s2.getD i [])
  let low := fun (x : Nat) => if 4096 < x % 8192 then dsaQ + x % 8192 - 8192 else x % 8192
  { pub := rho ++ t.flatMap fun p => dsaPack 10 (p.map fun x => (x + 4095) / 8192)
    secret := (h.drop 96).take 32, s1 := s1, s2 := s2, t0 := t.map fun p => p.map low }

/-- A signature attempt with the mask of counter `n`, by FIPS 204; none where it must be tried again. -/
def dsaAttempt (k : DsaKey) (mu mask : List Byte) (n : Nat) : Option (List Byte) :=
  let y := (List.range 4).map fun i =>
    (dsaFields ((shake256 (mask ++ bytesOf 2 (n + i)) 5).take 576) 18 256).map fun v => (131072 + dsaQ - v) % dsaQ
  let w := (List.range 4).map fun i => dsaRow (k.pub.take 32) i (y.map DsaPoly.values)
  let hash := (shake256 (mu ++ dsaPack 6 (w.flatMap fun p => p.map (dsaHigh false))) 1).take 32
  let c := DsaPoly.values (dsaChallenge hash)
  let times := fun (p : DsaPoly) => DsaPoly.ofValues (dsaMul c p.values)
  let z := (y.zip k.s1).map fun p => dsaAdd p.1 (times p.2)
  let r := (w.zip k.s2).map fun p => dsaSub p.1 (times p.2)
  let ct0 := k.t0.map times
  let hint := (r.zip ct0).map fun p => (List.range 256).filter fun j =>
    dsaHigh false (p.1.getD j 0) != dsaHigh false ((p.1.getD j 0 + p.2.getD j 0) % dsaQ)
  let ends := (List.range 4).map fun i => ((hint.take (i + 1)).map List.length).sum
  let places := hint.flatten
  if dsaBelow (131072 - 78) (z.map fun p => p.map dsaSigned) && dsaBelow (95232 - 78) (r.map fun p => p.map dsaLow) &&
      dsaBelow 95232 (ct0.map fun p => p.map dsaSigned) && decide (places.length ≤ 80) then
    some (hash ++ (z.flatMap fun p => dsaPack 18 (p.map fun x => (131072 + dsaQ - x) % dsaQ)) ++
      ((places ++ List.replicate (80 - places.length) 0) ++ ends).map (BitVec.ofNat 8))
  else none

/-- The first attempt that succeeds; `fuel` bounds them, at all the counters that FIPS 204 has. -/
def dsaTry (k : DsaKey) (mu mask : List Byte) (n fuel : Nat) : List Byte :=
  match fuel with
  | 0 => []
  | f + 1 => match dsaAttempt k mu mask n with
    | some s => s
    | none => dsaTry k mu mask (n + 4) f

/-- The signature of a key over a message, with a 32-byte random number. -/
def dsaSign (k : DsaKey) (rnd msg : List Byte) : List Byte :=
  let mu := dsaMessage k.pub msg
  dsaTry k mu ((shake256 (k.secret ++ rnd ++ mu) 1).take 64) 0 16384

end Sys2Proof.Machine
end

