-- ==== Sys2Proof/Machine/Mgmt.lean ====
section
/-!
DEFINITION. The device in its system (R440 to R454): the management window and its commands, the answers of the driver (R222), the
capture of launches (R328, R332, R333), links (R444), firmware and attestation (R447 to R449), and the I/O agent (R119, R445).
-/

namespace Sys2Proof.Machine

/-! ## The window -/

/-- `NOTIFICATION_CLEAR` (R440, R452): a written 1 clears its bit. -/
def execNotificationClear (die : Nat) (ntf : BitVec 5) (isl : BitVec 16) (s : State) : Host.Outcome State Fault Refusal :=
  go (s.modDie die fun d => { d with ntf := d.ntf &&& ~~~ntf, isl := d.isl &&& ~~~isl })

/-- `MANAGEMENT_WRITE` (R440, R441): a byte of the command record is stored; every other byte without a row of its own ignores the
write. -/
def execManagementWrite (die : Nat) (off : Nat) (value : Byte) (s : State) : Host.Outcome State Fault Refusal :=
  if 128 ≤ off ∧ off < 192 then
    go (s.modDie die fun d => { d with crec := BitVec.ofNat 512 (setBits d.crec.toNat (8 * (off - 128)) 8 value.toNat) })
  else go s

/-- What the fields of the management block and of the command record hold, as a number of 192 bytes (Tables 23.1, 23.2): a field that is
written only, and every reserved bit, is zero (R2, R8). -/
def State.windowNum (s : State) (die : Nat) : Nat :=
  let d := s.die die
  let c := d.crec.toNat
  pack [(0, d.lw.toNat), (128, if d.busy then 1 else 0), (129, d.res.toNat), (160, d.rval.toNat), (192, d.refl.toNat),
    (208, d.lostl.toNat), (224, s.bst.toNat), (227, s.bres.toNat), (256, d.ntf.toNat), (264, d.isl.toNat), (1024, bits c 0 8),
    (1088, bits c 64 64), (1152, bits c 128 64), (1216, bits c 192 64)]

/-- What a read of a byte of the management window returns (R8, R440): beyond the two records it is zero. -/
def State.readWindow (s : State) (die off : Nat) : Byte := BitVec.ofNat 8 (bits (s.windowNum die) (8 * off) 8)

/-- `LAUNCH_WORD_STORE` (R332, R443, R444): the synchronising store waits for an empty word, and fills it. -/
def execLaunchWordStore (die : Nat) (value : BitVec 64) (s : State) : Host.Outcome State Fault Refusal :=
  if (s.die die).lwFull || s.lost.contains (Config.windowPort die).toNat then go s
  else go (s.modDie die fun d => { d with lw := value, lwFull := true })

/-! ## Commands -/

/-- Fields of a command record (Table 23.2). -/
def cmdOp (n : Nat) : Nat := bits n 0 8
def cmdP (n i : Nat) : Nat := bits n (64 + 64 * i) 64
def cmdReserved (n : Nat) : Bool := bits n 8 56 != 0 || bits n 256 256 != 0

/-- The result and the value with which a command ends. -/
def State.ends (s : State) (die res : Nat) (v : Word) : State := s.modDie die fun d => { d with fin := some (BitVec.ofNat 3 res, v) }

/-- A command is started by a write of cdb (R441): an overrun changes only res; the record is captured whole, and busy is set; `ok`
judges the boot state and `run` is the command, on its captured record. -/
def State.command (s : State) (die op : Nat) (ok : Bool) (run : Nat → State → State) : State :=
  let d := s.die die
  let n := d.crec.toNat
  if cmdOp n ≠ op then s
  else if d.busy then s.modDie die fun x => { x with res := 3 }
  else
    let s1 := s.modDie die fun x => { x with busy := true, run := some d.crec, fin := none }
    if !ok then s1.ends die 4 0 else if cmdReserved n then s1.ends die 2 0 else run n s1

/-- A command that runs in the running boot state, when its operands are in range, and ends at once (R441). -/
def State.simple (s : State) (die op : Nat) (good : Nat → Bool) (run : Nat → State → State) : Host.Outcome State Fault Refusal :=
  go (s.command die op (s.bst == 2) fun n z => if good n then (run n z).ends die 0 0 else z.ends die 2 0)

/-- A companion physical address of `len` bytes (R442). -/
def inCompanion (a len : Nat) : Bool := decide (0x1000000000000 ≤ a) && decide (a + len ≤ 0x2000000000000)

/-- A package island of a die (R15, R441). -/
def islandOf (n die : Nat) : Bool := decide (cmdP n 0 < 128) && cmdP n 0 / 16 == die

/-- The tile of the die that an operand names (Table 23.3); compute tiles only. -/
def cmdTile (n die : Nat) : TileId := ⟨die, bits (cmdP n 0) 0 5, bits (cmdP n 0) 5 6⟩
def cmdTileOk (n die : Nat) : Bool := decide ((cmdTile n die).row < 20) && decide ((cmdTile n die).col < 40) && (cmdTile n die).isCompute

/-- `POWER_UP` (R447): every die is in boot state 0, and every island at its lowest point; the world outside the package, with the
memory of the companion and of the remote devices, stays. -/
def execPowerUp (s : State) : Host.Outcome State Fault Refusal :=
  let outside := fun (a : Nat) => (decide (0x1000000000000 ≤ a) && decide (a < 2 ^ 52)) || decide (2 ^ 60 ≤ a)
  go { State.reset with
    agenda := s.agenda, tick := s.tick, fresh := s.fresh, spaces := s.spaces, netq := s.netq
    mem := s.mem.filter (fun c => outside c.1), pois := s.pois.filter fun p => outside p.1 }

/-- `BOOT` (R447): the ROM of d0 reads an image in boot states 0 and 3. -/
def execBoot (die : Nat) (s : State) : Host.Outcome State Fault Refusal :=
  go (s.command die 0 (die == 0 && (s.bst == 0 || s.bst == 3)) fun n z =>
    if inCompanion (cmdP n 0) (cmdP n 1) then
      let d := z.engineRead [(cmdP n 0, cmdP n 1)]
      { z with bst := 1, bres := 0, fwImg := d.1, fwPois := d.2 }
    else z.ends die 2 0)

/-- Bytes of a firmware image, and its fields (Table 23.6). -/
def fwField (img : List Byte) (off len : Nat) : Nat := numOf ((img.drop off).take len)

/-- The first check that an image fails (R448); 0 where every check holds. -/
def bootCheck (img : List Byte) (clean : Bool) : BitVec 3 :=
  let h := fwField img 0 16
  let blen := bits h 64 32
  if !clean || bits h 0 32 != 0x53384657 || bits h 38 26 != 0 || bits h 96 32 != 0 || fwField img 3748 28 != 0 || blen % 64 != 0 ||
      decide (blen < 64) || decide (67108864 < blen) || img.length != 3776 + blen then 4
  else if sha3 ((img.drop 16).take 1312) ≠ Config.keyDigest.toNat then 1
  else if bits h 32 6 < Config.minSvn.toNat then 2
  else if dsaVerify ((img.drop 16).take 1312) (bytesOf 32 (sha3 (img.drop 3776))) ((img.drop 1328).take 2420) then 0
  else 3

/-- `BOOT_VERIFY_END` (R447, R448): the image that was read is accepted, its body loaded into all 32 stewards and every launch word
emptied; or it is refused. -/
def execBootVerifyEnd (s : State) : Host.Outcome State Fault Refusal :=
  if s.bst ≠ 1 then go s
  else
    let c := bootCheck s.fwImg (s.fwPois == .clean)
    let s1 := s.ends 0 0 0
    if c = 0 then
      let s2 := (List.range 8).foldl (fun z n => z.modDie n fun x => { x with lwFull := false }) s1
      go { s2 with
        bst := 2, svn := bits (fwField s.fwImg 0 16) 32 6, fwdig := sha3 s.fwImg
        stewards := List.replicate 32 (s.fwImg.drop 3776) }
    else go { s1 with bst := 3, bres := c }

/-- The point of an island: the lowest until the host sets one (R450). -/
def State.pointOf (s : State) (n : Nat) : BitVec 4 := ((Table.get s.islands n : Island).point).getD (Config.lowPoint n)

/-- The state with an island changed. -/
def State.modIsland (s : State) (n : Nat) (f : Island → Island) : State := { s with islands := Table.modify s.islands n f }

/-- `SET_POINT` (R450). -/
def execSetPoint (die : Nat) (s : State) : Host.Outcome State Fault Refusal :=
  go (s.command die 1 (s.bst == 2) fun n z =>
    let i := cmdP n 0
    let p := cmdP n 1
    if !islandOf n die || decide (16 ≤ p) then z.ends die 2 0
    else if p < (Config.lowPoint i).toNat ∨ (Config.highPoint i).toNat < p then z.ends die 1 0
    else (z.modIsland i fun x => { x with point := some (BitVec.ofNat 4 p) }).ends die 0 0)

/-- A translation of an invalidation's space and range (R219). -/
def invalHits (n space vbase size : Nat) : Bool :=
  space == bits (cmdP n 0) 0 14 && (bits (cmdP n 0) 16 1 == 1 || overlap vbase size (cmdP n 1) (cmdP n 2))

/-- A TLB entry of an invalidation. -/
def invalEnt (n : Nat) (e : TlbEnt) : Bool := invalHits n e.space e.vbase e.size

/-- The virtual bytes that a command has translated and not yet performed (R219): of the tokens that a stream has issued, and of the chunks
that a copy has checked. -/
def Req.translated (r : Req) : List (Nat × Nat) :=
  match r.op with
  | .stream _ =>
    if spaceCode (sdSpc r.blk) ≠ .g then []
    else r.ahead.zipIdx.filterMap fun x => if x.1.parts.isEmpty then none else some ((sdAddr r.blk r.off (r.prog + x.2)).toNat, 32)
  | .copy =>
    ((r.todo.map (·.chunk)).eraseDups.flatMap r.chunkElems).flatMap fun e =>
      (if cbSsp r.blk = 2 then [((r.copyAddr e).1.toNat, cbEsz r.blk)] else []) ++
        if cbDsp r.blk = 2 then [((r.copyAddr e).2.toNat, cbEsz r.blk)] else []
  | _ => []

/-- Every access that was translated with an entry of an invalidation is performed (R219), those of commands and the blocks of a reuse
hit too. -/
def State.invalDone (s : State) (n : Nat) : Bool :=
  (s.reqs.all fun r => r.performed || !(r.pages ++ r.translated).any fun p => invalHits n (s.space r.ctxno) p.1 p.2) &&
    s.hits.all fun h => (h.todo.getD []).isEmpty || !invalHits n (s.launchSpace h.launch) (abResBase h.launch.args) h.len

/-- `INVALIDATE` (R219): the entries go; the command ends when every access translated with one is performed. -/
def execInvalidate (die : Nat) (s : State) : Host.Outcome State Fault Refusal :=
  go (s.command die 2 (s.bst == 2) fun n z =>
    let p := cmdP n 0
    let whole := bits p 16 1 == 1
    if bits p 14 2 = 0 ∧ p < 2 ^ 17 ∧ (whole ∨ cmdP n 1 + cmdP n 2 ≤ 2 ^ 57) then z.dropTlb (invalEnt n) else z.ends die 2 0)

/-- A TLB entry whose frame lies in a peer window (R446). -/
def frameInWindow (e : TlbEnt) (p : Nat) : Bool := rangeOf e.frame == some (.peer p)

/-- `BIND_WINDOW` (R446): a window is bound or, unless a TLB holds a page of it, unbound. -/
def execBindWindow (die : Nat) (s : State) : Host.Outcome State Fault Refusal :=
  go (s.command die 3 (s.bst == 2) fun n z =>
    let p := cmdP n 0
    if 64 ≤ p ∨ 12 ≤ cmdP n 1 ∨ 2 ^ 32 ≤ cmdP n 2 then z.ends die 2 0
    else if cmdP n 2 = 0 then
      if z.anyTlb (frameInWindow · p) then z.ends die 4 0 else { z with peers := Table.set z.peers p none }.ends die 0 0
    else { z with peers := Table.set z.peers p (some (cmdP n 1, cmdP n 2)) }.ends die 0 0)

/-- `CONTEXT` (R431, R442): a context is made known with its control block, or ended. -/
def execContext (die : Nat) (s : State) : Host.Outcome State Fault Refusal :=
  s.simple die 4 (fun n => decide (cmdP n 0 < 16384) && decide (cmdP n 2 < 2) &&
      (cmdP n 2 == 0 || (cmdP n 1 % 64 == 0 && inCompanion (cmdP n 1) 64))) fun n z =>
    let c := cmdP n 0
    if cmdP n 2 = 1 then { z with ctxs := Table.set z.ctxs c (cmdP n 1), faultSeq := Table.set z.faultSeq c 0 }
    else z.endContext (BitVec.ofNat 14 c) die 0 0

/-- `SPACE_TABLE` (R216). -/
def execSpaceTable (die : Nat) (s : State) : Host.Outcome State Fault Refusal :=
  s.simple die 5 (fun n => cmdP n 0 % 0x20000 == 0 && inCompanion (cmdP n 0) 0x20000) fun n z =>
    z.modDie die fun d => { d with spaceBase := some (cmdP n 0) }

/-- `TRANSLATION_QUEUE` (R221, R442). -/
def execTranslationQueue (die : Nat) (s : State) : Host.Outcome State Fault Refusal :=
  s.simple die 6 (fun n => cmdP n 0 % 4096 == 0 && (List.range 13).any (fun k => cmdP n 1 == 16 * 2 ^ k) &&
      inCompanion (cmdP n 0) (32 * cmdP n 1)) fun n z =>
    z.modDie die fun d => { d with tqBase := cmdP n 0, tqLen := cmdP n 1 }

/-- `REUSE_STORE` (R402): the store is assigned from the die's HBM, and every entry of the table is freed. -/
def execReuseStore (die : Nat) (s : State) : Host.Outcome State Fault Refusal :=
  s.simple die 7 (fun n => cmdP n 0 % 0x200000 == 0 && cmdP n 1 % 0x200000 == 0 && cmdP n 0 / 2 ^ 36 == die &&
      decide (cmdP n 0 % 2 ^ 36 + cmdP n 1 ≤ 2 ^ 36)) fun n z =>
    z.modDie die fun d => { d with reuse := [], rsBase := cmdP n 0, rsLen := cmdP n 1 }

/-- The least recently hit entry of a space that is not being inserted. -/
def leastOf (t : Table Reuse) (space : Nat) : Option Nat :=
  (t.foldl (fun (b : Option (Nat × Nat)) e =>
    let lower := match b with
      | some c => decide (e.2.used < c.2)
      | none => true
    if e.2.space = space ∧ (e.2.st = ReuseSt.live ∨ e.2.st = ReuseSt.dead) ∧ lower = true then some (e.1, e.2.used)
    else b) none).map (·.1)

/-- Entries of a space are freed down to its quota, the least recently hit first, and last those that are still being inserted
(R442). -/
def cutQuota (t : Table Reuse) (space quota fuel : Nat) : Table Reuse :=
  match fuel with
  | 0 => t
  | k + 1 =>
    if (t.filter fun e => e.2.st != .free && e.2.space == space).length ≤ quota then t
    else match leastOf t space with
      | some n => cutQuota (Table.erase t n) space quota k
      | none => match t.find? fun e => e.2.st == .inserting && e.2.space == space with
        | some e => cutQuota (Table.erase t e.1) space quota k
        | none => t

/-- `REUSE_QUOTA` (R407). -/
def execReuseQuota (die : Nat) (s : State) : Host.Outcome State Fault Refusal :=
  s.simple die 8 (fun n => decide (cmdP n 0 < 16384) && decide (cmdP n 1 ≤ 65536)) fun n z =>
    z.modDie die fun d =>
      { d with quota := Table.set d.quota (cmdP n 0) (cmdP n 1), reuse := cutQuota d.reuse (cmdP n 0) (cmdP n 1) d.reuse.length }

/-- `REUSE_FLUSH` (R408). -/
def execReuseFlush (die : Nat) (s : State) : Host.Outcome State Fault Refusal :=
  s.simple die 9 (fun n => bits (cmdP n 0) 14 2 == 0 && decide (cmdP n 0 < 2 ^ 17)) fun n z =>
    let all := bits (cmdP n 0) 16 1 == 1
    let kill := fun (_ : Nat) (e : Reuse) =>
      if (e.st == .live || e.st == .inserting) && (all || e.space == bits (cmdP n 0) 0 14) then { e with st := .dead } else e
    z.modDie die fun d => { d with reuse := Table.mapAll d.reuse kill }

/-- A region still has a save of the host's to come. -/
def Region.toSave (r : Region) (c : Nat) : Bool := r.live && r.ctxno.toNat == c && (r.saveAsked || r.life == .saving)

/-- `SAVE` (R376, R381, R442): every region of the context is asked to be saved. -/
def execSave (die : Nat) (s : State) : Host.Outcome State Fault Refusal :=
  go (s.command die 10 (s.bst == 2) fun n z =>
    if 16384 ≤ cmdP n 0 then z.ends die 2 0
    else
      let ask := fun (_ : Nat) (r : Region) =>
        if r.live && r.ctxno.toNat == cmdP n 0 && r.done.isNone then { r with saveAsked := true } else r
      { z with regions := Table.mapAll z.regions ask })

/-- The purge of a command is requested once its die's engine has room (R429). -/
def State.purgeCmd (s : State) (die n : Nat) : State :=
  if s.purgeRoom die then
    s.requestPurge { die := die, owner := ⟨BitVec.ofNat 14 (cmdP n 0), BitVec.ofNat 16 (cmdP n 1)⟩, cause := 0, cmds := [die] }
  else s

/-- `PURGE` (R429, R442). -/
def execPurge (die : Nat) (s : State) : Host.Outcome State Fault Refusal :=
  go (s.command die 11 (s.bst == 2) fun n z =>
    if 16384 ≤ cmdP n 0 ∨ 65536 ≤ cmdP n 1 then z.ends die 2 0 else z.purgeCmd die n)

/-- `INJECT` (R312): the injection word of an M-element is written; done is cleared by a write with arm = 1. -/
def execInject (die : Nat) (s : State) : Host.Outcome State Fault Refusal :=
  s.simple die 12 (fun n => cmdTileOk n die && decide (124 ≤ bits (cmdP n 0) 11 7) && decide (cmdP n 0 < 2 ^ 18) && decide (cmdP n 1 < 2 ^ 16))
    fun n z => z.modElem ⟨cmdTile n die, bits (cmdP n 0) 11 7⟩ fun x =>
      let done := if bits (cmdP n 1) 0 1 = 1 then 0 else bits x.injw.toNat 15 1
      { x with injw := BitVec.ofNat 32 (bits (cmdP n 1) 0 15 + done * 2 ^ 15) }

/-- A command writes bytes to companion physical addresses: those behind a lost link are not performed (R212, R444). -/
def State.cmdWrite (s : State) (a : Nat) (bs : List Byte) : State :=
  ((cutRuns [(a, bs.length)]).foldl (fun z g =>
    (if z.1.linkLost g.1 then z.1 else z.1.storeBytes g.1 (z.2.take g.2) .clean, z.2.drop g.2)) (s, bs)).1

/-- The 80 bytes of a monitor (R454). -/
def monitorBytes (m : Monitor) : List Byte :=
  ([m.cfg, m.base, m.low, m.high] ++ (List.range 16).map fun k => (Table.get m.bins k : Word)).flatMap fun w => bytesOf 4 w.toNat

/-- `MONITOR` (R454): one snapshot of a tile's monitor, which may be cleared in the same cycle. -/
def execMonitor (die : Nat) (s : State) : Host.Outcome State Fault Refusal :=
  s.simple die 13 (fun n => cmdTileOk n die && decide (cmdP n 0 < 2 ^ 11) && inCompanion (cmdP n 1) 80 && decide (cmdP n 2 < 2)) fun n z =>
    let m := (z.tile (cmdTile n die)).mon
    let s1 := z.cmdWrite (cmdP n 1) (monitorBytes m)
    if cmdP n 2 = 1 then s1.modTile (cmdTile n die) fun x => { x with mon := { cfg := m.cfg, base := m.base } } else s1

/-- The attestation body (Table 23.7). -/
def State.attestBody (s : State) (nonce : Nat) : List Byte :=
  bytesOf 128 (pack [(0, nonce), (256, s.fwdig), (512, Config.keyDigest.toNat), (768, Config.serial.toNat), (832, s.svn),
    (838, Config.minSvn.toNat)])

/-- The nonce as the device reads it: free where a link to it is lost (log entry 27). -/
def State.nonce (s : State) (a : Nat) : Nat := if s.lostIn [(a, 32)] then Config.lostBytes s.fresh a % 2 ^ 256 else s.peek a 32

/-- The device identity key of a fused seed (R449). -/
def identity (seed : BitVec 256) : DsaKey := dsaKey (bytesOf 32 seed.toNat)

/-- `ATTEST` (R449): the body, and the signature of the device identity key over its hash. -/
def execAttest (die : Nat) (s : State) : Host.Outcome State Fault Refusal :=
  s.simple die 14 (fun n => inCompanion (cmdP n 0) 32 && inCompanion (cmdP n 1) 2548) fun n z =>
    let body := z.attestBody (z.nonce (cmdP n 0))
    let sig := dsaSign (identity Config.identitySeed) (bytesOf 32 (Config.signRandom z.fresh).toNat) (bytesOf 32 (sha3 body))
    { z with fresh := z.fresh + 1 }.cmdWrite (cmdP n 1) (body ++ sig)

/-- `IDENTITY_KEY` (R442). -/
def execIdentityKey (die : Nat) (s : State) : Host.Outcome State Fault Refusal :=
  s.simple die 15 (fun n => inCompanion (cmdP n 0) 1312) fun n z =>
    z.cmdWrite (cmdP n 0) (identity Config.identitySeed).pub

/-- `THRESHOLD` (R452). -/
def execThreshold (die : Nat) (s : State) : Host.Outcome State Fault Refusal :=
  s.simple die 16 (fun n => islandOf n die && decide (cmdP n 1 < 2 ^ 32)) fun n z =>
    (z.modIsland (cmdP n 0) fun x => { x with threshold := wordOf (cmdP n 1) }).latchIsland (cmdP n 0)

/-- `CLEAR_ERRORS` (R452). -/
def execClearErrors (die : Nat) (s : State) : Host.Outcome State Fault Refusal :=
  s.simple die 17 (fun n => islandOf n die) fun n z => z.modIsland (cmdP n 0) fun x => { x with count := 0, latched := false }

/-- A port that a command names (Table 23.3). -/
def portOk (p die : Nat) : Bool := (decide (p < 4) || (decide (16 ≤ p) && decide (p < 28))) && dieOfPort p == die

/-- `RETRAIN` (R444): whether it succeeds is open. -/
def execRetrain (die : Nat) (s : State) : Host.Outcome State Fault Refusal :=
  go (s.command die 18 (s.bst == 2) fun n z =>
    let p := cmdP n 0
    if !portOk p die then z.ends die 2 0
    else
      let s1 := { z with fresh := z.fresh + 1 }
      if Config.retrains z.fresh then ({ s1 with lost := s1.lost.filter (· != p) }.notify die 4).ends die 0 1 else s1.ends die 0 0)

/-- `CHANNEL_TABLE` (R445): the table moves when the command completes. -/
def execChannelTable (die : Nat) (s : State) : Host.Outcome State Fault Refusal :=
  s.simple die 19 (fun n => cmdP n 0 % 0x8000 == 0 && inCompanion (cmdP n 0) 0x8000) fun _ z => z

/-- What a command does when it completes (R445). -/
def State.completes (s : State) (die n : Nat) (res : BitVec 3) : State :=
  if cmdOp n = 19 ∧ res = 0 then s.modDie die fun d => { d with chanBase := some (cmdP n 0) } else s

/-- `UNASSIGNED_COMMAND` (R441): a command with an unassigned op, or with a reserved bit set. -/
def execUnassignedCommand (die : Nat) (s : State) : Host.Outcome State Fault Refusal :=
  let n := (s.die die).crec.toNat
  if 0x13 < cmdOp n ∨ cmdReserved n then go (s.command die (cmdOp n) (s.bst == 2 || cmdOp n == 0) fun _ z => z.ends die 2 0) else go s

/-- A running command that goes on after its start (R219, R381, R429): where it has come to its end, the result; else the state in
which it goes on. -/
def State.runOn (s : State) (die n : Nat) : State :=
  match cmdOp n with
  | 2 => if s.invalDone n then (s.dropTlb (invalEnt n)).ends die 0 0 else s
  | 10 => if s.regions.any fun p => p.2.toSave (cmdP n 0) then s else s.ends die 0 0
  | 11 => if s.purges.any fun p => p.cmds.contains die then s else s.purgeCmd die n
  | _ => s

/-- `COMMAND_DONE` (R441): res and rval are written, busy is cleared and ntf[0] is set. -/
def execCommandDone (die : Nat) (s : State) : Host.Outcome State Fault Refusal :=
  match (s.die die).run with
  | none => go s
  | some c =>
    let s1 := if (s.die die).fin.isNone then s.runOn die c.toNat else s
    match (s1.die die).fin with
    | none => go s1
    | some (res, v) =>
      go (((s1.completes die c.toNat res).modDie die fun d => { d with res := res, rval := v, busy := false, run := none, fin := none }).notify die 0)

/-! ## The answers of the driver -/

/-- The answer that the driver has written into a record (Table 10.10); a slot of the ring that has been used again, or that lies behind
a lost link, holds none. -/
def State.answerOf (s : State) (t : TransRec) : Nat :=
  match t.place with
  | none => 0
  | some a =>
    let n := s.peek a 32
    if s.linkLost a || bits n 128 32 != t.seq then 0 else bits n 160 2

/-- Two records name one page of one space (R222; log entry 9). -/
def TransRec.samePage (t u : TransRec) : Bool := t.space == u.space && t.va / 0x10000 == u.va / 0x10000

/-- What waits under a record named by its die and sequence number. -/
def State.recOf (s : State) (k : Nat × Nat) : Option TransRec := s.trans.find? fun t => t.die == k.1 && t.seq == k.2

/-- A wait after an answer: released, or refused where the answer is to its own record (R222). -/
def State.answerSvc (s : State) (t : TransRec) (resp : Nat) (v : Svc) : Svc :=
  match v with
  | .asked k va old =>
    match s.recOf k with
    | some u =>
      if resp = 1 then (if t.samePage u then (if old.isEmpty then .clear else .refused old) else v)
      else if u.die = t.die ∧ u.seq = t.seq then .refused (va :: old) else v
    | none => v
  | x => x

/-- A parked access after an answer (R222). -/
def State.answerReq (s : State) (t : TransRec) (resp : Nat) (r : Req) : Req :=
  let q := { r with svc := s.answerSvc t resp r.svc }
  match r.stage with
  | .parked p =>
    match if p.final then none else p.tr.bind s.recOf with
    | some u =>
      if resp = 1 then (if t.samePage u then { q with stage := .sent } else q)
      else if u.die = t.die ∧ u.seq = t.seq then { q with stage := .parked { p with final := true } } else q
    | none => q
  | _ => q

/-- The accesses whose fault an answer makes final: they take translation fault in their iterations (R222). -/
def State.newlyFinal (s : State) (t : TransRec) : List (Req × Nat) :=
  s.reqs.filterMap fun r => match r.stage with
    | .parked p => if !p.final && p.tr == some (t.die, t.seq) then some (r, p.addr) else none
    | _ => none

/-- A saved state after an answer: what waits in it waits on, or not, as it would have stood (R223). -/
def State.answerSaved (s : State) (t : TransRec) (resp : Nat) (v : Saved) : Saved := { v with reqs := v.reqs.map (s.answerReq t resp) }

/-- A launch after an answer. -/
def State.answerLaunch (s : State) (t : TransRec) (resp : Nat) (l : Launch) : Launch :=
  { l with svc := s.answerSvc t resp l.svc, saved := l.saved.map (s.answerSaved t resp), saved1 := l.saved1.map (s.answerSaved t resp) }

/-- One answered record is acted on (R222): resp = 1 releases what waits on its page, whichever record that waits under. -/
def State.answer (s : State) (t : TransRec) : State :=
  let resp := s.answerOf t
  let drop := fun (z : State) => { z with trans := z.trans.filter fun u => !(u.die == t.die && u.seq == t.seq) }
  if resp ≠ 1 ∧ resp ≠ 2 then s
  else if t.spent then drop s
  else
    let f := s.answerSvc t resp
    let finals := if resp = 2 then s.newlyFinal t else []
    let s1 := { s with
      reqs := s.reqs.map (s.answerReq t resp)
      regions := Table.mapAll s.regions fun _ r => { r with svc := f r.svc, task := s.answerLaunch t resp r.task }
      queue := s.queue.map (s.answerLaunch t resp)
      hits := s.hits.map fun (h : Hit) => { h with svc := f h.svc }
      dies := Table.mapAll s.dies fun _ d => { d with lwSvc := f d.lwSvc } }
    drop ((finals.foldl (fun z p => z.record (z.reqFault p.1 0x03 p.2 t.seq)) s1).spend s)

/-- `TRANSLATION_DOORBELL` (R222): the steward acts on every answer of the die's queue. -/
def execTranslationDoorbell (die : Nat) (s : State) : Host.Outcome State Fault Refusal :=
  go ((s.trans.filter fun t => t.die == die).foldl State.answer s)

/-! ## The capture of launches -/

/-- What the checks of R328 find. -/
inductive CapX where
  | accept (args : Nat)
  | refuse (cause : Cause)
  /-- No record can be written: the launch is dropped and counted. -/
  | drop
  | service (kind va : Nat)
  deriving DecidableEq, Repr, Inhabited

/-- A context is live (R328, R431). -/
def State.ctxLive (s : State) (c : BitVec 14) : Bool := (Table.find s.ctxs c.toNat).isSome && s.ccb c 385 1 == 0

/-- A reserved bit of a launch record is set (Table 16.3). -/
def lrReserved (n : Nat) : Bool :=
  [(57, 7), (121, 7), (171, 21), (249, 7), (313, 7), (377, 7), (441, 7), (505, 7)].any fun p => bits n p.1 p.2 != 0

/-- An argument block that check 5 refuses (R327, R328). -/
def abBad (n : Nat) (pure : Bool) : Bool :=
  let entry := fun (lo : Nat) => bits n (lo + 57) 7 != 0 || bits n (lo + 96) 32 != 0
  bits n 8 120 != 0 || decide (8 < abRanges n) || decide (8 < abScalars n) || entry 128 ||
    (List.range 8).any (fun i => entry (256 + 128 * i)) || (List.range (min 8 (abRanges n))).any (fun i => abLen n i == 0) ||
    (pure && abResLen n == 0)

/-- What the queue finds of the argument block: none where it has no block or cannot read it. -/
inductive BlockX where
  | absent
  | ok (n : Nat)
  | unreadable
  | service (va : Nat)
  deriving DecidableEq, Repr, Inhabited

/-- The argument block of a record, as read (R328). -/
def State.argBlock (s : State) (die space recd : Nat) (v : Svc) : BlockX :=
  if lrArgs recd = 0 then .absent
  else match s.stew die space Need.read v (lrArgs recd) 192 with
    | .service a => .service a
    | .final _ => .unreadable
    | .ok segs =>
      let d := s.engineRead segs
      if d.2 ≠ .clean then .unreadable else .ok (numOf d.1)

/-- The first failing check of a record alone, from 1 to 5, with its cause (R328); `issuer` is the space of a `launch`. -/
def launchCheck (n space : Nat) (issuer : Option Nat) : Option Cause :=
  if lrReserved n || lrImg n == 0 || lrImg n % 64 != 0 then some 0
  else if issuer.any (· != space) then some 4
  else if (lrPure n && lrArgs n == 0) || (lrNext n && lrDep n 0 == 0) || (lrNext n && lrPure n) then some 0
  else none

/-- The checks of R328 on a captured record, by a die's queue: those of the record first, then those of its argument block, and then
whether its completion record can be written. -/
def State.capX (s : State) (die n : Nat) (issuer : Option Nat) (v : Svc) : CapX :=
  if lrCrec n = 0 ∨ lrCrec n % 64 ≠ 0 ∨ !s.ctxLive (lrCtx n) then .drop
  else
    let space := s.space (lrCtx n)
    let finish := fun (x : CapX) =>
      match s.stew die space Need.write v (lrCrec n) 64 with
      | .service a => .service 1 a
      | .final _ => .drop
      | .ok _ => if s.sealHit space (lrCrec n) 64 then .drop else x
    match launchCheck n space issuer with
    | some c => finish (.refuse c)
    | none => match s.argBlock die space n v with
      | .service a => .service 0 a
      | .absent => finish (.accept 0)
      | .unreadable => finish (.refuse 0)
      | .ok m => finish (if abBad m (lrPure n) then .refuse 0 else .accept m)

/-- A launch is dropped, and counted (R328). -/
def State.countRefused (s : State) (die : Nat) : State := s.modDie die fun d => { d with refl := addTouch d.refl 1 }

/-- A launch enters its die's queue (R328, R369); `by_` is the region whose `launch` it is. -/
def State.enqueue (s : State) (die n args : Nat) (by_ : Option Nat) : State :=
  { s with queue := s.queue ++ [{ acc := s.accNo, die := die, recd := n, args := args, queuedBy := by_ }], accNo := s.accNo + 1 }

/-- A captured record is accepted, refused or dropped. -/
def State.settleLaunch (s : State) (die n : Nat) (by_ : Option Nat) (x : CapX) : State :=
  match x with
  | .accept m => s.enqueue die n m by_
  | .refuse c => s.writeRec die n 5 c 0 0 0 0
  | _ => s.countRefused die

/-- The record that the launch word brought is judged (R328, R332). -/
def State.judgeWord (s : State) (die n : Nat) : State :=
  let v := (s.die die).lwSvc
  let o : Owner := ⟨lrCtx n, lrTag n⟩
  match s.capX die n none v with
  | .service kind va =>
    let a := s.stewAsk die o (s.space o.ctxno) kind va v
    a.1.modDie die fun d => { d with lwSvc := a.2, cap := some n }
  | x => (s.settleLaunch die n none x).modDie die fun d => { d with lwSvc := .clear, cap := none }

/-- The queue captures the record that the launch word names, and empties the word (R332). -/
def State.captureWord (s : State) (die : Nat) : State :=
  let d := s.die die
  match d.cap with
  | some n => if d.lwSvc.waits then s else s.judgeWord die n
  | none =>
    if s.bst ≠ 2 ∨ !d.lwFull then s
    else
      let b := s.engineRead [(bits d.lw.toNat 6 46 * 64, 64)]
      let s1 := s.modDie die fun x => { x with lwFull := false, lwSvc := .clear }
      if b.2 ≠ .clean then s1.countRefused die else s1.judgeWord die (numOf b.1)

/-- The record of a `launch` is judged, once it has been read (R328, R333). -/
def State.judgeReq (s : State) (r : Req) : State :=
  let die := r.elem.tile.die
  let o : Owner := ⟨lrCtx r.blk, lrTag r.blk⟩
  match s.capX die r.blk (some (s.space r.ctxno)) r.svc with
  | .service kind va =>
    let a := s.askService r.asker (s.space o.ctxno) kind va
    a.1.putReq { r with svc := .asked a.2 va r.svc.old }
  | x => (s.settleLaunch die r.blk (s.regionOf r.elem.tile) x).perform { r with svc := .clear }

/-- A `launch` reaches the queue of its die (R333). -/
def State.captureReq (s : State) (r : Req) (va : Nat) : State :=
  let die := r.elem.tile.die
  if r.stage ≠ .sent ∨ r.svc.waits then s
  else if r.started then s.judgeReq r
  else match s.engineX (siteOf r.elem.tile) (s.space r.ctxno) Need.read r.svc va 64 with
    | .service a => s.engineAsk r 0 a
    | .final => (s.countRefused die).perform r
    | .ok segs =>
      let b := s.engineRead segs
      if b.2 ≠ .clean then (s.countRefused die).perform r
      else
        let q := { r with blk := numOf b.1, started := true, svc := .clear }
        (s.putReq q).judgeReq q

/-- `LAUNCH_CAPTURE` (R328, R332, R333): the queue, while it has room, captures a record from the launch word or from a `launch`. -/
def execLaunchCapture (die : Nat) (req : Option Nat) (s : State) : Host.Outcome State Fault Refusal :=
  if 1024 ≤ s.queued die then go s
  else match req with
    | none => go (s.captureWord die)
    | some id => onReq s id fun r =>
        match r.op with
        | .launch va => if r.elem.tile.die = die then s.captureReq r va else s
        | _ => s

/-! ## The I/O agent -/

/-- Fields of an `ioread` descriptor (Table 4.7). -/
def ioChan (n : Nat) : Nat := bits n 0 12
def ioOff (n : Nat) : Nat := bits n 32 64
def ioLen (n : Nat) : Nat := bits n 96 32
def ioDst (n : Nat) : Nat := bits n 128 57
def ioBad (n : Nat) : Bool :=
  bits n 12 20 != 0 || bits n 185 7 != 0 || bits n 225 31 != 0 || ioLen n == 0 || decide (16777216 < ioLen n)

/-- What an `ioread` holds once it is under way: the bytes to deliver are counted in lane 1 of `addr`, lane 2 says whether it reads
a network queue and lane 3 the namespace or queue; `stop` says that the bytes are there. -/
def Req.ioTotal (r : Req) : Nat := r.addr.l1
def Req.ioNet (r : Req) : Bool := r.addr.l2 == 1
def Req.ioTarget (r : Req) : Nat := r.addr.l3

/-- The `ioread` ends with a status and without further bytes. -/
def Req.ioEnd (r : Req) (st : Nat) : Req :=
  { r with started := true, stop := true, st := st, addr := { r.addr with l1 := r.prog }, svc := .clear, picks := [] }

/-- The aligned 32-byte blocks of a destination, each with its place in the range and its length. -/
def ioBlocks (dst len : Nat) : List (Nat × Nat) :=
  (List.range (if len = 0 then 0 else (dst % 32 + len + 31) / 32)).map fun i =>
    let lo := max dst ((dst / 32 + i) * 32)
    (lo - dst, min (dst + len) ((dst / 32 + i + 1) * 32) - lo)

/-- An `ioread` knows the bytes that it delivers: its blocks stand in a free order (R236), and lane 4 of `addr` numbers the free values
of its lines. -/
def State.ioReady (s : State) (r : Req) : State :=
  let dst := ioDst (natOfVec r.data)
  let bs := ioBlocks dst r.ioTotal
  let lines := (dst % 64 + r.ioTotal + 63) / 64
  ({ s with fresh := s.fresh + lines + bs.length }).putReq
    { r with stop := true, addr := { r.addr with l4 := s.fresh }
             picks := freeOrder (fun k => Config.blockPlace (s.fresh + lines + k)) 0 bs }

/-- The physical address of byte `k` of the destination. -/
def Req.ioAddr (r : Req) (k : Nat) : Nat :=
  match r.parts.find? fun p => decide (p.off ≤ k) && decide (k < p.off + p.len) with
  | some p => p.addr + (k - p.off)
  | none => 0

/-- The link of an `ioread` fails (R119, step 5): the bytes delivered are kept, the rest of the range is written poisoned, and it ends with
status 5. -/
def State.ioLost (s : State) (r : Req) : State :=
  (r.picks.foldl (fun z b =>
    let a := r.ioAddr b.1
    if z.linkLost a then z else z.storeBytes a (bytesOf b.2 (Config.lostBytes r.id a)) .link) s).putReq (r.ioEnd 5)

/-- The Thevel link through which the agent serves an `ioread` is lost (R444). -/
def State.ioCut (s : State) (r : Req) : Bool := s.lost.contains (Config.ioPort r.id).toNat

/-- The entry of a channel (Table 23.4), as a die's agent reads it; none where it is unbound. An entry that comes poisoned, or lies behind
a lost link, counts as unbound (log entry 28). -/
def State.channel (s : State) (die c : Nat) : Option Nat :=
  match (s.die die).chanBase with
  | none => none
  | some b =>
    let n := s.peek (b + 8 * c) 8
    if bits n 0 1 = 0 ∨ bits n 17 15 ≠ 0 ∨ s.entryBad (b + 8 * c) then none else some n

/-- What an `ioread` has captured: its channel's entry in lane 5 of `addr`, and in lane 6 its place in the order in which the commands
reach the agent (R119, R445). -/
def Req.ioEntry (r : Req) : Nat := r.addr.l5
def Req.ioPlace (r : Req) : Nat := r.addr.l6

/-- The destination pages of an `ioread` are translated and checked (R119, step 2). -/
def State.ioPages (s : State) (r : Req) : State :=
  let n := natOfVec r.data
  let c := r.ioEntry
  let space := s.space r.ctxno
  match s.engineRange (siteOf r.elem.tile) space Need.write r.svc (ioDst n) (ioLen n) with
  | .service a => s.engineAsk r 3 a
  | .final => s.putReq (r.ioEnd 2)
  | .ok segs =>
    if s.sealHit space (ioDst n) (ioLen n) then s.putReq (r.ioEnd 2)
    else
      let size := (Table.get s.spaces (bits c 32 32) : List Byte).length
      let net := bits c 1 1
      let q := { r with
        started := true, svc := .clear
        parts := (segs.foldl (fun (p : List Part × Nat) g => (p.1 ++ [⟨0, p.2, g.1, g.2⟩], p.2 + g.2)) ([], 0)).1
        pages := [(ioDst n / 0x10000 * 0x10000, ioDst n % 0x10000 + ioLen n)]
        addr := { r.addr with l1 := min (ioLen n) (size - ioOff n), l2 := net, l3 := bits c 32 32 } }
      if net = 0 then s.ioReady q else s.putReq q

/-- The agent captures an `ioread` and checks it (R119, step 1): it reads the channel's entry once (R445). -/
def State.ioBegin (s : State) (r : Req) : State :=
  let n := natOfVec r.data
  if r.ioEntry ≠ 0 then s.ioPages r
  else if ioBad n then s.putReq (r.ioEnd 4)
  else match s.channel r.elem.tile.die (ioChan n) with
    | none => s.putReq (r.ioEnd 3)
    | some c =>
      if bits c 2 1 = 0 ∧ bits c 3 14 ≠ s.space r.ctxno then s.putReq (r.ioEnd 2)
      else
        let q := { r with addr := { r.addr with l5 := c, l6 := s.nextId } }
        ({ s with nextId := s.nextId + 1 }.putReq q).ioPages q

/-- The `ioread` waits for a message of a network queue (R119). -/
def Req.ioWaits (r : Req) (queue : Nat) : Bool :=
  r.op == .ioread && r.stage == .sent && r.ioEntry != 0 && !r.stop && bits r.ioEntry 1 1 == 1 && bits r.ioEntry 32 32 == queue

/-- The first `ioread`, in the order in which they reached the agent, that waits on a network queue takes its next message (R119, R445). -/
def State.ioTake (s : State) (r : Req) : State :=
  let n := ioLen (natOfVec r.data)
  let before := s.reqs.any fun q => q.ioWaits r.ioTarget && decide (q.ioPlace < r.ioPlace)
  match (Table.get s.netq r.ioTarget : List (List Byte)) with
  | [] => s
  | m :: rest =>
    if before then s
    else { s with netq := Table.set s.netq r.ioTarget rest }.ioReady
      { r with blk := numOf (m.take n), addr := { r.addr with l1 := min n m.length } }

/-- The agent writes one block (R119, steps 3 and 4; R236): zero bytes and poison where the channel data of its line carry an error (R413);
a line that the range covers is replaced whole with its last block (R206; log entry 28). -/
def State.ioWrite (s : State) (r : Req) (b : Nat × Nat) (rest : List (Nat × Nat)) : State :=
  let dst := ioDst (natOfVec r.data)
  let a := r.ioAddr b.1
  let line := (dst + b.1) / 64
  let bad := Config.badLine (r.addr.l4 + (line - dst / 64))
  let bs :=
    if bad then List.replicate b.2 0
    else if r.ioNet then bytesOf b.2 (r.blk / 256 ^ b.1)
    else ((Table.get s.spaces r.ioTarget : List Byte).drop (ioOff (natOfVec r.data) + b.1)).take b.2
  let p := if bad then Poison.data else .clean
  let whole := decide (dst ≤ line * 64) && decide (line * 64 + 64 ≤ dst + r.ioTotal) && !rest.any fun x => (dst + x.1) / 64 == line
  let g := granuleOf a
  let s1 := (s.pokeBytes a bs).dropCached a b.2
  (if whole then s1.storeGranule g g (g + 64) p else s1.storeGranule g a a p).putReq
    { r with prog := r.prog + b.2, got := r.got + b.2, st := if bad then max r.st 1 else r.st, picks := rest }

/-- The completion words of an `ioread`: its own and, in a twin pair, that of the other copy (R118, R435). -/
def State.ioWords (s : State) (r : Req) : List Nat :=
  ([r] ++ (r.mate.bind s.req?).toList).filterMap fun q => s.localByte q.elem.tile q.space q.addr.l0

/-- The agent comes to fill the completion word, as an `stf` that waits for the word to be empty, in its place in the order of arrival
(R101; R119, step 6). -/
def State.ioFill (s : State) (r : Req) : State :=
  match s.ioWords r with
  | [] => s.perform r
  | w :: ws => ({ s with nextId := s.nextId + 1 }.putReq
      { r with stage := .waiting s.nextId, parts := (w :: ws).map fun a => ⟨0, 0, a, 4⟩ }).wake w

/-- `IOREAD_COMPLETION` (R119): the I/O agent takes an `ioread` one step further: it checks it, writes its next block, or fills its
completion word. -/
def execIoreadCompletion (req : Nat) (s : State) : Host.Outcome State Fault Refusal :=
  onReq s req fun r =>
    if r.op ≠ .ioread ∨ r.svc.waits then s
    else if r.arrival.isSome then (match r.parts with
      | p :: _ => s.wake p.addr
      | [] => s)
    else if r.stage ≠ .sent then s
    else if !r.started then s.ioBegin r
    else if !r.stop then (if s.ioCut r then s.putReq (r.ioEnd 5) else s.ioTake r)
    else match r.picks with
      | b :: rest =>
        if s.ioCut r || s.linkLost (r.ioAddr b.1) then s.ioLost r
        else if s.heldRuns [(r.ioAddr b.1, b.2)] then s
        else s.ioWrite r b rest
      | [] => s.ioFill r

/-- `IO_MESSAGE_AVAILABLE` (R119, R445): a message arrives on a network receive queue; the first `ioread` that waits takes it. -/
def execIoMessageAvailable (queue : Nat) (msg : List Byte) (s : State) : Host.Outcome State Fault Refusal :=
  let s1 := { s with netq := Table.modify s.netq queue fun l => l ++ [msg] }
  go ((s1.reqs.filter fun r => r.ioWaits queue && r.started).foldl (fun z r => if z.ioCut r then z else z.ioTake r) s1)

/-! ## Links -/

/-- A part goes through a port. -/
def State.through (s : State) (port : Nat) (p : Part) : Bool := portOf p.addr == some port

/-- The parts of a load or an atomic that were on their way through a port and that their homes can serve return poisoned (R212). -/
def State.failParts (s : State) (id port fuel : Nat) : State :=
  match fuel with
  | 0 => s
  | k + 1 =>
    match s.req? id with
    | none => s
    | some r =>
      match r.parts.zipIdx.find? fun x => s.through port x.1 && s.served r x.1 x.2 with
      | none => s
      | some x => (s.serve r x.1).failParts id port k

/-- An access in flight behind a lost link fails (R212); a store parks, once the park list has room, and one of which a part is
performed has crossed the link before the loss, since a parked access has performed nothing (R220; log entry 27). -/
def State.failAccess (s : State) (port : Nat) (r : Req) : State :=
  if r.isHome && r.space == Space.g && (r.stage == .atHome || r.arrival.isSome) && r.parts.any (s.through port) then
    if r.lostStops then
      if r.started then s
      else if s.parkRoom r.elem.tile then s.parkFinal r 0x0C (((r.parts.find? (s.through port)).map r.partVa).getD r.addr.l0) 0 else s
    else s.failParts r.id port r.parts.length
  else s

/-- An `ioread` that the agent serves through a lost port ends with status 5 (R119, R444). -/
def State.failIo (s : State) (port : Nat) (r : Req) : State :=
  if r.op = .ioread ∧ r.stage = .sent ∧ r.started ∧ (Config.ioPort r.id).toNat = port ∧ (!r.stop ∨ !r.picks.isEmpty) then s.ioLost r
  else s

/-- A stream that runs or a copy that has captured its block is under way. -/
def State.underWay (s : State) (r : Req) : Bool :=
  match r.op with
  | .stream p => (s.port r.elem.tile p).running == some r.id
  | .copy => r.started
  | _ => false

/-- A command under way keeps a lost peer link as lost, whether or not a part of it has arrived (R395). -/
def State.loseLink (s : State) (port : Nat) (r : Req) : Req :=
  if 16 ≤ port ∧ s.underWay r then { r with lostPorts := r.lostPorts ++ [port] } else r

/-- `LINK_LOST` (R212, R444): the port's die notes it, and what goes through the port fails. -/
def execLinkLost (port : Nat) (s : State) : Host.Outcome State Fault Refusal :=
  if s.lost.contains port then go s
  else
    let s1 := { s with lost := s.lost ++ [port] }.notify (dieOfPort port) 3
    let s2 := s1.reqs.foldl (fun z r => z.failAccess port r) s1
    let s3 := s2.reqs.foldl (fun z r => z.failIo port r) s2
    go { s3 with reqs := s3.reqs.map (s3.loseLink port) }

end Sys2Proof.Machine
end

