-- ==== Sys2Proof/Machine/Vector.lean ====
section
/-!
DEFINITION. Vector, conversion and special-function instructions, majors 0x10 to 0x1F (R168 to R188).
-/

namespace Sys2Proof.Machine

/-! ## Lane operations -/

/-- A sum of two f32 lanes, the second negated on demand, rounded once (R173). -/
def faddLane (f : Fmt) (m : Rm) (minus : Bool) (x y : Nat) : Nat × Flags :=
  let vy := f.value y
  roundWith f m (sumX m [f.value x, if minus then vy.negate else vy])

/-- A product rounded once (R173). -/
def fmulLane (f : Fmt) (m : Rm) (x y : Nat) : Nat × Flags := roundWith f m (mulX (f.value x) (f.value y))

/-- A quotient rounded once (R173). -/
def fdivLane (f : Fmt) (m : Rm) (x y : Nat) : Nat × Flags := roundWith f m (divX (f.value x) (f.value y))

/-- A root rounded once (R173). -/
def fsqrtLane (f : Fmt) (m : Rm) (x : Nat) : Nat × Flags := roundWith f m (sqrtX (f.value x))

/-- ±(x × y) ± z, rounded once (R172, R173): 0 × ∞ raises nv even where z is a NaN. -/
def ffmaLane (f : Fmt) (m : Rm) (negProd negAdd : Bool) (x y z : Nat) : Nat × Flags :=
  let p := mulX (f.value x) (f.value y)
  let vz := f.value z
  let r := sumX m [if negProd then p.1.negate else p.1, if negAdd then vz.negate else vz]
  roundWith f m (r.1, r.2 ||| p.2)

/-- An operation on each 16-bit element of two operands (R172). -/
def half2 (op : Nat → Nat → Nat × Flags) (x y : Word) : Word × Flags :=
  packHalves (op (half x 0) (half y 0)) (op (half x 1) (half y 1))

/-- The same with three operands. -/
def half3 (op : Nat → Nat → Nat → Nat × Flags) (x y z : Word) : Word × Flags :=
  packHalves (op (half x 0) (half y 0) (half z 0)) (op (half x 1) (half y 1) (half z 1))

/-- A result that raises no flag. -/
def quiet (w : Word) : Word × Flags := (w, 0)

/-- `fsgn` on a lane with the sign bits of `mask` (R174). -/
def signFrom (mask x y : Word) : Word := (x &&& ~~~mask) ||| (y &&& mask)

/-- A dot product with the addend, summed exactly and rounded once (R175). -/
def dotLane (f : Fmt) (m : Rm) (xs ys : List Nat) (z : Word) : Word × Flags :=
  let ps := (xs.zip ys).map fun p => mulX (f.value p.1) (f.value p.2)
  let anyNan := xs.any f.isNan || ys.any f.isNan || (f32Of z).isNan
  let bad := ps.any fun p => p.2 != 0
  let r := sumX m (ps.map (·.1) ++ [f32Of z])
  let fl := if anyNan then 0 else if bad then Flags.nv else r.2
  toLane (roundWith Fmt.f32 m (r.1, fl))

/-- The 16-bit elements of a lane. -/
def halves (w : Word) : List Nat := [half w 0, half w 1]

/-- The bytes of a lane. -/
def bytes4 (w : Word) : List Nat := [byteAt w 0, byteAt w 1, byteAt w 2, byteAt w 3]

/-- An integer dot product of bytes (R175). -/
def idotLane (ext : Nat → Word) (x y z : Word) : Word :=
  ((bytes4 x).zip (bytes4 y)).foldl (fun a p => a + ext p.1 * ext p.2) z

/-- A float comparison: what it answers on an order, and on a NaN (R176). -/
def fcmpLane (ok : Int → Bool) (onNan : Bool) (x y : Word) : Bool :=
  match fcmp x y with
  | some o => ok o
  | none => onNan

/-- The class mask (Table 8.5). -/
def classMask (f : Fmt) (x : Nat) : Nat := 2 ^ f.classOf x

/-- A widening conversion of element `j` (R178): exact, without a flag. -/
def widen (f : Fmt) (j : Nat) (x : Word) : Word := wordOf (roundTo Fmt.f32 (f.value (half x j)) 0).1

/-- A conversion between formats, rounded once (R178). -/
def convert (fs fd : Fmt) (m : Rm) (x : Nat) : Nat × Flags := roundTo fd (fs.value x) m

/-- A stochastic conversion of a pair of lanes into two elements of `w` bits (R180). -/
def stochPair (f : Fmt) (w : Nat) (x y r : Word) : Word × Flags :=
  let p := roundStoch f (f32Of x) (half r 0)
  let q := roundStoch f (f32Of y) (half r 1)
  (wordOf (p.1 + q.1 * 2 ^ w), p.2 ||| q.2)

/-- A fire of major 0x1A (R180): both registers of the pair are sources. A fire that is a purity violation (R410) and would raise an
enabled flag besides (R164) takes the violation: the spec gives no order (DESIGN CHOICE, log entry 47). -/
def stochFire (s : State) (t : BitVec 6) (d a b : BitVec 5) (f : Fmt) (w : Nat) : Host.Outcome State Fault Refusal :=
  let fr := fireOf s t
  let lanes : Lanes (Word × Flags) := Lanes.ofFn fun i =>
    stochPair f w ((fr.src a).val.get i) ((fr.regSrc (a.toNat + 1)).val.get i) ((fr.src b).val.get i)
  let fl := guardedFlags fr.g lanes
  -- a pure task without a seed argument converts stochastically only as a violation (Table 20.3)
  let own := if fr.reg.pure && fr.reg.nsc == 0 && !fr.waived 0x08 then some { cause := 0x08 } else arithTrap s fr fl
  fire s fr [a, b] [fr.src a, fr.regSrc (a.toNat + 1), fr.src b] own (popsOf [b])
    (fun x => fr.raise fl (fr.writeDest fr.g d (laneVals lanes) x)) id id

/-- The element formats of MX, by number (R181), with the exponent of the largest finite value. -/
def mxEmax (f : Nat) : Int := match f with
  | 0 => 8
  | 1 => 15
  | 2 => 4
  | _ => 2

/-- The element formats of MX, by number (R181); e5m2 saturates here (R182). -/
def mxFmt (f : Nat) : Fmt := match f with
  | 0 => Fmt.e4m3
  | 1 => Fmt.e5m2sat
  | 2 => Fmt.e3m2
  | 3 => Fmt.e2m3
  | _ => Fmt.e2m1

/-- The format of an encoded MX element as it is read (R151). -/
def mxReadFmt (f : Nat) : Fmt := if f = 1 then Fmt.e5m2 else mxFmt f

/-- `mxsc` (R182). -/
def mxScale (f : Nat) (x : Word) : Word :=
  match f32Of x with
  | .nan | .inf _ => 0xFF
  | .fin _ m e _ =>
    if m == 0 then 0
    else
      let r : Int := (Nat.log2 m : Int) + e - mxEmax f + 127
      wordOf (if r < 0 then 0 else if 254 < r then 254 else r.toNat)

/-- The bit offset and width of the element that a placement word names (R181). -/
def mxPlace (f : Nat) (b : Word) : Nat × Nat :=
  if f = 4 then (4 * bits b.toNat 8 3, 4) else (8 * bits b.toNat 8 2, 8)

/-- The bits of an element that carry its value: six in a container (R156). -/
def mxBits (f : Nat) : Nat := if f = 4 then 4 else if f = 2 ∨ f = 3 then 6 else 8

/-- `mxdq` (R182). -/
def mxDequant (f : Nat) (a b : Word) : Word × Flags :=
  let x := b.toNat % 256
  let v := (mxReadFmt f).value (bits a.toNat (mxPlace f b).1 (mxBits f))
  toLane (roundTo Fmt.f32 (if x = 255 then .nan else v.scale ((x : Int) - 127)) 0)

/-- `mxq` (R182). -/
def mxQuant (f : Nat) (m : Rm) (a b d : Word) : Word × Flags :=
  let x := b.toNat % 256
  let r := roundTo (mxFmt f) (if x = 255 then .nan else (f32Of a).scale (127 - (x : Int))) m
  let p := mxPlace f b
  (wordOf (setBits d.toNat p.1 p.2 r.1), r.2)

/-- A node of a reduction tree (R166): an absent child passes the other unchanged. -/
def node {α : Type} (op : α → α → α) (x y : Option α) : Option α :=
  match x, y with
  | some u, some v => some (op u v)
  | some u, none => some u
  | none, z => z

/-- The tree of R166 over the present lanes. -/
def tree8 {α : Type} (op : α → α → α) (v : Lanes (Option α)) : Option α :=
  node op (node op (node op v.l0 v.l1) (node op v.l2 v.l3)) (node op (node op v.l4 v.l5) (node op v.l6 v.l7))

/-- The present lanes of an operand (R184). -/
def present (g : Mask) (v : Vec) : Lanes (Option Word) := Lanes.ofFn fun i => if g.get i then some (v.get i) else none

/-- A result that is a NaN is the canonical NaN (R153), also where a single present lane passed up the tree unchanged (log entry 42). -/
def canonLane (w : Word) : Word := if (f32Of w).isNan then 0x7FC00000 else w

/-- A float reduction without a flag (R185). -/
def freduce (op : Nat → Nat → Nat) (g : Mask) (v : Vec) : Word :=
  canonLane ((tree8 (fun x y : Word => wordOf (op x.toNat y.toNat)) (present g v)).getD 0)

/-- |x| of a lane for `frmaxa` (R185). -/
def absLane (x : Word) : Word := x &&& 0x7FFFFFFF

/-- `fradd` (R185): each node rounds once, and the flags are those of every node. -/
def freduceAdd (m : Rm) (g : Mask) (v : Vec) : Word × Flags :=
  let r := (tree8 (fun (x y : Word × Flags) =>
      let r := faddLane Fmt.f32 m false x.1.toNat y.1.toNat
      (wordOf r.1, r.2 ||| x.2 ||| y.2))
    (Lanes.ofFn fun i => if g.get i then some (v.get i, (0 : Flags)) else none)).getD (0, 0)
  (canonLane r.1, r.2)

/-- The present lanes of an operand as a list. -/
def presentList (g : Mask) (v : Vec) : List Word := (laneIdx.filter fun i => g.get i).map fun i => v.get i

/-- A fold over the present lanes, from the first. -/
def ireduce (op : Word → Word → Word) (l : List Word) : Word :=
  match l with
  | [] => 0
  | w :: r => r.foldl op w

/-- `fgetexp` (R187). -/
def getExp (x : Word) : Word :=
  match f32Of x with
  | .nan | .inf _ => 0x7FFFFFFF
  | .fin _ m e _ => if m == 0 then 0x80000000 else BitVec.ofInt 32 ((Nat.log2 m : Int) + e)

/-- `fmant` (R187). -/
def mantissa (x : Word) : Word :=
  match f32Of x with
  | .nan => 0x7FC00000
  | .inf _ => x
  | .fin g m _ _ => if m == 0 then x else wordOf (roundTo Fmt.f32 (.dy g m (-(Nat.log2 m : Int))) 0).1

/-- `fscl` (R187). -/
def scaleLane (m : Rm) (x n : Word) : Word × Flags :=
  match f32Of x with
  | .nan => (0x7FC00000, 0)
  | .inf _ => (x, 0)
  | .fin g u e _ => if u == 0 then (x, 0) else toLane (roundTo Fmt.f32 (.dy g u (e + n.toInt)) m)

/-! ## The instructions -/

/-- `FADD_F32` (R172). -/
def execFaddF32 (t : BitVec 6) (d : BitVec 5) (a : BitVec 5) (b : BitVec 5) (r : BitVec 2) (s : State) : Host.Outcome State Fault Refusal :=
  float2 s t d a b fun x y => toLane (faddLane Fmt.f32 r false x.toNat y.toNat)

/-- `FSUB_F32` (R172). -/
def execFsubF32 (t : BitVec 6) (d : BitVec 5) (a : BitVec 5) (b : BitVec 5) (r : BitVec 2) (s : State) : Host.Outcome State Fault Refusal :=
  float2 s t d a b fun x y => toLane (faddLane Fmt.f32 r true x.toNat y.toNat)

/-- `FMUL_F32` (R172). -/
def execFmulF32 (t : BitVec 6) (d : BitVec 5) (a : BitVec 5) (b : BitVec 5) (r : BitVec 2) (s : State) : Host.Outcome State Fault Refusal :=
  float2 s t d a b fun x y => toLane (fmulLane Fmt.f32 r x.toNat y.toNat)

/-- `FDIV_F32` (R172). -/
def execFdivF32 (t : BitVec 6) (d : BitVec 5) (a : BitVec 5) (b : BitVec 5) (r : BitVec 2) (s : State) : Host.Outcome State Fault Refusal :=
  float2 s t d a b fun x y => toLane (fdivLane Fmt.f32 r x.toNat y.toNat)

/-- `FSQRT_F32` (R172). -/
def execFsqrtF32 (t : BitVec 6) (d : BitVec 5) (a : BitVec 5) (r : BitVec 2) (s : State) : Host.Outcome State Fault Refusal :=
  float1 s t d a fun x => toLane (fsqrtLane Fmt.f32 r x.toNat)

/-- `FFMA_F32` (R172). -/
def execFfmaF32 (t : BitVec 6) (d : BitVec 5) (a : BitVec 5) (b : BitVec 5) (r : BitVec 2) (s : State) : Host.Outcome State Fault Refusal :=
  float3 s t d a b fun x y z => toLane (ffmaLane Fmt.f32 r false false x.toNat y.toNat z.toNat)

/-- `FFMS_F32` (R172). -/
def execFfmsF32 (t : BitVec 6) (d : BitVec 5) (a : BitVec 5) (b : BitVec 5) (r : BitVec 2) (s : State) : Host.Outcome State Fault Refusal :=
  float3 s t d a b fun x y z => toLane (ffmaLane Fmt.f32 r false true x.toNat y.toNat z.toNat)

/-- `FFNMA_F32` (R172). -/
def execFfnmaF32 (t : BitVec 6) (d : BitVec 5) (a : BitVec 5) (b : BitVec 5) (r : BitVec 2) (s : State) : Host.Outcome State Fault Refusal :=
  float3 s t d a b fun x y z => toLane (ffmaLane Fmt.f32 r true false x.toNat y.toNat z.toNat)

/-- `FFNMS_F32` (R172). -/
def execFfnmsF32 (t : BitVec 6) (d : BitVec 5) (a : BitVec 5) (b : BitVec 5) (r : BitVec 2) (s : State) : Host.Outcome State Fault Refusal :=
  float3 s t d a b fun x y z => toLane (ffmaLane Fmt.f32 r true true x.toNat y.toNat z.toNat)

/-- `FMIN_F32` (R174). -/
def execFminF32 (t : BitVec 6) (d : BitVec 5) (a : BitVec 5) (b : BitVec 5) (s : State) : Host.Outcome State Fault Refusal :=
  float2 s t d a b fun x y => quiet (wordOf (fminmax Fmt.f32 false x.toNat y.toNat))

/-- `FMAX_F32` (R174). -/
def execFmaxF32 (t : BitVec 6) (d : BitVec 5) (a : BitVec 5) (b : BitVec 5) (s : State) : Host.Outcome State Fault Refusal :=
  float2 s t d a b fun x y => quiet (wordOf (fminmax Fmt.f32 true x.toNat y.toNat))

/-- `FABS_F32` (R174). -/
def execFabsF32 (t : BitVec 6) (d : BitVec 5) (a : BitVec 5) (s : State) : Host.Outcome State Fault Refusal :=
  float1 s t d a fun x => quiet (x &&& 0x7FFFFFFF)

/-- `FNEG_F32` (R174). -/
def execFnegF32 (t : BitVec 6) (d : BitVec 5) (a : BitVec 5) (s : State) : Host.Outcome State Fault Refusal :=
  float1 s t d a fun x => quiet (x ^^^ 0x80000000)

/-- `FSGN_F32` (R174). -/
def execFsgnF32 (t : BitVec 6) (d : BitVec 5) (a : BitVec 5) (b : BitVec 5) (s : State) : Host.Outcome State Fault Refusal :=
  float2 s t d a b fun x y => quiet (signFrom 0x80000000 x y)

/-- `FMIN_BF16X2` (R174). -/
def execFminBf16x2 (t : BitVec 6) (d : BitVec 5) (a : BitVec 5) (b : BitVec 5) (s : State) : Host.Outcome State Fault Refusal :=
  float2 s t d a b (half2 fun x y => (fminmax Fmt.bf16 false x y, 0))

/-- `FMAX_BF16X2` (R174). -/
def execFmaxBf16x2 (t : BitVec 6) (d : BitVec 5) (a : BitVec 5) (b : BitVec 5) (s : State) : Host.Outcome State Fault Refusal :=
  float2 s t d a b (half2 fun x y => (fminmax Fmt.bf16 true x y, 0))

/-- `FABS_BF16X2` (R174). -/
def execFabsBf16x2 (t : BitVec 6) (d : BitVec 5) (a : BitVec 5) (s : State) : Host.Outcome State Fault Refusal :=
  float1 s t d a fun x => quiet (x &&& 0x7FFF7FFF)

/-- `FNEG_BF16X2` (R174). -/
def execFnegBf16x2 (t : BitVec 6) (d : BitVec 5) (a : BitVec 5) (s : State) : Host.Outcome State Fault Refusal :=
  float1 s t d a fun x => quiet (x ^^^ 0x80008000)

/-- `FSGN_BF16X2` (R174). -/
def execFsgnBf16x2 (t : BitVec 6) (d : BitVec 5) (a : BitVec 5) (b : BitVec 5) (s : State) : Host.Outcome State Fault Refusal :=
  float2 s t d a b fun x y => quiet (signFrom 0x80008000 x y)

/-- `FADD_BF16X2` (R172). -/
def execFaddBf16x2 (t : BitVec 6) (d : BitVec 5) (a : BitVec 5) (b : BitVec 5) (r : BitVec 2) (s : State) : Host.Outcome State Fault Refusal :=
  float2 s t d a b (half2 (faddLane Fmt.bf16 r false))

/-- `FSUB_BF16X2` (R172). -/
def execFsubBf16x2 (t : BitVec 6) (d : BitVec 5) (a : BitVec 5) (b : BitVec 5) (r : BitVec 2) (s : State) : Host.Outcome State Fault Refusal :=
  float2 s t d a b (half2 (faddLane Fmt.bf16 r true))

/-- `FMUL_BF16X2` (R172). -/
def execFmulBf16x2 (t : BitVec 6) (d : BitVec 5) (a : BitVec 5) (b : BitVec 5) (r : BitVec 2) (s : State) : Host.Outcome State Fault Refusal :=
  float2 s t d a b (half2 (fmulLane Fmt.bf16 r))

/-- `FFMA_BF16X2` (R172). -/
def execFfmaBf16x2 (t : BitVec 6) (d : BitVec 5) (a : BitVec 5) (b : BitVec 5) (r : BitVec 2) (s : State) : Host.Outcome State Fault Refusal :=
  float3 s t d a b (half3 (ffmaLane Fmt.bf16 r false false))

/-- `FDOT2_BF16` (R175). -/
def execFdot2Bf16 (t : BitVec 6) (d : BitVec 5) (a : BitVec 5) (b : BitVec 5) (r : BitVec 2) (s : State) : Host.Outcome State Fault Refusal :=
  float3 s t d a b fun x y z => dotLane Fmt.bf16 r (halves x) (halves y) z

/-- `FMIN_F16X2` (R174). -/
def execFminF16x2 (t : BitVec 6) (d : BitVec 5) (a : BitVec 5) (b : BitVec 5) (s : State) : Host.Outcome State Fault Refusal :=
  float2 s t d a b (half2 fun x y => (fminmax Fmt.f16 false x y, 0))

/-- `FMAX_F16X2` (R174). -/
def execFmaxF16x2 (t : BitVec 6) (d : BitVec 5) (a : BitVec 5) (b : BitVec 5) (s : State) : Host.Outcome State Fault Refusal :=
  float2 s t d a b (half2 fun x y => (fminmax Fmt.f16 true x y, 0))

/-- `FABS_F16X2` (R174). -/
def execFabsF16x2 (t : BitVec 6) (d : BitVec 5) (a : BitVec 5) (s : State) : Host.Outcome State Fault Refusal :=
  float1 s t d a fun x => quiet (x &&& 0x7FFF7FFF)

/-- `FNEG_F16X2` (R174). -/
def execFnegF16x2 (t : BitVec 6) (d : BitVec 5) (a : BitVec 5) (s : State) : Host.Outcome State Fault Refusal :=
  float1 s t d a fun x => quiet (x ^^^ 0x80008000)

/-- `FSGN_F16X2` (R174). -/
def execFsgnF16x2 (t : BitVec 6) (d : BitVec 5) (a : BitVec 5) (b : BitVec 5) (s : State) : Host.Outcome State Fault Refusal :=
  float2 s t d a b fun x y => quiet (signFrom 0x80008000 x y)

/-- `FADD_F16X2` (R172). -/
def execFaddF16x2 (t : BitVec 6) (d : BitVec 5) (a : BitVec 5) (b : BitVec 5) (r : BitVec 2) (s : State) : Host.Outcome State Fault Refusal :=
  float2 s t d a b (half2 (faddLane Fmt.f16 r false))

/-- `FSUB_F16X2` (R172). -/
def execFsubF16x2 (t : BitVec 6) (d : BitVec 5) (a : BitVec 5) (b : BitVec 5) (r : BitVec 2) (s : State) : Host.Outcome State Fault Refusal :=
  float2 s t d a b (half2 (faddLane Fmt.f16 r true))

/-- `FMUL_F16X2` (R172). -/
def execFmulF16x2 (t : BitVec 6) (d : BitVec 5) (a : BitVec 5) (b : BitVec 5) (r : BitVec 2) (s : State) : Host.Outcome State Fault Refusal :=
  float2 s t d a b (half2 (fmulLane Fmt.f16 r))

/-- `FFMA_F16X2` (R172). -/
def execFfmaF16x2 (t : BitVec 6) (d : BitVec 5) (a : BitVec 5) (b : BitVec 5) (r : BitVec 2) (s : State) : Host.Outcome State Fault Refusal :=
  float3 s t d a b (half3 (ffmaLane Fmt.f16 r false false))

/-- `FDOT2_F16` (R175). -/
def execFdot2F16 (t : BitVec 6) (d : BitVec 5) (a : BitVec 5) (b : BitVec 5) (r : BitVec 2) (s : State) : Host.Outcome State Fault Refusal :=
  float3 s t d a b fun x y z => dotLane Fmt.f16 r (halves x) (halves y) z

/-- `FDOT4_E4M3` (R175). -/
def execFdot4E4m3 (t : BitVec 6) (d : BitVec 5) (a : BitVec 5) (b : BitVec 5) (r : BitVec 2) (s : State) : Host.Outcome State Fault Refusal :=
  float3 s t d a b fun x y z => dotLane Fmt.e4m3 r (bytes4 x) (bytes4 y) z

/-- `FDOT4_E5M2` (R175). -/
def execFdot4E5m2 (t : BitVec 6) (d : BitVec 5) (a : BitVec 5) (b : BitVec 5) (r : BitVec 2) (s : State) : Host.Outcome State Fault Refusal :=
  float3 s t d a b fun x y z => dotLane Fmt.e5m2 r (bytes4 x) (bytes4 y) z

/-- `IDOT4_S8` (R175). -/
def execIdot4S8 (t : BitVec 6) (d : BitVec 5) (a : BitVec 5) (b : BitVec 5) (s : State) : Host.Outcome State Fault Refusal :=
  float3 s t d a b fun x y z => quiet (idotLane (fun n => signExt n 8) x y z)

/-- `IDOT4_N8` (R175). -/
def execIdot4N8 (t : BitVec 6) (d : BitVec 5) (a : BitVec 5) (b : BitVec 5) (s : State) : Host.Outcome State Fault Refusal :=
  float3 s t d a b fun x y z => quiet (idotLane wordOf x y z)

/-- `FCEQ_F32` (R176). -/
def execFceqF32 (t : BitVec 6) (d : BitVec 5) (a : BitVec 5) (b : BitVec 5) (s : State) : Host.Outcome State Fault Refusal :=
  compare2 s t d a b (fcmpLane (fun o => o == 0) false)

/-- `FCNE_F32` (R176). -/
def execFcneF32 (t : BitVec 6) (d : BitVec 5) (a : BitVec 5) (b : BitVec 5) (s : State) : Host.Outcome State Fault Refusal :=
  compare2 s t d a b (fcmpLane (fun o => o != 0) true)

/-- `FCLT_F32` (R176). -/
def execFcltF32 (t : BitVec 6) (d : BitVec 5) (a : BitVec 5) (b : BitVec 5) (s : State) : Host.Outcome State Fault Refusal :=
  compare2 s t d a b (fcmpLane (fun o => o == -1) false)

/-- `FCLE_F32` (R176). -/
def execFcleF32 (t : BitVec 6) (d : BitVec 5) (a : BitVec 5) (b : BitVec 5) (s : State) : Host.Outcome State Fault Refusal :=
  compare2 s t d a b (fcmpLane (fun o => o != 1) false)

/-- `FCGT_F32` (R176). -/
def execFcgtF32 (t : BitVec 6) (d : BitVec 5) (a : BitVec 5) (b : BitVec 5) (s : State) : Host.Outcome State Fault Refusal :=
  compare2 s t d a b (fcmpLane (fun o => o == 1) false)

/-- `FCGE_F32` (R176). -/
def execFcgeF32 (t : BitVec 6) (d : BitVec 5) (a : BitVec 5) (b : BitVec 5) (s : State) : Host.Outcome State Fault Refusal :=
  compare2 s t d a b (fcmpLane (fun o => o != -1) false)

/-- `FCUN_F32` (R176). -/
def execFcunF32 (t : BitVec 6) (d : BitVec 5) (a : BitVec 5) (b : BitVec 5) (s : State) : Host.Outcome State Fault Refusal :=
  compare2 s t d a b (fcmpLane (fun _ => false) true)

/-- `FCLASS_F32` (R177). -/
def execFclassF32 (t : BitVec 6) (d : BitVec 5) (a : BitVec 5) (s : State) : Host.Outcome State Fault Refusal :=
  float1 s t d a fun x => quiet (wordOf (classMask Fmt.f32 x.toNat))

/-- `FCLASS_BF16X2` (R177). -/
def execFclassBf16x2 (t : BitVec 6) (d : BitVec 5) (a : BitVec 5) (s : State) : Host.Outcome State Fault Refusal :=
  float1 s t d a fun x => packHalves (classMask Fmt.bf16 (half x 0), 0) (classMask Fmt.bf16 (half x 1), 0)

/-- `FCLASS_F16X2` (R177). -/
def execFclassF16x2 (t : BitVec 6) (d : BitVec 5) (a : BitVec 5) (s : State) : Host.Outcome State Fault Refusal :=
  float1 s t d a fun x => packHalves (classMask Fmt.f16 (half x 0), 0) (classMask Fmt.f16 (half x 1), 0)

/-- `FTEST_F32` (R177). -/
def execFtestF32 (t : BitVec 6) (d : BitVec 5) (a : BitVec 5) (b : BitVec 5) (s : State) : Host.Outcome State Fault Refusal :=
  compare2 s t d a b fun x y => (wordOf (classMask Fmt.f32 x.toNat) &&& y &&& 0x1FF) != 0

/-- `CVT_F32_BF16` (R178). -/
def execCvtF32Bf16 (t : BitVec 6) (d : BitVec 5) (a : BitVec 5) (b : BitVec 5) (s : State) : Host.Outcome State Fault Refusal :=
  float1 s t d a fun x => quiet (widen Fmt.bf16 b.toNat x)

/-- `CVT_F32_F16` (R178). -/
def execCvtF32F16 (t : BitVec 6) (d : BitVec 5) (a : BitVec 5) (b : BitVec 5) (s : State) : Host.Outcome State Fault Refusal :=
  float1 s t d a fun x => quiet (widen Fmt.f16 b.toNat x)

/-- `CVT_BF16X2_F32` (R178). -/
def execCvtBf16x2F32 (t : BitVec 6) (d : BitVec 5) (a : BitVec 5) (b : BitVec 5) (r : BitVec 2) (s : State) : Host.Outcome State Fault Refusal :=
  float2 s t d a b fun x y => packHalves (convert Fmt.f32 Fmt.bf16 r x.toNat) (convert Fmt.f32 Fmt.bf16 r y.toNat)

/-- `CVT_F16X2_F32` (R178). -/
def execCvtF16x2F32 (t : BitVec 6) (d : BitVec 5) (a : BitVec 5) (b : BitVec 5) (r : BitVec 2) (s : State) : Host.Outcome State Fault Refusal :=
  float2 s t d a b fun x y => packHalves (convert Fmt.f32 Fmt.f16 r x.toNat) (convert Fmt.f32 Fmt.f16 r y.toNat)

/-- `CVT_BF16X2_F16X2` (R178). -/
def execCvtBf16x2F16x2 (t : BitVec 6) (d : BitVec 5) (a : BitVec 5) (r : BitVec 2) (s : State) : Host.Outcome State Fault Refusal :=
  float1 s t d a fun x => packHalves (convert Fmt.f16 Fmt.bf16 r (half x 0)) (convert Fmt.f16 Fmt.bf16 r (half x 1))

/-- `CVT_F16X2_BF16X2` (R178). -/
def execCvtF16x2Bf16x2 (t : BitVec 6) (d : BitVec 5) (a : BitVec 5) (r : BitVec 2) (s : State) : Host.Outcome State Fault Refusal :=
  float1 s t d a fun x => packHalves (convert Fmt.bf16 Fmt.f16 r (half x 0)) (convert Fmt.bf16 Fmt.f16 r (half x 1))

/-- `CVT_S32_F32` (R179). -/
def execCvtS32F32 (t : BitVec 6) (d : BitVec 5) (a : BitVec 5) (r : BitVec 2) (s : State) : Host.Outcome State Fault Refusal :=
  float1 s t d a fun x => let v := toInt (-2147483648) 2147483647 (f32Of x) r; (BitVec.ofInt 32 v.1, v.2)

/-- `CVT_N32_F32` (R179). -/
def execCvtN32F32 (t : BitVec 6) (d : BitVec 5) (a : BitVec 5) (r : BitVec 2) (s : State) : Host.Outcome State Fault Refusal :=
  float1 s t d a fun x => let v := toInt 0 4294967295 (f32Of x) r; (BitVec.ofInt 32 v.1, v.2)

/-- `CVT_F32_S32` (R179). -/
def execCvtF32S32 (t : BitVec 6) (d : BitVec 5) (a : BitVec 5) (r : BitVec 2) (s : State) : Host.Outcome State Fault Refusal :=
  float1 s t d a fun x => toLane (roundTo Fmt.f32 (.dy x.msb x.toInt.natAbs 0) r)

/-- `CVT_F32_N32` (R179). -/
def execCvtF32N32 (t : BitVec 6) (d : BitVec 5) (a : BitVec 5) (r : BitVec 2) (s : State) : Host.Outcome State Fault Refusal :=
  float1 s t d a fun x => toLane (roundTo Fmt.f32 (.dy false x.toNat 0) r)

/-- `CVT_STOCH_BF16X2_F32` (R180). -/
def execCvtStochBf16x2F32 (t : BitVec 6) (d : BitVec 5) (a : BitVec 5) (b : BitVec 5) (s : State) : Host.Outcome State Fault Refusal :=
  stochFire s t d a b Fmt.bf16 16

/-- `CVT_STOCH_F16X2_F32` (R180). -/
def execCvtStochF16x2F32 (t : BitVec 6) (d : BitVec 5) (a : BitVec 5) (b : BitVec 5) (s : State) : Host.Outcome State Fault Refusal :=
  stochFire s t d a b Fmt.f16 16

/-- `CVT_STOCH_E4M3X2_F32` (R180). -/
def execCvtStochE4m3x2F32 (t : BitVec 6) (d : BitVec 5) (a : BitVec 5) (b : BitVec 5) (s : State) : Host.Outcome State Fault Refusal :=
  stochFire s t d a b Fmt.e4m3 8

/-- `CVT_STOCH_E5M2X2_F32` (R180). -/
def execCvtStochE5m2x2F32 (t : BitVec 6) (d : BitVec 5) (a : BitVec 5) (b : BitVec 5) (s : State) : Host.Outcome State Fault Refusal :=
  stochFire s t d a b Fmt.e5m2 8

/-- `MXSC_E4M3` (R182). -/
def execMxscE4m3 (t : BitVec 6) (d : BitVec 5) (a : BitVec 5) (s : State) : Host.Outcome State Fault Refusal :=
  float1 s t d a fun x => quiet (mxScale 0 x)

/-- `MXDQ_E4M3` (R182). -/
def execMxdqE4m3 (t : BitVec 6) (d : BitVec 5) (a : BitVec 5) (b : BitVec 5) (s : State) : Host.Outcome State Fault Refusal :=
  float2 s t d a b (mxDequant 0)

/-- `MXQ_E4M3` (R182). -/
def execMxqE4m3 (t : BitVec 6) (d : BitVec 5) (a : BitVec 5) (b : BitVec 5) (r : BitVec 2) (s : State) : Host.Outcome State Fault Refusal :=
  float3 s t d a b (mxQuant 0 r)

/-- `MXSC_E5M2` (R182). -/
def execMxscE5m2 (t : BitVec 6) (d : BitVec 5) (a : BitVec 5) (s : State) : Host.Outcome State Fault Refusal :=
  float1 s t d a fun x => quiet (mxScale 1 x)

/-- `MXDQ_E5M2` (R182). -/
def execMxdqE5m2 (t : BitVec 6) (d : BitVec 5) (a : BitVec 5) (b : BitVec 5) (s : State) : Host.Outcome State Fault Refusal :=
  float2 s t d a b (mxDequant 1)

/-- `MXQ_E5M2` (R182). -/
def execMxqE5m2 (t : BitVec 6) (d : BitVec 5) (a : BitVec 5) (b : BitVec 5) (r : BitVec 2) (s : State) : Host.Outcome State Fault Refusal :=
  float3 s t d a b (mxQuant 1 r)

/-- `MXSC_E3M2` (R182). -/
def execMxscE3m2 (t : BitVec 6) (d : BitVec 5) (a : BitVec 5) (s : State) : Host.Outcome State Fault Refusal :=
  float1 s t d a fun x => quiet (mxScale 2 x)

/-- `MXDQ_E3M2` (R182). -/
def execMxdqE3m2 (t : BitVec 6) (d : BitVec 5) (a : BitVec 5) (b : BitVec 5) (s : State) : Host.Outcome State Fault Refusal :=
  float2 s t d a b (mxDequant 2)

/-- `MXQ_E3M2` (R182). -/
def execMxqE3m2 (t : BitVec 6) (d : BitVec 5) (a : BitVec 5) (b : BitVec 5) (r : BitVec 2) (s : State) : Host.Outcome State Fault Refusal :=
  float3 s t d a b (mxQuant 2 r)

/-- `MXSC_E2M3` (R182). -/
def execMxscE2m3 (t : BitVec 6) (d : BitVec 5) (a : BitVec 5) (s : State) : Host.Outcome State Fault Refusal :=
  float1 s t d a fun x => quiet (mxScale 3 x)

/-- `MXDQ_E2M3` (R182). -/
def execMxdqE2m3 (t : BitVec 6) (d : BitVec 5) (a : BitVec 5) (b : BitVec 5) (s : State) : Host.Outcome State Fault Refusal :=
  float2 s t d a b (mxDequant 3)

/-- `MXQ_E2M3` (R182). -/
def execMxqE2m3 (t : BitVec 6) (d : BitVec 5) (a : BitVec 5) (b : BitVec 5) (r : BitVec 2) (s : State) : Host.Outcome State Fault Refusal :=
  float3 s t d a b (mxQuant 3 r)

/-- `MXSC_E2M1` (R182). -/
def execMxscE2m1 (t : BitVec 6) (d : BitVec 5) (a : BitVec 5) (s : State) : Host.Outcome State Fault Refusal :=
  float1 s t d a fun x => quiet (mxScale 4 x)

/-- `MXDQ_E2M1` (R182). -/
def execMxdqE2m1 (t : BitVec 6) (d : BitVec 5) (a : BitVec 5) (b : BitVec 5) (s : State) : Host.Outcome State Fault Refusal :=
  float2 s t d a b (mxDequant 4)

/-- `MXQ_E2M1` (R182). -/
def execMxqE2m1 (t : BitVec 6) (d : BitVec 5) (a : BitVec 5) (b : BitVec 5) (r : BitVec 2) (s : State) : Host.Outcome State Fault Refusal :=
  float3 s t d a b (mxQuant 4 r)

/-- `FRCP_F32` (R183). -/
def execFrcpF32 (t : BitVec 6) (d : BitVec 5) (a : BitVec 5) (s : State) : Host.Outcome State Fault Refusal :=
  float1 s t d a (special 1)

/-- `FRSQRT_F32` (R183). -/
def execFrsqrtF32 (t : BitVec 6) (d : BitVec 5) (a : BitVec 5) (s : State) : Host.Outcome State Fault Refusal :=
  float1 s t d a (special 2)

/-- `FEXP2_F32` (R183). -/
def execFexp2F32 (t : BitVec 6) (d : BitVec 5) (a : BitVec 5) (s : State) : Host.Outcome State Fault Refusal :=
  float1 s t d a (special 3)

/-- `FEXP_F32` (R183). -/
def execFexpF32 (t : BitVec 6) (d : BitVec 5) (a : BitVec 5) (s : State) : Host.Outcome State Fault Refusal :=
  float1 s t d a (special 4)

/-- `FLOG2_F32` (R183). -/
def execFlog2F32 (t : BitVec 6) (d : BitVec 5) (a : BitVec 5) (s : State) : Host.Outcome State Fault Refusal :=
  float1 s t d a (special 5)

/-- `FSINPI_F32` (R183). -/
def execFsinpiF32 (t : BitVec 6) (d : BitVec 5) (a : BitVec 5) (s : State) : Host.Outcome State Fault Refusal :=
  float1 s t d a (special 6)

/-- `FCOSPI_F32` (R183). -/
def execFcospiF32 (t : BitVec 6) (d : BitVec 5) (a : BitVec 5) (s : State) : Host.Outcome State Fault Refusal :=
  float1 s t d a (special 7)

/-- `FTANH_F32` (R183). -/
def execFtanhF32 (t : BitVec 6) (d : BitVec 5) (a : BitVec 5) (s : State) : Host.Outcome State Fault Refusal :=
  float1 s t d a (special 8)

/-- `FSIG_F32` (R183). -/
def execFsigF32 (t : BitVec 6) (d : BitVec 5) (a : BitVec 5) (s : State) : Host.Outcome State Fault Refusal :=
  float1 s t d a (special 9)

/-- `FRMAX_F32` (R185). -/
def execFrmaxF32 (t : BitVec 6) (d : BitVec 5) (a : BitVec 5) (s : State) : Host.Outcome State Fault Refusal :=
  fireReduce s t d [a] fun f => quiet (freduce (fminmax Fmt.f32 true) f.g (f.src a).val)

/-- `FRMIN_F32` (R185). -/
def execFrminF32 (t : BitVec 6) (d : BitVec 5) (a : BitVec 5) (s : State) : Host.Outcome State Fault Refusal :=
  fireReduce s t d [a] fun f => quiet (freduce (fminmax Fmt.f32 false) f.g (f.src a).val)

/-- `FRMAXA_F32` (R185). -/
def execFrmaxaF32 (t : BitVec 6) (d : BitVec 5) (a : BitVec 5) (s : State) : Host.Outcome State Fault Refusal :=
  fireReduce s t d [a] fun f =>
    quiet (freduce (fminmax Fmt.f32 true) f.g (Lanes.ofFn fun i => absLane ((f.src a).val.get i)))

/-- `FRADD_F32` (R185). -/
def execFraddF32 (t : BitVec 6) (d : BitVec 5) (a : BitVec 5) (r : BitVec 2) (s : State) : Host.Outcome State Fault Refusal :=
  fireReduce s t d [a] fun f => freduceAdd r f.g (f.src a).val

/-- `IRADD` (R186). -/
def execIradd (t : BitVec 6) (d : BitVec 5) (a : BitVec 5) (s : State) : Host.Outcome State Fault Refusal :=
  fireReduce s t d [a] fun f => quiet (ireduce (· + ·) (presentList f.g (f.src a).val))

/-- `IRADDS_S32` (R186). -/
def execIraddsS32 (t : BitVec 6) (d : BitVec 5) (a : BitVec 5) (s : State) : Host.Outcome State Fault Refusal :=
  fireReduce s t d [a] fun f =>
    quiet (satS32 ((presentList f.g (f.src a).val).foldl (fun n w => n + w.toInt) 0))

/-- `IRADDS_N32` (R186). -/
def execIraddsN32 (t : BitVec 6) (d : BitVec 5) (a : BitVec 5) (s : State) : Host.Outcome State Fault Refusal :=
  fireReduce s t d [a] fun f =>
    quiet (wordOf (min ((presentList f.g (f.src a).val).foldl (fun n w => n + w.toNat) 0) 0xFFFFFFFF))

/-- `IRMIN_S32` (R186). -/
def execIrminS32 (t : BitVec 6) (d : BitVec 5) (a : BitVec 5) (s : State) : Host.Outcome State Fault Refusal :=
  fireReduce s t d [a] fun f => quiet (ireduce (fun x y => if x.toInt ≤ y.toInt then x else y) (presentList f.g (f.src a).val))

/-- `IRMAX_S32` (R186). -/
def execIrmaxS32 (t : BitVec 6) (d : BitVec 5) (a : BitVec 5) (s : State) : Host.Outcome State Fault Refusal :=
  fireReduce s t d [a] fun f => quiet (ireduce (fun x y => if x.toInt ≤ y.toInt then y else x) (presentList f.g (f.src a).val))

/-- `IRMIN_N32` (R186). -/
def execIrminN32 (t : BitVec 6) (d : BitVec 5) (a : BitVec 5) (s : State) : Host.Outcome State Fault Refusal :=
  fireReduce s t d [a] fun f => quiet (ireduce (fun x y => if x.toNat ≤ y.toNat then x else y) (presentList f.g (f.src a).val))

/-- `IRMAX_N32` (R186). -/
def execIrmaxN32 (t : BitVec 6) (d : BitVec 5) (a : BitVec 5) (s : State) : Host.Outcome State Fault Refusal :=
  fireReduce s t d [a] fun f => quiet (ireduce (fun x y => if x.toNat ≤ y.toNat then y else x) (presentList f.g (f.src a).val))

/-- `IRAND` (R186). -/
def execIrand (t : BitVec 6) (d : BitVec 5) (a : BitVec 5) (s : State) : Host.Outcome State Fault Refusal :=
  fireReduce s t d [a] fun f => quiet (ireduce (· &&& ·) (presentList f.g (f.src a).val))

/-- `IROR` (R186). -/
def execIror (t : BitVec 6) (d : BitVec 5) (a : BitVec 5) (s : State) : Host.Outcome State Fault Refusal :=
  fireReduce s t d [a] fun f => quiet (ireduce (· ||| ·) (presentList f.g (f.src a).val))

/-- `IRXOR` (R186). -/
def execIrxor (t : BitVec 6) (d : BitVec 5) (a : BitVec 5) (s : State) : Host.Outcome State Fault Refusal :=
  fireReduce s t d [a] fun f => quiet (ireduce (· ^^^ ·) (presentList f.g (f.src a).val))

/-- `IRCNT` (R186). -/
def execIrcnt (t : BitVec 6) (d : BitVec 5) (a : BitVec 5) (s : State) : Host.Outcome State Fault Refusal :=
  fireReduce s t d [] fun f =>
    quiet (wordOf ((laneIdx.filter fun i => f.g.get i && (f.predLit a).get i).length))

/-- `FGETEXP_F32` (R187). -/
def execFgetexpF32 (t : BitVec 6) (d : BitVec 5) (a : BitVec 5) (s : State) : Host.Outcome State Fault Refusal :=
  float1 s t d a fun x => quiet (getExp x)

/-- `FMANT_F32` (R187). -/
def execFmantF32 (t : BitVec 6) (d : BitVec 5) (a : BitVec 5) (s : State) : Host.Outcome State Fault Refusal :=
  float1 s t d a fun x => quiet (mantissa x)

/-- `RDFLG` (R187). -/
def execRdflg (t : BitVec 6) (d : BitVec 5) (s : State) : Host.Outcome State Fault Refusal :=
  fireLanes s t d [] fun f => Lanes.fill (f.bk.flags.zeroExtend 32)

/-- `FSCL_F32` (R187). -/
def execFsclF32 (t : BitVec 6) (d : BitVec 5) (a : BitVec 5) (b : BitVec 5) (r : BitVec 2) (s : State) : Host.Outcome State Fault Refusal :=
  float2 s t d a b (scaleLane r)

/-- `CLRFLG` (R187). -/
def execClrflg (t : BitVec 6) (a : BitVec 5) (s : State) : Host.Outcome State Fault Refusal :=
  fireElem s t [a] (fun _ => none)
    (fun f x => x.modBank f.b fun k => { k with flags := k.flags &&& ~~~((f.src a).val.l0.extractLsb' 0 6) }) (fun _ => id)

end Sys2Proof.Machine
end

