-- ==== Sys2Proof/Machine/Dispatch.lean ====
section
/-!
DEFINITION. The meaning of each instruction: one arm per constructor.
-/

namespace Sys2Proof.Machine

def exec (i : Instr) (s : State) : Host.Outcome State Fault Refusal :=
  match i with
  | .powerUp => Sys2Proof.Machine.execPowerUp s
  | .boot die => Sys2Proof.Machine.execBoot die s
  | .bootVerifyEnd => Sys2Proof.Machine.execBootVerifyEnd s
  | .setPoint die => Sys2Proof.Machine.execSetPoint die s
  | .invalidate die => Sys2Proof.Machine.execInvalidate die s
  | .bindWindow die => Sys2Proof.Machine.execBindWindow die s
  | .context die => Sys2Proof.Machine.execContext die s
  | .spaceTable die => Sys2Proof.Machine.execSpaceTable die s
  | .translationQueue die => Sys2Proof.Machine.execTranslationQueue die s
  | .reuseStore die => Sys2Proof.Machine.execReuseStore die s
  | .reuseQuota die => Sys2Proof.Machine.execReuseQuota die s
  | .reuseFlush die => Sys2Proof.Machine.execReuseFlush die s
  | .save die => Sys2Proof.Machine.execSave die s
  | .purge die => Sys2Proof.Machine.execPurge die s
  | .inject die => Sys2Proof.Machine.execInject die s
  | .monitor die => Sys2Proof.Machine.execMonitor die s
  | .attest die => Sys2Proof.Machine.execAttest die s
  | .identityKey die => Sys2Proof.Machine.execIdentityKey die s
  | .threshold die => Sys2Proof.Machine.execThreshold die s
  | .clearErrors die => Sys2Proof.Machine.execClearErrors die s
  | .retrain die => Sys2Proof.Machine.execRetrain die s
  | .channelTable die => Sys2Proof.Machine.execChannelTable die s
  | .commandDone die => Sys2Proof.Machine.execCommandDone die s
  | .translationDoorbell die => Sys2Proof.Machine.execTranslationDoorbell die s
  | .notificationClear die ntf isl => Sys2Proof.Machine.execNotificationClear die ntf isl s
  | .managementWrite die off value => Sys2Proof.Machine.execManagementWrite die off value s
  | .launchWordStore die value => Sys2Proof.Machine.execLaunchWordStore die value s
  | .launchCapture die req => Sys2Proof.Machine.execLaunchCapture die req s
  | .linkLost port => Sys2Proof.Machine.execLinkLost port s
  | .correctedError island => Sys2Proof.Machine.execCorrectedError island s
  | .structureError code place index => Sys2Proof.Machine.execStructureError code place index s
  | .mElementSoftError elem what index flip => Sys2Proof.Machine.execMElementSoftError elem what index flip s
  | .schedulerCycle => Sys2Proof.Machine.execSchedulerCycle s
  | .reuseHit acc => Sys2Proof.Machine.execReuseHit acc s
  | .imageRejected region => Sys2Proof.Machine.execImageRejected region s
  | .loadTakesEffect region => Sys2Proof.Machine.execLoadTakesEffect region s
  | .regionIdle region => Sys2Proof.Machine.execRegionIdle region s
  | .reuseInsertion region => Sys2Proof.Machine.execReuseInsertion region s
  | .foldDrained region => Sys2Proof.Machine.execFoldDrained region s
  | .foldAbandon region => Sys2Proof.Machine.execFoldAbandon region s
  | .saveWritten region => Sys2Proof.Machine.execSaveWritten region s
  | .restoreWritten region => Sys2Proof.Machine.execRestoreWritten region s
  | .switchRequestArrival elem => Sys2Proof.Machine.execSwitchRequestArrival elem s
  | .switchStatusArrival elem => Sys2Proof.Machine.execSwitchStatusArrival elem s
  | .regionDrained region => Sys2Proof.Machine.execRegionDrained region s
  | .settlingEnd region => Sys2Proof.Machine.execSettlingEnd region s
  | .switchDrainTimeout region => Sys2Proof.Machine.execSwitchDrainTimeout region s
  | .stageDry region => Sys2Proof.Machine.execStageDry region s
  | .stillness region => Sys2Proof.Machine.execStillness region s
  | .switchCycle elem => Sys2Proof.Machine.execSwitchCycle elem s
  | .spillRecordOffer elem => Sys2Proof.Machine.execSpillRecordOffer elem s
  | .spillEnd elem bank => Sys2Proof.Machine.execSpillEnd elem bank s
  | .reinstatementStart elem rec => Sys2Proof.Machine.execReinstatementStart elem rec s
  | .reinstatementEnd elem rec => Sys2Proof.Machine.execReinstatementEnd elem rec s
  | .neighbourTransfer elem dir => Sys2Proof.Machine.execNeighbourTransfer elem dir s
  | .routeClassEntry elem => Sys2Proof.Machine.execRouteClassEntry elem s
  | .tokenDelivery tile cls => Sys2Proof.Machine.execTokenDelivery tile cls s
  | .gatewayReject tile cls => Sys2Proof.Machine.execGatewayReject tile cls s
  | .controlTokenArrival elem chan => Sys2Proof.Machine.execControlTokenArrival elem chan s
  | .loopLevelChange elem => Sys2Proof.Machine.execLoopLevelChange elem s
  | .releaseSend req => Sys2Proof.Machine.execReleaseSend req s
  | .translationLookup req useTlb => Sys2Proof.Machine.execTranslationLookup req useTlb s
  | .homeAccess req part => Sys2Proof.Machine.execHomeAccess req part s
  | .responseArrival req => Sys2Proof.Machine.execResponseArrival req s
  | .ioMessageAvailable queue msg => Sys2Proof.Machine.execIoMessageAvailable queue msg s
  | .ioreadCompletion req => Sys2Proof.Machine.execIoreadCompletion req s
  | .sealMark req => Sys2Proof.Machine.execSealMark req s
  | .sealHashEnd die => Sys2Proof.Machine.execSealHashEnd die s
  | .rangeUnitRequest req => Sys2Proof.Machine.execRangeUnitRequest req s
  | .hashEngineRequest req => Sys2Proof.Machine.execHashEngineRequest req s
  | .frameRequest req => Sys2Proof.Machine.execFrameRequest req s
  | .frameEmit elem => Sys2Proof.Machine.execFrameEmit elem s
  | .streamStart tile port => Sys2Proof.Machine.execStreamStart tile port s
  | .streamToken tile port => Sys2Proof.Machine.execStreamToken tile port s
  | .streamComplete tile port => Sys2Proof.Machine.execStreamComplete tile port s
  | .copyCapture elem sb => Sys2Proof.Machine.execCopyCapture elem sb s
  | .copyChunk elem sb => Sys2Proof.Machine.execCopyChunk elem sb s
  | .copyComplete elem sb => Sys2Proof.Machine.execCopyComplete elem sb s
  | .rmwApply req => Sys2Proof.Machine.execRmwApply req s
  | .intakeBurst elem => Sys2Proof.Machine.execIntakeBurst elem s
  | .accumulatorWrite elem => Sys2Proof.Machine.execAccumulatorWrite elem s
  | .drainToken elem => Sys2Proof.Machine.execDrainToken elem s
  | .thresholdMask elem => Sys2Proof.Machine.execThresholdMask elem s
  | .pageScore elem sb => Sys2Proof.Machine.execPageScore elem sb s
  | .pageListWrite elem sb => Sys2Proof.Machine.execPageListWrite elem sb s
  | .pageStartHandover elem sb => Sys2Proof.Machine.execPageStartHandover elem sb s
  | .quarterAccept tile q => Sys2Proof.Machine.execQuarterAccept tile q s
  | .fifoEmit tile q => Sys2Proof.Machine.execFifoEmit tile q s
  | .lineBufferEmit tile q => Sys2Proof.Machine.execLineBufferEmit tile q s
  | .tileStoreWrite tile q => Sys2Proof.Machine.execTileStoreWrite tile q s
  | .tileStoreRead tile q => Sys2Proof.Machine.execTileStoreRead tile q s
  | .retireHead region => Sys2Proof.Machine.execRetireHead region s
  | .faultTaken region => Sys2Proof.Machine.execFaultTaken region s
  | .handlerEntry region => Sys2Proof.Machine.execHandlerEntry region s
  | .handlerExit region => Sys2Proof.Machine.execHandlerExit region s
  | .purgeMarking die => Sys2Proof.Machine.execPurgeMarking die s
  | .purgeSweepDone die => Sys2Proof.Machine.execPurgeSweepDone die s
  | .purgeRecording die => Sys2Proof.Machine.execPurgeRecording die s
  | .exitCompare req0 req1 => Sys2Proof.Machine.execExitCompare req0 req1 s
  | .twinPartnerTimeout req => Sys2Proof.Machine.execTwinPartnerTimeout req s
  | .nop t => Sys2Proof.Machine.execNop t s
  | .sete t a => Sys2Proof.Machine.execSete t a s
  | .clre t a => Sys2Proof.Machine.execClre t a s
  | .fwd t d a => Sys2Proof.Machine.execFwd t d a s
  | .fwdT t d a => Sys2Proof.Machine.execFwdT t d a s
  | .deq t a => Sys2Proof.Machine.execDeq t a s
  | .selQn t d a b n => Sys2Proof.Machine.execSelQn t d a b n s
  | .cfgsw t d a => Sys2Proof.Machine.execCfgsw t d a s
  | .cfgswCc t d c => Sys2Proof.Machine.execCfgswCc t d c s
  | .ctok t b => Sys2Proof.Machine.execCtok t b s
  | .cwait t b => Sys2Proof.Machine.execCwait t b s
  | .mov t d a => Sys2Proof.Machine.execMov t d a s
  | .movp t d a => Sys2Proof.Machine.execMovp t d a s
  | .mvse t d => Sys2Proof.Machine.execMvse t d s
  | .mvsb t d a => Sys2Proof.Machine.execMvsb t d a s
  | .movi t d imm => Sys2Proof.Machine.execMovi t d imm s
  | .movl t d imm => Sys2Proof.Machine.execMovl t d imm s
  | .add t d a b => Sys2Proof.Machine.execAdd t d a b s
  | .sub t d a b => Sys2Proof.Machine.execSub t d a b s
  | .addsS32 t d a b => Sys2Proof.Machine.execAddsS32 t d a b s
  | .addsN32 t d a b => Sys2Proof.Machine.execAddsN32 t d a b s
  | .subsS32 t d a b => Sys2Proof.Machine.execSubsS32 t d a b s
  | .subsN32 t d a b => Sys2Proof.Machine.execSubsN32 t d a b s
  | .and t d a b => Sys2Proof.Machine.execAnd t d a b s
  | .or t d a b => Sys2Proof.Machine.execOr t d a b s
  | .xor t d a b => Sys2Proof.Machine.execXor t d a b s
  | .andn t d a b => Sys2Proof.Machine.execAndn t d a b s
  | .shl t d a b => Sys2Proof.Machine.execShl t d a b s
  | .shr t d a b => Sys2Proof.Machine.execShr t d a b s
  | .sra t d a b => Sys2Proof.Machine.execSra t d a b s
  | .rotl t d a b => Sys2Proof.Machine.execRotl t d a b s
  | .minS32 t d a b => Sys2Proof.Machine.execMinS32 t d a b s
  | .minN32 t d a b => Sys2Proof.Machine.execMinN32 t d a b s
  | .maxS32 t d a b => Sys2Proof.Machine.execMaxS32 t d a b s
  | .maxN32 t d a b => Sys2Proof.Machine.execMaxN32 t d a b s
  | .absS32 t d a => Sys2Proof.Machine.execAbsS32 t d a s
  | .neg t d a => Sys2Proof.Machine.execNeg t d a s
  | .not t d a => Sys2Proof.Machine.execNot t d a s
  | .addi t d a imm => Sys2Proof.Machine.execAddi t d a imm s
  | .andi t d a imm => Sys2Proof.Machine.execAndi t d a imm s
  | .mul t d a b => Sys2Proof.Machine.execMul t d a b s
  | .mulhS32 t d a b => Sys2Proof.Machine.execMulhS32 t d a b s
  | .mulhN32 t d a b => Sys2Proof.Machine.execMulhN32 t d a b s
  | .mulwS16 t d a b => Sys2Proof.Machine.execMulwS16 t d a b s
  | .mulwN16 t d a b => Sys2Proof.Machine.execMulwN16 t d a b s
  | .ceq t d a b => Sys2Proof.Machine.execCeq t d a b s
  | .cne t d a b => Sys2Proof.Machine.execCne t d a b s
  | .cltS32 t d a b => Sys2Proof.Machine.execCltS32 t d a b s
  | .cleS32 t d a b => Sys2Proof.Machine.execCleS32 t d a b s
  | .cgtS32 t d a b => Sys2Proof.Machine.execCgtS32 t d a b s
  | .cgeS32 t d a b => Sys2Proof.Machine.execCgeS32 t d a b s
  | .cltN32 t d a b => Sys2Proof.Machine.execCltN32 t d a b s
  | .cleN32 t d a b => Sys2Proof.Machine.execCleN32 t d a b s
  | .cgtN32 t d a b => Sys2Proof.Machine.execCgtN32 t d a b s
  | .cgeN32 t d a b => Sys2Proof.Machine.execCgeN32 t d a b s
  | .pand t d a b => Sys2Proof.Machine.execPand t d a b s
  | .por t d a b => Sys2Proof.Machine.execPor t d a b s
  | .pxor t d a b => Sys2Proof.Machine.execPxor t d a b s
  | .pandn t d a b => Sys2Proof.Machine.execPandn t d a b s
  | .pnot t d a => Sys2Proof.Machine.execPnot t d a s
  | .pany t d a => Sys2Proof.Machine.execPany t d a s
  | .pall t d a => Sys2Proof.Machine.execPall t d a s
  | .bcast t d a b => Sys2Proof.Machine.execBcast t d a b s
  | .perm t d a b => Sys2Proof.Machine.execPerm t d a b s
  | .lrot t d a b => Sys2Proof.Machine.execLrot t d a b s
  | .lshd t d a b => Sys2Proof.Machine.execLshd t d a b s
  | .pack t d a => Sys2Proof.Machine.execPack t d a s
  | .cset t d a => Sys2Proof.Machine.execCset t d a s
  | .cstep t d b => Sys2Proof.Machine.execCstep t d b s
  | .crd t d => Sys2Proof.Machine.execCrd t d s
  | .popc t d a => Sys2Proof.Machine.execPopc t d a s
  | .clz t d a => Sys2Proof.Machine.execClz t d a s
  | .ctz t d a => Sys2Proof.Machine.execCtz t d a s
  | .brev t d a => Sys2Proof.Machine.execBrev t d a s
  | .bswap t d a => Sys2Proof.Machine.execBswap t d a s
  | .bfxN32 t d a b => Sys2Proof.Machine.execBfxN32 t d a b s
  | .bfxS32 t d a b => Sys2Proof.Machine.execBfxS32 t d a b s
  | .faddF32 t d a b r => Sys2Proof.Machine.execFaddF32 t d a b r s
  | .fsubF32 t d a b r => Sys2Proof.Machine.execFsubF32 t d a b r s
  | .fmulF32 t d a b r => Sys2Proof.Machine.execFmulF32 t d a b r s
  | .fdivF32 t d a b r => Sys2Proof.Machine.execFdivF32 t d a b r s
  | .fsqrtF32 t d a r => Sys2Proof.Machine.execFsqrtF32 t d a r s
  | .ffmaF32 t d a b r => Sys2Proof.Machine.execFfmaF32 t d a b r s
  | .ffmsF32 t d a b r => Sys2Proof.Machine.execFfmsF32 t d a b r s
  | .ffnmaF32 t d a b r => Sys2Proof.Machine.execFfnmaF32 t d a b r s
  | .ffnmsF32 t d a b r => Sys2Proof.Machine.execFfnmsF32 t d a b r s
  | .fminF32 t d a b => Sys2Proof.Machine.execFminF32 t d a b s
  | .fmaxF32 t d a b => Sys2Proof.Machine.execFmaxF32 t d a b s
  | .fabsF32 t d a => Sys2Proof.Machine.execFabsF32 t d a s
  | .fnegF32 t d a => Sys2Proof.Machine.execFnegF32 t d a s
  | .fsgnF32 t d a b => Sys2Proof.Machine.execFsgnF32 t d a b s
  | .fminBf16x2 t d a b => Sys2Proof.Machine.execFminBf16x2 t d a b s
  | .fmaxBf16x2 t d a b => Sys2Proof.Machine.execFmaxBf16x2 t d a b s
  | .fminF16x2 t d a b => Sys2Proof.Machine.execFminF16x2 t d a b s
  | .fmaxF16x2 t d a b => Sys2Proof.Machine.execFmaxF16x2 t d a b s
  | .fabsBf16x2 t d a => Sys2Proof.Machine.execFabsBf16x2 t d a s
  | .fnegBf16x2 t d a => Sys2Proof.Machine.execFnegBf16x2 t d a s
  | .fsgnBf16x2 t d a b => Sys2Proof.Machine.execFsgnBf16x2 t d a b s
  | .fabsF16x2 t d a => Sys2Proof.Machine.execFabsF16x2 t d a s
  | .fnegF16x2 t d a => Sys2Proof.Machine.execFnegF16x2 t d a s
  | .fsgnF16x2 t d a b => Sys2Proof.Machine.execFsgnF16x2 t d a b s
  | .faddBf16x2 t d a b r => Sys2Proof.Machine.execFaddBf16x2 t d a b r s
  | .fsubBf16x2 t d a b r => Sys2Proof.Machine.execFsubBf16x2 t d a b r s
  | .fmulBf16x2 t d a b r => Sys2Proof.Machine.execFmulBf16x2 t d a b r s
  | .ffmaBf16x2 t d a b r => Sys2Proof.Machine.execFfmaBf16x2 t d a b r s
  | .faddF16x2 t d a b r => Sys2Proof.Machine.execFaddF16x2 t d a b r s
  | .fsubF16x2 t d a b r => Sys2Proof.Machine.execFsubF16x2 t d a b r s
  | .fmulF16x2 t d a b r => Sys2Proof.Machine.execFmulF16x2 t d a b r s
  | .ffmaF16x2 t d a b r => Sys2Proof.Machine.execFfmaF16x2 t d a b r s
  | .fdot2Bf16 t d a b r => Sys2Proof.Machine.execFdot2Bf16 t d a b r s
  | .fdot2F16 t d a b r => Sys2Proof.Machine.execFdot2F16 t d a b r s
  | .fdot4E4m3 t d a b r => Sys2Proof.Machine.execFdot4E4m3 t d a b r s
  | .fdot4E5m2 t d a b r => Sys2Proof.Machine.execFdot4E5m2 t d a b r s
  | .idot4S8 t d a b => Sys2Proof.Machine.execIdot4S8 t d a b s
  | .idot4N8 t d a b => Sys2Proof.Machine.execIdot4N8 t d a b s
  | .fceqF32 t d a b => Sys2Proof.Machine.execFceqF32 t d a b s
  | .fcneF32 t d a b => Sys2Proof.Machine.execFcneF32 t d a b s
  | .fcltF32 t d a b => Sys2Proof.Machine.execFcltF32 t d a b s
  | .fcleF32 t d a b => Sys2Proof.Machine.execFcleF32 t d a b s
  | .fcgtF32 t d a b => Sys2Proof.Machine.execFcgtF32 t d a b s
  | .fcgeF32 t d a b => Sys2Proof.Machine.execFcgeF32 t d a b s
  | .fcunF32 t d a b => Sys2Proof.Machine.execFcunF32 t d a b s
  | .fclassF32 t d a => Sys2Proof.Machine.execFclassF32 t d a s
  | .fclassBf16x2 t d a => Sys2Proof.Machine.execFclassBf16x2 t d a s
  | .fclassF16x2 t d a => Sys2Proof.Machine.execFclassF16x2 t d a s
  | .ftestF32 t d a b => Sys2Proof.Machine.execFtestF32 t d a b s
  | .cvtF32Bf16 t d a b => Sys2Proof.Machine.execCvtF32Bf16 t d a b s
  | .cvtF32F16 t d a b => Sys2Proof.Machine.execCvtF32F16 t d a b s
  | .cvtBf16x2F32 t d a b r => Sys2Proof.Machine.execCvtBf16x2F32 t d a b r s
  | .cvtF16x2F32 t d a b r => Sys2Proof.Machine.execCvtF16x2F32 t d a b r s
  | .cvtBf16x2F16x2 t d a r => Sys2Proof.Machine.execCvtBf16x2F16x2 t d a r s
  | .cvtF16x2Bf16x2 t d a r => Sys2Proof.Machine.execCvtF16x2Bf16x2 t d a r s
  | .cvtS32F32 t d a r => Sys2Proof.Machine.execCvtS32F32 t d a r s
  | .cvtN32F32 t d a r => Sys2Proof.Machine.execCvtN32F32 t d a r s
  | .cvtF32S32 t d a r => Sys2Proof.Machine.execCvtF32S32 t d a r s
  | .cvtF32N32 t d a r => Sys2Proof.Machine.execCvtF32N32 t d a r s
  | .cvtStochBf16x2F32 t d a b => Sys2Proof.Machine.execCvtStochBf16x2F32 t d a b s
  | .cvtStochF16x2F32 t d a b => Sys2Proof.Machine.execCvtStochF16x2F32 t d a b s
  | .cvtStochE4m3x2F32 t d a b => Sys2Proof.Machine.execCvtStochE4m3x2F32 t d a b s
  | .cvtStochE5m2x2F32 t d a b => Sys2Proof.Machine.execCvtStochE5m2x2F32 t d a b s
  | .mxscE4m3 t d a => Sys2Proof.Machine.execMxscE4m3 t d a s
  | .mxscE5m2 t d a => Sys2Proof.Machine.execMxscE5m2 t d a s
  | .mxscE3m2 t d a => Sys2Proof.Machine.execMxscE3m2 t d a s
  | .mxscE2m3 t d a => Sys2Proof.Machine.execMxscE2m3 t d a s
  | .mxscE2m1 t d a => Sys2Proof.Machine.execMxscE2m1 t d a s
  | .mxdqE4m3 t d a b => Sys2Proof.Machine.execMxdqE4m3 t d a b s
  | .mxdqE5m2 t d a b => Sys2Proof.Machine.execMxdqE5m2 t d a b s
  | .mxdqE3m2 t d a b => Sys2Proof.Machine.execMxdqE3m2 t d a b s
  | .mxdqE2m3 t d a b => Sys2Proof.Machine.execMxdqE2m3 t d a b s
  | .mxdqE2m1 t d a b => Sys2Proof.Machine.execMxdqE2m1 t d a b s
  | .mxqE4m3 t d a b r => Sys2Proof.Machine.execMxqE4m3 t d a b r s
  | .mxqE5m2 t d a b r => Sys2Proof.Machine.execMxqE5m2 t d a b r s
  | .mxqE3m2 t d a b r => Sys2Proof.Machine.execMxqE3m2 t d a b r s
  | .mxqE2m3 t d a b r => Sys2Proof.Machine.execMxqE2m3 t d a b r s
  | .mxqE2m1 t d a b r => Sys2Proof.Machine.execMxqE2m1 t d a b r s
  | .frcpF32 t d a => Sys2Proof.Machine.execFrcpF32 t d a s
  | .frsqrtF32 t d a => Sys2Proof.Machine.execFrsqrtF32 t d a s
  | .fexp2F32 t d a => Sys2Proof.Machine.execFexp2F32 t d a s
  | .fexpF32 t d a => Sys2Proof.Machine.execFexpF32 t d a s
  | .flog2F32 t d a => Sys2Proof.Machine.execFlog2F32 t d a s
  | .fsinpiF32 t d a => Sys2Proof.Machine.execFsinpiF32 t d a s
  | .fcospiF32 t d a => Sys2Proof.Machine.execFcospiF32 t d a s
  | .ftanhF32 t d a => Sys2Proof.Machine.execFtanhF32 t d a s
  | .fsigF32 t d a => Sys2Proof.Machine.execFsigF32 t d a s
  | .frmaxF32 t d a => Sys2Proof.Machine.execFrmaxF32 t d a s
  | .frminF32 t d a => Sys2Proof.Machine.execFrminF32 t d a s
  | .frmaxaF32 t d a => Sys2Proof.Machine.execFrmaxaF32 t d a s
  | .fraddF32 t d a r => Sys2Proof.Machine.execFraddF32 t d a r s
  | .iradd t d a => Sys2Proof.Machine.execIradd t d a s
  | .iraddsS32 t d a => Sys2Proof.Machine.execIraddsS32 t d a s
  | .iraddsN32 t d a => Sys2Proof.Machine.execIraddsN32 t d a s
  | .irminS32 t d a => Sys2Proof.Machine.execIrminS32 t d a s
  | .irmaxS32 t d a => Sys2Proof.Machine.execIrmaxS32 t d a s
  | .irminN32 t d a => Sys2Proof.Machine.execIrminN32 t d a s
  | .irmaxN32 t d a => Sys2Proof.Machine.execIrmaxN32 t d a s
  | .irand t d a => Sys2Proof.Machine.execIrand t d a s
  | .iror t d a => Sys2Proof.Machine.execIror t d a s
  | .irxor t d a => Sys2Proof.Machine.execIrxor t d a s
  | .ircnt t d a => Sys2Proof.Machine.execIrcnt t d a s
  | .fgetexpF32 t d a => Sys2Proof.Machine.execFgetexpF32 t d a s
  | .fmantF32 t d a => Sys2Proof.Machine.execFmantF32 t d a s
  | .rdflg t d => Sys2Proof.Machine.execRdflg t d s
  | .fsclF32 t d a b r => Sys2Proof.Machine.execFsclF32 t d a b r s
  | .clrflg t a => Sys2Proof.Machine.execClrflg t a s
  | .ld t d a b sc y => Sys2Proof.Machine.execLd t d a b sc y s
  | .ldv t d a b sc => Sys2Proof.Machine.execLdv t d a b sc s
  | .st t a b sc y => Sys2Proof.Machine.execSt t a b sc y s
  | .stv t a b sc => Sys2Proof.Machine.execStv t a b sc s
  | .ldg t d a b y => Sys2Proof.Machine.execLdg t d a b y s
  | .ldgV t d a b => Sys2Proof.Machine.execLdgV t d a b s
  | .stg t a b y => Sys2Proof.Machine.execStg t a b y s
  | .ldf t d a b sc c => Sys2Proof.Machine.execLdf t d a b sc c s
  | .stf t a b sc c => Sys2Proof.Machine.execStf t a b sc c s
  | .touchX t a b => Sys2Proof.Machine.execTouchX t a b s
  | .touchM t a b => Sys2Proof.Machine.execTouchM t a b s
  | .touchG t a b => Sys2Proof.Machine.execTouchG t a b s
  | .aaddX t d a b => Sys2Proof.Machine.execAaddX t d a b s
  | .aaddM t d a b => Sys2Proof.Machine.execAaddM t d a b s
  | .aaddG t d a b => Sys2Proof.Machine.execAaddG t d a b s
  | .aminS32X t d a b => Sys2Proof.Machine.execAminS32X t d a b s
  | .aminS32M t d a b => Sys2Proof.Machine.execAminS32M t d a b s
  | .aminS32G t d a b => Sys2Proof.Machine.execAminS32G t d a b s
  | .aminN32X t d a b => Sys2Proof.Machine.execAminN32X t d a b s
  | .aminN32M t d a b => Sys2Proof.Machine.execAminN32M t d a b s
  | .aminN32G t d a b => Sys2Proof.Machine.execAminN32G t d a b s
  | .amaxS32X t d a b => Sys2Proof.Machine.execAmaxS32X t d a b s
  | .amaxS32M t d a b => Sys2Proof.Machine.execAmaxS32M t d a b s
  | .amaxS32G t d a b => Sys2Proof.Machine.execAmaxS32G t d a b s
  | .amaxN32X t d a b => Sys2Proof.Machine.execAmaxN32X t d a b s
  | .amaxN32M t d a b => Sys2Proof.Machine.execAmaxN32M t d a b s
  | .amaxN32G t d a b => Sys2Proof.Machine.execAmaxN32G t d a b s
  | .aandX t d a b => Sys2Proof.Machine.execAandX t d a b s
  | .aandM t d a b => Sys2Proof.Machine.execAandM t d a b s
  | .aandG t d a b => Sys2Proof.Machine.execAandG t d a b s
  | .aorX t d a b => Sys2Proof.Machine.execAorX t d a b s
  | .aorM t d a b => Sys2Proof.Machine.execAorM t d a b s
  | .aorG t d a b => Sys2Proof.Machine.execAorG t d a b s
  | .axorX t d a b => Sys2Proof.Machine.execAxorX t d a b s
  | .axorM t d a b => Sys2Proof.Machine.execAxorM t d a b s
  | .axorG t d a b => Sys2Proof.Machine.execAxorG t d a b s
  | .afaddX t d a b => Sys2Proof.Machine.execAfaddX t d a b s
  | .afaddM t d a b => Sys2Proof.Machine.execAfaddM t d a b s
  | .afaddG t d a b => Sys2Proof.Machine.execAfaddG t d a b s
  | .axchX t d a b => Sys2Proof.Machine.execAxchX t d a b s
  | .axchM t d a b => Sys2Proof.Machine.execAxchM t d a b s
  | .axchG t d a b => Sys2Proof.Machine.execAxchG t d a b s
  | .acasX t d a b => Sys2Proof.Machine.execAcasX t d a b s
  | .acasM t d a b => Sys2Proof.Machine.execAcasM t d a b s
  | .acasG t d a b => Sys2Proof.Machine.execAcasG t d a b s
  | .falloc t d b => Sys2Proof.Machine.execFalloc t d b s
  | .fput t a b => Sys2Proof.Machine.execFput t a b s
  | .ffree t a => Sys2Proof.Machine.execFfree t a s
  | .otokFork t => Sys2Proof.Machine.execOtokFork t s
  | .otokJoin t => Sys2Proof.Machine.execOtokJoin t s
  | .fence t c => Sys2Proof.Machine.execFence t c s
  | .arvX t d a b => Sys2Proof.Machine.execArvX t d a b s
  | .arvM t d a b => Sys2Proof.Machine.execArvM t d a b s
  | .arvG t d a b => Sys2Proof.Machine.execArvG t d a b s
  | .awtX t d a b => Sys2Proof.Machine.execAwtX t d a b s
  | .awtM t d a b => Sys2Proof.Machine.execAwtM t d a b s
  | .awtG t d a b => Sys2Proof.Machine.execAwtG t d a b s
  | .arwX t d a b => Sys2Proof.Machine.execArwX t d a b s
  | .arwM t d a b => Sys2Proof.Machine.execArwM t d a b s
  | .arwG t d a b => Sys2Proof.Machine.execArwG t d a b s
  | .ioread t a => Sys2Proof.Machine.execIoread t a s
  | .iowaitX t d a => Sys2Proof.Machine.execIowaitX t d a s
  | .iowaitM t d a => Sys2Proof.Machine.execIowaitM t d a s
  | .scfg t a b => Sys2Proof.Machine.execScfg t a b s
  | .sbind t a b => Sys2Proof.Machine.execSbind t a b s
  | .sgo t a b => Sys2Proof.Machine.execSgo t a b s
  | .sstop t b => Sys2Proof.Machine.execSstop t b s
  | .cpy t a b => Sys2Proof.Machine.execCpy t a b s
  | .sbwait t d a => Sys2Proof.Machine.execSbwait t d a s
  | .sbtest t d => Sys2Proof.Machine.execSbtest t d s
  | .gsendEnt0 t d a b => Sys2Proof.Machine.execGsendEnt0 t d a b s
  | .gsendEnt1 t d a b => Sys2Proof.Machine.execGsendEnt1 t d a b s
  | .gsendEnt2 t d a b => Sys2Proof.Machine.execGsendEnt2 t d a b s
  | .gsendEnt3 t d a b => Sys2Proof.Machine.execGsendEnt3 t d a b s
  | .rmwcfg t a b => Sys2Proof.Machine.execRmwcfg t a b s
  | .mma t n a b f => Sys2Proof.Machine.execMma t n a b f s
  | .mmam t n a b f => Sys2Proof.Machine.execMmam t n a b f s
  | .mmas t n a b f => Sys2Proof.Machine.execMmas t n a b f s
  | .maclClr t n => Sys2Proof.Machine.execMaclClr t n s
  | .maclLd t n a => Sys2Proof.Machine.execMaclLd t n a s
  | .mld t a => Sys2Proof.Machine.execMld t a s
  | .mdrnF32 t n a => Sys2Proof.Machine.execMdrnF32 t n a s
  | .mdrnBf16 t n a r => Sys2Proof.Machine.execMdrnBf16 t n a r s
  | .mdrnF16 t n a r => Sys2Proof.Machine.execMdrnF16 t n a r s
  | .mchk t n a => Sys2Proof.Machine.execMchk t n a s
  | .prune t n a => Sys2Proof.Machine.execPrune t n a s
  | .launch t a => Sys2Proof.Machine.execLaunch t a s
  | .ptask t d => Sys2Proof.Machine.execPtask t d s
  | .tdone t a => Sys2Proof.Machine.execTdone t a s
  | .yieldFX t a => Sys2Proof.Machine.execYieldFX t a s
  | .yieldFM t a => Sys2Proof.Machine.execYieldFM t a s
  | .yieldSb t a => Sys2Proof.Machine.execYieldSb t a s
  | .yieldRel t => Sys2Proof.Machine.execYieldRel t s
  | .tagset t a => Sys2Proof.Machine.execTagset t a s
  | .tagsetReq t a => Sys2Proof.Machine.execTagsetReq t a s
  | .tagsetIter t a => Sys2Proof.Machine.execTagsetIter t a s
  | .rset t d a => Sys2Proof.Machine.execRset t d a s
  | .rget t d a => Sys2Proof.Machine.execRget t d a s
  | .rfree t a => Sys2Proof.Machine.execRfree t a s
  | .sealR t d a => Sys2Proof.Machine.execSealR t d a s
  | .unsealR t a => Sys2Proof.Machine.execUnsealR t a s
  | .trap t a => Sys2Proof.Machine.execTrap t a s
  | .hret t => Sys2Proof.Machine.execHret t s
  | .hretDrop t => Sys2Proof.Machine.execHretDrop t s
  | .hretEnd t => Sys2Proof.Machine.execHretEnd t s
  | .scout t n a b => Sys2Proof.Machine.execScout t n a b s
  | .threshAbs t d a n => Sys2Proof.Machine.execThreshAbs t d a n s
  | .threshTop t d a n => Sys2Proof.Machine.execThreshTop t d a n s
  | .pgsel t a b => Sys2Proof.Machine.execPgsel t a b s
  | .hrow t d a => Sys2Proof.Machine.execHrow t d a s
  | .hins t d a b => Sys2Proof.Machine.execHins t d a b s
  | .hspill t d a => Sys2Proof.Machine.execHspill t d a s
  | .qprobe t d => Sys2Proof.Machine.execQprobe t d s
  | .qprobeClr t d => Sys2Proof.Machine.execQprobeClr t d s
  | .monCfg t a => Sys2Proof.Machine.execMonCfg t a s
  | .monMark t a => Sys2Proof.Machine.execMonMark t a s
  | .loadWaitExpiry region => Sys2Proof.Machine.execLoadWaitExpiry region s
  | .tdoneSettlingExpiry region => Sys2Proof.Machine.execTdoneSettlingExpiry region s
  | .unsealRequest req => Sys2Proof.Machine.execUnsealRequest req s
  | .spaceDescriptorCleared space => Sys2Proof.Machine.execSpaceDescriptorCleared space s
  | .monitorOccupancySample tile => Sys2Proof.Machine.execMonitorOccupancySample tile s
  | .unassignedCommand die => Sys2Proof.Machine.execUnassignedCommand die s

end Sys2Proof.Machine
end

