-- ==== Sys2Proof/Machine/Pick.lean ====
section
/-!
DEFINITION. One cycle of an element's picker (R131), with the decoding of the words it considers; the clock edges of a region,
which age its counts (R301, R304, R374, R377, R385, R436); what the companion does to memory; and the step of any agent.
-/

namespace Sys2Proof.Machine

/-- The outcome with its next state changed. -/
def mapNext (f : State → State) (o : Host.Outcome State Fault Refusal) : Host.Outcome State Fault Refusal :=
  match o with
  | .next s => .next (f s)
  | .fault r => .fault r
  | .refused r => .refused r

/-! ## The picker -/

/-- The word of a slot. -/
def State.wordAt (s : State) (c : Cur) : Word := Table.get (Table.get (s.elem c.elem).ctxs c.cc).slots c.slot

/-- The instruction that a slot holds; none where its word is the empty slot or no instruction. -/
noncomputable def State.instrAt (s : State) (c : Cur) : Option Instr :=
  match decode (s.wordAt c) with
  | .ok i => some i
  | .error _ => none

/-- A slot is ready (R129, R130). -/
noncomputable def State.readyAt (s : State) (c : Cur) : Bool :=
  match (s.instrAt c).bind Instr.form with
  | some f => slotReady (s.at c) c.elem f (s.fireAt c)
  | none => false

/-- The slots of an element's active context, in ascending order. -/
def State.slotsOf (s : State) (e : ElemId) : List Cur :=
  (List.range 32).map fun n => ⟨e, (s.regionAt e.tile).active.toNat, n⟩

/-- The ready slots of an element, in ascending order. -/
noncomputable def State.readySlots (s : State) (e : ElemId) : List Cur := (s.slotsOf e).filter s.readyAt

/-- The firing bank of a slot is the preferred one. -/
def State.preferred (s : State) (c : Cur) : Bool := (s.fireAt c).b == (s.elem c.elem).pref.toNat

/-- What the picker does in a cycle (R131). -/
inductive Pick where
  | idle
  /-- It prefers the bank of this slot from now on. -/
  | switch (c : Cur)
  /-- It fires this slot. -/
  | fire (c : Cur)
  deriving DecidableEq, Repr, Inhabited

/-- The picker's choice (R131): the lowest ready slot of the preferred bank, else the bank of the lowest ready slot. -/
noncomputable def State.pick (s : State) (e : ElemId) : Pick :=
  if !e.ok then .idle
  else match (s.readySlots e).find? s.preferred with
  | some c => .fire c
  | none =>
    match s.readySlots e with
    | c :: _ => .switch c
    | [] => .idle

/-- The element's offer of a spill record is over at the end of its cycle (R457). -/
def State.dropOffer (s : State) (e : ElemId) : State :=
  if (s.elem e).offer.isSome then s.modElem e fun x => { x with offer := none } else s

/-- Something has moved in the region of a tile (R385). -/
def State.stir (s : State) (t : TileId) : State :=
  match s.regionOf t with
  | some r => s.modRegion r fun x => { x with moved := true }
  | none => s

/-- A slot fires: the instruction that it holds runs. -/
noncomputable def State.fireSlot (s : State) (c : Cur) : Host.Outcome State Fault Refusal :=
  match s.instrAt c with
  | some i => mapNext (fun t => t.stir c.elem.tile) (exec i (s.at c))
  | none => go s

/-- One cycle of an element's picker (R131, R457). -/
noncomputable def runElement (e : ElemId) (s : State) : Host.Outcome State Fault Refusal :=
  mapNext (fun t => t.dropOffer e)
    (match s.pick e with
     | .fire c => s.fireSlot c
     | .switch c => exec (.switchCycle e) (s.at c)
     | .idle => go s)

/-! ## Movement in a region -/

/-- The tile of the element that issued a request. -/
def State.reqTile (s : State) (id : Nat) : Option TileId := (s.req? id).map fun r => r.elem.tile

/-- The tile in whose region a step moves a token or a flit, or performs an access (R385); none for every other step. -/
def Instr.movesAt (s : State) (i : Instr) : Option TileId :=
  match i with
  | .neighbourTransfer elem _ | .routeClassEntry elem | .frameEmit elem | .intakeBurst elem | .accumulatorWrite elem
  | .drainToken elem | .thresholdMask elem => some elem.tile
  | .tokenDelivery tile _ | .gatewayReject tile _ | .streamStart tile _ | .streamToken tile _ | .streamComplete tile _
  | .quarterAccept tile _ | .fifoEmit tile _ | .lineBufferEmit tile _ | .tileStoreWrite tile _ | .tileStoreRead tile _ => some tile
  | .copyCapture elem _ | .copyChunk elem _ | .copyComplete elem _ | .pageScore elem _ | .pageListWrite elem _
  | .pageStartHandover elem _ => some elem.tile
  | .releaseSend req | .translationLookup req _ | .homeAccess req _ | .responseArrival req | .ioreadCompletion req
  | .sealMark req | .unsealRequest req | .rangeUnitRequest req | .hashEngineRequest req | .frameRequest req
  | .rmwApply req => s.reqTile req
  | _ => none

/-- The request that a step carries further; none for a step that carries none, or whose request is past the gateway. -/
def Instr.carries (i : Instr) : Option Nat :=
  match i with
  | .releaseSend req | .translationLookup req _ | .homeAccess req _ | .ioreadCompletion req | .sealMark req | .unsealRequest req
  | .rangeUnitRequest req | .hashEngineRequest req | .launchCapture _ (some req) => some req
  | _ => none

/-- The request waits in its element's oq5 (R420). -/
def State.inOq5 (s : State) (id : Nat) : Bool :=
  match s.req? id with
  | some r => (s.oq5 r.elem).any fun q => q.id == id
  | none => false

/-- A step of another agent than a picker, which the package has; a slot word is no such step, and the picker alone changes its
preferred bank. -/
def runEvent (i : Instr) (s : State) : Host.Outcome State Fault Refusal :=
  match i with
  | .switchCycle _ => go s
  | _ =>
    if (i.form).isSome || !i.wf || (Instr.carries i).any s.inOq5 then go s
    else mapNext (fun t =>
      match Instr.movesAt s i with
      | some x => if t = s then t else t.stir x
      | none => t) (exec i s)

/-! ## The clock of a region -/

/-- A request whose home or unit lies outside the memory tiles and S-elements of its region (R385). -/
def Req.outside (r : Req) : Bool :=
  match r.op with
  | .rset | .rget | .rfree | .sealRange .. | .unsealRange .. | .launch _ | .ioread => true
  | .gsend _ => r.parts.any fun p => decide (p.addr < 2 ^ 52) || decide (2 ^ 60 ≤ p.addr)
  | _ => r.isHome && r.space == .g

/-- A request of a region that keeps a cycle from being still (R385): it is in flight to a home outside the region, waits at one, or
waits for its response, or the driver or the I/O agent holds it. -/
def Req.onItsWay (r : Req) : Bool :=
  r.svc.waits ||
    (match r.stage with
     | .sent | .atHome | .waiting _ => r.outside
     | .performed => true
     | .parked p => p.tr.isSome && !p.final
     | _ => false)

/-- The steps by which something of a region could move on now. -/
noncomputable def State.regionSteps (s : State) (n : Nat) : List Instr :=
  let r := s.region n
  let sbs := (List.range 8).map (BitVec.ofNat 3)
  let elems := (s.elemsOf r).flatMap fun p =>
    let e := p.1
    ((List.range 4).flatMap fun d => [Instr.neighbourTransfer e (BitVec.ofNat 2 d), .spillEnd e (BitVec.ofNat 2 d)]) ++
      [.routeClassEntry e, .frameEmit e, .intakeBurst e, .accumulatorWrite e, .drainToken e, .thresholdMask e, .loopLevelChange e,
        .switchRequestArrival e, .switchStatusArrival e] ++
      (sbs.flatMap fun k => [.copyCapture e k, .copyChunk e k, .copyComplete e k, .pageScore e k, .pageListWrite e k,
        .pageStartHandover e k]) ++
      ((List.range 16).map fun c => .controlTokenArrival e (BitVec.ofNat 4 c)) ++
      p.2.frame.spill.flatMap fun m => [.reinstatementStart m.2.elem m.1, .reinstatementEnd m.2.elem m.1]
  let tiles := (s.tilesOf r).flatMap fun p =>
    (p.2.classes.flatMap fun c => [Instr.tokenDelivery p.1 (BitVec.ofNat 6 c.1), .gatewayReject p.1 (BitVec.ofNat 6 c.1)]) ++
      p.2.ports.flatMap fun q => [.streamStart p.1 (BitVec.ofNat 4 q.1), .streamToken p.1 (BitVec.ofNat 4 q.1),
        .streamComplete p.1 (BitVec.ofNat 4 q.1)]
  let quarters := (s.mtilesOf r).flatMap fun p => (List.range 4).flatMap fun k =>
    let q := BitVec.ofNat 2 k
    [Instr.quarterAccept p.1 q, .fifoEmit p.1 q, .lineBufferEmit p.1 q, .tileStoreWrite p.1 q, .tileStoreRead p.1 q]
  let reqs := (s.reqs.filter fun q => r.hasTile q.elem.tile).flatMap fun q =>
    [Instr.releaseSend q.id, .translationLookup q.id true, .responseArrival q.id, .hashEngineRequest q.id, .frameRequest q.id,
      .rmwApply q.id, .rangeUnitRequest q.id, .sealMark q.id, .unsealRequest q.id, .sealHashEnd q.elem.tile.die, .ioreadCompletion q.id,
      .launchCapture q.elem.tile.die (some q.id)] ++ ((List.range q.parts.length).map fun k => .homeAccess q.id k) ++
      (s.reqs.map fun p => .exitCompare q.id p.id) ++ s.reqs.map fun p => .exitCompare p.id q.id
  [.retireHead n, .faultTaken n, .regionDrained n, .settlingEnd n, .stageDry n, .handlerEntry n, .handlerExit n, .regionIdle n,
    .loadTakesEffect n, .imageRejected n, .foldDrained n, .saveWritten n, .restoreWritten n, .reuseInsertion n] ++
    elems ++ tiles ++ quarters ++ reqs

/-- A step leaves the state as it is. -/
def unmoved (s : State) (o : Host.Outcome State Fault Refusal) : Bool :=
  match o with
  | .next t => t == s
  | _ => true

/-- An element has a slot that is ready, or would be with a spill record offered to it (R139, R457). -/
noncomputable def State.hasReady (s : State) (e : ElemId) : Bool :=
  match exec (.spillRecordOffer (servingElem e)) s with
  | .next t => !(t.readySlots e).isEmpty
  | _ => !(s.readySlots e).isEmpty

/-- Nothing of a region can move on: what can move does so within the window on a device, so that its timing decides nothing (R191; log
entry 7). -/
noncomputable def State.stuck (s : State) (n : Nat) : Bool :=
  let r := s.region n
  ((s.elemsOf r).all fun p => !s.hasReady p.1) &&
    (r.tiles.all fun t => (List.range 6).all fun k => (s.asksFor t k).isEmpty) &&
    (s.regionSteps n).all fun i => unmoved s (runEvent i s)

/-- The region is short (R385). -/
def State.short (s : State) (r : Region) : Bool :=
  r.done.isNone || !s.idle r || r.sw == .draining || (r.life == .loading && r.waits)

/-- The region's cycle is still (R385): no fault of it is being taken and no purge of its context is under way, and the steward that loads,
saves or restores it does not wait for the driver (log entry 7). -/
noncomputable def State.stillCycle (s : State) (n : Nat) : Bool :=
  let r := s.region n
  !r.moved && (s.reqs.all fun q => !(r.hasTile q.elem.tile && q.onItsWay && !s.inOq5 q.id)) && s.short r &&
    !s.purging r.ctxno && !s.takesNow n && !(r.svc.waits && (r.loads || r.life == .saving)) && s.stuck n

/-- The counts of a region after a clock edge: `still` and `dry` say whether the edge counts for stillness and for the stage policy, and
`drains` whether it counts for the drains of R299, R301, R335 and R380. -/
def Region.tick (r : Region) (still dry drains : Bool) : Region :=
  { r with
    clock := r.clock + 1
    swAge := if r.sw == .draining && !drains then r.swAge else r.swAge + 1
    age := if drains then r.age + 1 else r.age
    hage := r.hage + 1
    dry := if dry then r.dry + 1 else 0
    resid := if r.life = .running ∨ r.life = .finishing ∨ r.life = .folding then r.resid + 1 else r.resid
    rage := if r.life = .restoring then r.rage + 1 else r.rage
    still := if still then r.still + 1 else 0
    moved := false }

/-- A clock edge of a region's island (R301, R304, R374, R377, R385, R436), once the switch requests of the cycle are settled (R64). A
drain that could go on, and does not, is not counted: what can move does so within the window on a device (R191, R362; log entry 7). The
drain of a fold takes no stillness (R380), and in handler mode no stage is judged dry (R304). -/
noncomputable def runCycle (n : Nat) (s : State) : Host.Outcome State Fault Refusal :=
  let r := s.region n
  if !r.live || s.requestDue r then go s
  else
    let still := r.life != .folding && s.stillCycle n
    let drains := !s.purging r.ctxno && (r.moved || s.stuck n)
    let s1 := s.modRegion n fun x => x.tick still (s.stageDry r && r.hphase == .off) drains
    go { s1 with reqs := s1.reqs.map fun q =>
          if r.hasTile q.elem.tile && q.stage == .twin && !s.isUnheld q then { q with age := q.age + 1 } else q }

/-! ## The routers -/

/-- An output of a tile's router grants one flit (R383). -/
def runRouter (t : TileId) (out : Nat) (s : State) : Host.Outcome State Fault Refusal :=
  if out < routerPorts t then
    let z := s.grantOutput t out
    go (if z.tiles = s.tiles then z else z.stir t)
  else go s

/-! ## Outside the package -/

/-- The companion's processors store a byte (R210, R240), or a remote device one of its own (R241). -/
def runStore (addr : Nat) (v : Byte) (s : State) : Host.Outcome State Fault Refusal :=
  if addr < 2 ^ 52 ∨ 2 ^ 60 ≤ addr then go (s.storeBytes addr [v] .clean) else go s

/-- An uncorrectable error of storage poisons the granule that holds the bad bits (R206). -/
def runDecay (addr : Nat) (s : State) : Host.Outcome State Fault Refusal :=
  go (s.setPoison addr ((s.poisonAt addr).join .data))

/-- A storage namespace's bytes from an offset on are replaced (R119). -/
def runStorage (chan off : Nat) (bs : List Byte) (s : State) : Host.Outcome State Fault Refusal :=
  let old : List Byte := Table.get s.spaces chan
  let new := old.take off ++ List.replicate (off - old.length) 0 ++ bs ++ old.drop (off + bs.length)
  go { s with spaces := Table.set s.spaces chan new }

/-! ## Placing one word -/

/-- An element that accepts a word (Table 2.5), in tile c(0, 0) of d0. -/
def placeAt (w : Word) : ElemId :=
  let ks := match formOf w with
    | some f => f.kinds
    | none => []
  ⟨⟨0, 0, 0⟩, if ks.contains .v then 17 else if ks.contains .s then 113 else if ks.contains .a then 121
    else if ks.contains .m then 125 else 17⟩

/-- A trigger entry under which a word passes check 0x6: its queues, and those that an ordering instruction asks for, in bank 0,
with no guard. -/
def placeTrig (w : Word) : BitVec 64 :=
  let order := bits w.toNat 20 6 == 0x29
  let q := match formOf w with
    | some f => (maskOf (readsOf f ++ if order then (if w.toNat % 32 == 2 then [0, 1] else if w.toNat % 32 == 1 then [0] else []) else []),
        maskOf (fillsOf f ++ if order && w.toNat % 32 ≤ 2 then [4] else []))
    | none => (0, 0)
  BitVec.ofNat 64 (q.1.toNat + 2 ^ 15 + q.2.toNat * 2 ^ 16 + 7 * 2 ^ 38)

/-- The element that holds the word in slot 0 of cc0, as a load leaves it, with a token at the head of every queue of `inq`, a
control token on every channel and an offered spill record. -/
def placeElem (w : Word) : Elem :=
  let t := placeTrig w
  { trigs := [(w.toNat / 2 ^ 26, t)]
    ctxs := [(0, { slots := [(0, w)] })]
    iq := (queuesOf (Trig.ofWord t).inq).map fun q => (q, [.tok {}])
    ctl := (List.range 16).map fun c => (c, 1)
    offer := some 0 }

/-- A one-block region at the northwest block of d0, running cc0. -/
def placeRegion : Region := { live := true, rows := 1, cols := 1, loaded := 1, first := false }

/-- The state in which the next step is a picker cycle of the element that holds the word, in a region of its own. -/
def State.placeWord (s : State) (w : Word) : State :=
  let e := placeAt w
  { s with
    agenda := [.element e]
    regions := [(0, placeRegion)]
    elems := Table.set s.elems e.key (placeElem w)
    reqs := s.reqs.filter fun r => r.elem != e }

/-! ## The step of an agent -/

/-- The step of an agent. -/
noncomputable def runAgent (a : Agent) (s : State) : Host.Outcome State Fault Refusal :=
  match a with
  | .element e => runElement e s
  | .event i => runEvent i s
  | .cycle n => runCycle n s
  | .router t out => runRouter t out s
  | .store addr v => runStore addr v s
  | .decay addr => runDecay addr s
  | .storage chan off bs => runStorage chan off bs s

end Sys2Proof.Machine
end

