-- ==== Sys2Proof/Machine/Step.lean ====
section
/-!
DEFINITION. The step of the machine: the agent that acts, and the same instruction placed where a step fetches it.
-/

namespace Sys2Proof.Machine

/-- The agent that acts: the first of the agenda, else the one the free schedule names (log entry 1). -/
def State.nextAgent (s : State) : Agent :=
  match s.agenda with
  | a :: _ => a
  | [] => Config.nextAgent s.tick

/-- The state with the turn taken. -/
def State.turn (s : State) : State := { s with agenda := s.agenda.tail, tick := s.tick + 1 }

/-- One step of the package: one whole step of one agent. -/
noncomputable def step (s : State) : Host.Outcome State Fault Refusal := runAgent s.nextAgent s.turn

/-- The state with one slot word placed where the next step runs it (log entry 6). -/
def State.withFetchWord (s : State) (nbits w : Nat) : State := s.placeWord (BitVec.ofNat 32 (w % 2 ^ nbits))

end Sys2Proof.Machine
end

