-- ==== Sys2Proof/Safety.lean ====
section
/-!
DEFINITION. What counts as a safe run, in the terms that claims use: a machine that never stops, and the form of its data that
every step keeps.
-/

namespace Sys2Proof.Machine

/-- A step answers a next state: it neither faults nor is refused. -/
def Goes (o : Host.Outcome State Fault Refusal) : Prop := ∃ t, o = .next t

/-- The memory is in canonical form (log entry 2). -/
def State.MemOk (s : State) : Prop := Mem.wf s.mem = true

/-- A run of the machine is safe when every step from every state it meets goes on and keeps the memory's form. -/
def SafeStep (s : State) : Prop := ∃ t, step s = .next t ∧ (s.MemOk → t.MemOk)

end Sys2Proof.Machine
end

