-- ==== Sys2Proof/Certificates/Slice0/Obligations.lean ====
section
/-!
DEFINITION. The statements of the row: what the numbered rules of the spec say that decoding, the instructions, the other steps and
the whole machine do.
-/

open Sys2Proof Sys2Proof.Machine

namespace Sys2Proof.Claims

/-! ## Terms of the statements -/

/-- The fire that a word under trigger entry `t` would make in the slot that `s.cur` names. -/
abbrev fireAt (s : State) (t : BitVec 6) : Fire := fireOf s t

/-- No tag-bank fault (R418), and every source is valid and clean (R52): the fire of these sources does not trap on what it reads. -/
def Clean (s : State) (t : BitVec 6) (srcs : List Src) : Prop :=
  (fireAt s t).tagBank s = false ∧ ∀ x ∈ srcs, x.valid = true ∧ x.poison = .clean

/-- The element that fires. -/
abbrev own (s : State) : Elem := s.elem s.cur.elem

/-- The state in which the firing element has become `x` but for the end of the fire, its trigger's update and tag update, followed
by the instruction's own change of the state bits. -/
def ended (s : State) (t : BitVec 6) (upd : BitVec 8 → BitVec 8) (x : Elem) : State :=
  s.setElem s.cur.elem ((fireAt s t).finish upd x)

/-- The fire completes: it removes the heads that `srcs` pops, writes `r` to `d` in the lanes of `g`, and ends. -/
def Writes (s : State) (i : Instr) (t : BitVec 6) (d : BitVec 5) (srcs : List (BitVec 5)) (g : Mask) (r : Vec) : Prop :=
  exec i s = .next (ended s t id ((fireAt s t).writeDest g d r ((own s).popAll (popsOf srcs))))

/-- The lanes of a source. -/
def lanesOf (s : State) (t : BitVec 6) (c : BitVec 5) : Vec := ((fireAt s t).src c).val

/-- The guard of a fire. -/
def guardAt (s : State) (t : BitVec 6) : Mask := (fireAt s t).g

/-- A lane-wise result of one or two operands. -/
def each1 (op : Word → Word) (x : Vec) : Vec := Lanes.ofFn fun i => op (x.get i)
def each2 (op : Word → Word → Word) (x y : Vec) : Vec := Lanes.ofFn fun i => op (x.get i) (y.get i)

/-- The nearest number of a range. -/
def clampInt (lo hi n : Int) : Int := max lo (min hi n)

/-- A truth value as a lane. -/
def truth (b : Bool) : Word := if b then 1 else 0

end Sys2Proof.Claims

open Sys2Proof.Claims

/-! ## Decoding, encoding, stepping -/

/-- Words that the spec's worked encodings give decode to the instructions they stand for (R2.. of each chapter). -/
def Obligations.DecodeWorkedWords : Prop :=
  decode 0x2481C3FB = .ok (.addi 9 3 16 0x3FB) ∧
  decode 0x14194001 = .ok (.fwd 5 18 16) ∧
  decode 0x30CC8CA1 = .ok (.pand 12 25 3 5) ∧
  decode 0x0A02078B = .ok (.ld 2 4 1 28 1 3) ∧
  decode 0x0241A9EA = .ok (.ldf 0 3 10 15 1 1) ∧
  decode 0x1D128BA4 = .ok (.ffmaF32 7 5 2 29 0) ∧
  decode 0x0DB3044C = .ok (.mxqE4m3 3 6 1 2 0) ∧
  decode 0x06C008A3 = .ok (.sgo 1 2 5) ∧
  decode 0x12D00C21 = .ok (.cpy 4 3 1) ∧
  decode 0x1B00D201 = .ok (.mma 6 1 20 16 1) ∧
  decode 0x23204C04 = .ok (.mdrnBf16 8 0 19 0) ∧
  decode 0x0F600801 = .ok (.launch 3 2) ∧
  decode 0x03900002 = .ok (.hret 0) ∧
  decode 0x27CB8862 = .ok (.hins 9 23 2 3)

/-- The decoder gives back every well-formed instruction from its word. -/
def Obligations.DecodeEncode : Prop := ∀ (i : Instr) (w : Word), i.wf = true → encode i = some w → decode w = .ok i

/-- A word that decodes to an instruction is the word of that instruction: each instruction has one word, and no bit of a word is
dropped. -/
def Obligations.EncodeDecode : Prop := ∀ (w : Word) (i : Instr), decode w = .ok i → encode i = some w

/-- The loader's and the picker's reading of a word is the form of the instruction that it decodes to. -/
def Obligations.FormOfDecoded : Prop := ∀ (w : Word) (i : Instr), decode w = .ok i → formOf w = i.form

/-- The empty slot is no instruction (R30), and neither is a word of an unassigned or reserved major (check 0x1). -/
def Obligations.NoInstruction : Prop :=
  decode 0 = .error .emptySlot ∧
  ∀ w : Word, 0x3E ≤ (fieldsOf w).major.toNat ∨ (fieldsOf w).major = 0x34 ∨ (fieldsOf w).major = 0x35 →
    decode w = .error .unassignedMajor

/-- A step in which the picker of an element fires a slot runs the instruction that the slot's word decodes to. -/
def Obligations.StepRunsDecoded : Prop :=
  ∀ (s : State) (e : ElemId) (c : Cur) (i : Instr), s.nextAgent = .element e → s.turn.pick e = .fire c →
    decode (s.turn.wordAt c) = .ok i →
    step s = mapNext (fun z => (z.stir c.elem.tile).dropOffer e) (exec i (s.turn.at c))

/-- A step of another agent runs its row of the table, but for one that would carry a request that waits in its element's oq5 (R217,
R420); what it moves counts for stillness (R385). -/
def Obligations.StepRunsEvent : Prop :=
  ∀ (s t : State) (i : Instr), s.nextAgent = .event i → i.form = none → i.wf = true → (∀ e, i ≠ .switchCycle e) →
    (∀ n, Instr.carries i = some n → s.turn.inOq5 n = false) → exec i s.turn = .next t →
    step s = .next (match Instr.movesAt s.turn i with
      | some x => if t = s.turn then t else t.stir x
      | none => t)

/-- The picker fires the lowest ready slot of the preferred bank; only where no ready slot has that bank does it prefer the bank
of the lowest ready slot; it does nothing where no slot is ready (R131). -/
def Sys2Proof.Claims.PickerChooses : Prop :=
  ∀ (s : State) (e : ElemId), e.ok = true →
    (∀ c, s.pick e = .fire c →
      c ∈ s.slotsOf e ∧ s.readyAt c = true ∧ s.preferred c = true ∧
        ∀ k ∈ s.slotsOf e, k.slot < c.slot → s.readyAt k = true → s.preferred k = false) ∧
    (∀ c, s.pick e = .switch c →
      c ∈ s.slotsOf e ∧ s.readyAt c = true ∧ (∀ k ∈ s.slotsOf e, s.readyAt k = true → s.preferred k = false) ∧
        ∀ k ∈ s.slotsOf e, k.slot < c.slot → s.readyAt k = false) ∧
    (s.pick e = .idle → ∀ k ∈ s.slotsOf e, s.readyAt k = false)

/-- A quiesced region fires nothing (R300). -/
def Sys2Proof.Claims.QuiescedFiresNothing : Prop :=
  ∀ (s : State) (e : ElemId), (s.regionAt e.tile).quiet = true → s.pick e = .idle

/-- The picker of an element (R131), and the quiesced region (R300). -/
def Obligations.PickerFires : Prop := PickerChooses ∧ QuiescedFiresNothing

/-! ## The whole machine -/

/-- The machine never stops: every step from every state answers a next state. -/
def Obligations.StepNeverStops : Prop := ∀ s : State, ∃ t, step s = .next t

/-- Every step keeps the memory in canonical form. -/
def Obligations.StepKeepsMemory : Prop := ∀ s t : State, s.MemOk → step s = .next t → t.MemOk

/-- The memory after reset is in canonical form. -/
def Obligations.ResetMemory : Prop := State.reset.MemOk

/-- Power-up leaves every die in boot state 0 and runs nothing (R447): no region, no launch, no context is known, and no space or
channel table is set. The other values of the reset state are the model's (log entries 2, 3 and 4). -/
def Obligations.ResetValues : Prop :=
  State.reset.bst = 0 ∧ State.reset.regions = [] ∧ State.reset.queue = [] ∧ State.reset.ctxs = [] ∧
    ∀ d, (State.reset.die d).spaceBase = none ∧ (State.reset.die d).chanBase = none

/-- No fire writes memory: a slot instruction changes memory only through the requests, commands and tokens that it sends. -/
def Obligations.FiresLeaveMemory : Prop :=
  ∀ (i : Instr) (s t : State), i.form.isSome = true → exec i s = .next t →
    (∀ a, t.byte a = s.byte a) ∧ t.full = s.full ∧ t.pois = s.pois

/-- No fire changes a memory tile, a router, a translation request, a seal, a die, a link, a queue of launches, a context, the stewards or any storage outside. -/
def Obligations.FiresLeavePackage : Prop :=
  ∀ (i : Instr) (s t : State), i.form.isSome = true → exec i s = .next t →
    t.mtiles = s.mtiles ∧ t.routers = s.routers ∧ t.seals = s.seals ∧ t.trans = s.trans ∧ t.dies = s.dies ∧ t.ctxs = s.ctxs ∧
      t.stewards = s.stewards ∧ t.peers = s.peers ∧ t.lost = s.lost ∧ t.bst = s.bst ∧ t.queue = s.queue ∧
      t.purges = s.purges ∧ t.islands = s.islands ∧ t.spaces = s.spaces ∧ t.netq = s.netq

/-! ## What a fire writes -/

/-- The write of lane results (R54): a register takes the guarded lanes, keeps the others where it was valid and clears them
where it was not, and becomes valid; a predicate takes whether a guarded lane is not 0 and keeps the others; an output queue
gets one token whose lanes outside the guard are 0; `vz` and `qt` discard. Nothing else of the element changes. -/
def Sys2Proof.Claims.DestinationWrite : Prop :=
  ∀ (f : Fire) (g : Mask) (d : BitVec 5) (r : Vec) (x : Elem),
    (∀ n : Nat, d.toNat = n → n < 15 →
      ((f.writeDest g d r x).bank f.b).reg n =
          { val := Lanes.ofFn fun i => if g.get i then r.get i else
              if ((x.bank f.b).reg n).valid then ((x.bank f.b).reg n).val.get i else 0
            valid := true, poison := .clean, pending := false } ∧
        (∀ m, m ≠ n → ((f.writeDest g d r x).bank f.b).reg m = (x.bank f.b).reg m) ∧
        (∀ m, ((f.writeDest g d r x).bank f.b).pred m = (x.bank f.b).pred m) ∧
        (f.writeDest g d r x).oq = x.oq) ∧
    (∀ n : Nat, d.toNat = 22 + n → n < 7 →
      ((f.writeDest g d r x).bank f.b).pred n =
          { val := Lanes.ofFn fun i => if g.get i then r.get i != 0 else ((x.bank f.b).pred n).val.get i, pending := false } ∧
        (∀ m, m ≠ n → ((f.writeDest g d r x).bank f.b).pred m = (x.bank f.b).pred m) ∧
        (∀ m, ((f.writeDest g d r x).bank f.b).reg m = (x.bank f.b).reg m) ∧
        (f.writeDest g d r x).oq = x.oq) ∧
    (∀ q : Nat, d.toNat = 16 + q → q < 6 →
      (f.writeDest g d r x).outq q =
          x.outq q ++ [.tok (f.token (Lanes.ofFn fun i => if g.get i then r.get i else 0))] ∧
        (∀ p, p ≠ q → (f.writeDest g d r x).outq p = x.outq p) ∧
        (f.writeDest g d r x).banks = x.banks) ∧
    ((d.toNat = 15 ∨ d.toNat = 29) → f.writeDest g d r x = x) ∧
    (∀ b, b ≠ f.b → (f.writeDest g d r x).bank b = x.bank b) ∧
    ((f.writeDest g d r x).bank f.b).e = (x.bank f.b).e ∧ ((f.writeDest g d r x).bank f.b).flags = (x.bank f.b).flags ∧
    (f.writeDest g d r x).iq = x.iq ∧ (f.writeDest g d r x).ctxs = x.ctxs ∧ (f.writeDest g d r x).counters = x.counters

/-- The guard of a fire (R54, R36): the lanes of the guard predicate of the firing bank as it stands before the fire, complemented
where the trigger says so; every lane where it names no guard. -/
def Sys2Proof.Claims.GuardOfFire : Prop :=
  ∀ (s : State) (t : BitVec 6) (i : Fin 8),
    let f := fireAt s t
    f.g.get i = if f.tr.gsel = 7 then true else (((own s).bank f.b).pred f.tr.gsel.toNat).val.get i != f.tr.gneg

/-- The token that a fire creates (R55): the data, the trigger's tag, no poison; head, tail and the two tags from the primary head
token, or head and tail 1 and the firing bank's current tags where the trigger names no primary input; and the context of the
element's region (R25). -/
def Sys2Proof.Claims.TokenOfFire : Prop :=
  ∀ (s : State) (t : BitVec 6) (v : Vec),
    let f := fireAt s t
    let k := (f.token v)
    k.data = v ∧ k.tag = f.tr.otag ∧ k.poison = .clean ∧ k.ctxno = (s.regionAt s.cur.elem.tile).ctxno ∧
      (∀ h, f.prim = some h → k.head = h.head ∧ k.tail = h.tail ∧ k.reqtag = h.reqtag ∧ k.itertag = h.itertag) ∧
      (f.prim = none → k.head = true ∧ k.tail = true ∧ k.reqtag = ((own s).bank f.b).reqtag ∧ k.itertag = ((own s).bank f.b).itertag)

/-- What a fire writes to each destination through its guard (R54), and the token that it creates (R55). -/
def Obligations.Writing : Prop := DestinationWrite ∧ GuardOfFire ∧ TokenOfFire

/-- A fire removes at most the head of each input queue: the head goes of a queue that some operand pops, once even where two
operands pop it, and no queue that is only peeked, or not named, loses a token (R33). -/
def Sys2Proof.Claims.PopsOnce : Prop :=
  ∀ (x : Elem) (cs : List (BitVec 5)) (q : Nat),
    (x.popAll (popsOf cs)).inq q =
      if q < 6 ∧ cs.any (fun c => c.toNat == 16 + q) then (x.inq q).tail else x.inq q

/-- A fire that traps changes no element but by halting the firing bank, and sends nothing (R53): its fault is recorded with its
cause, element, slot, bank and tags (R421). -/
def Obligations.TrapChangesNothing : Prop :=
  ∀ (s : State) (t : BitVec 6) (tr : Trap) (a b : Vec),
    let f := fireAt s t
    let z := trapFire s f tr a b
    (∀ e, e.key ≠ s.cur.elem.key → z.elem e = s.elem e) ∧
      (∀ n, n ≠ f.b → (own z).bank n = (own s).bank n) ∧
      (own z).bank f.b = { (own s).bank f.b with halted := true } ∧
      (own z).iq = (own s).iq ∧ (own z).oq = (own s).oq ∧ (own z).counters = (own s).counters ∧
      z.reqs = s.reqs ∧ z.switches = s.switches ∧ z.ctlFlight = s.ctlFlight ∧
      z.faults.length = s.faults.length + 1 ∧
      ∃ r, z.faults.getLast? = some r ∧ r.cause = tr.cause ∧ r.elem = s.cur.elem ∧ r.cc = s.cur.cc ∧ r.slot = s.cur.slot ∧
        r.trig = t.toNat ∧ r.bank = f.b ∧ r.reqtag = f.tags.1 ∧ r.itertag = f.tags.2 ∧ r.opa = a ∧ r.opb = b

/-- A fire of one of the two-operand integer instructions whose source register is not valid takes 0x01, and one that reads poison
and nothing invalid takes 0x06, or 0x0C where every poisoned source is link-lost (R52, R394). -/
def Obligations.SourceTraps : Prop :=
  ∀ i ∈ [Instr.add, .sub, .addsS32, .addsN32, .subsS32, .subsN32, .and, .or, .xor, .andn, .shl, .shr, .sra, .rotl, .minS32, .minN32,
      .maxS32, .maxN32, .mul, .mulhS32, .mulhN32, .mulwS16, .mulwN16, .ceq, .cne, .cltS32, .cleS32, .cgtS32, .cgeS32, .cltN32, .cleN32,
      .cgtN32, .cgeN32],
    ∀ (s : State) (t : BitVec 6) (d a b : BitVec 5),
      let f := fireAt s t
      let x := f.src a
      let y := f.src b
      f.tagBank s = false →
      ((x.valid = false ∨ y.valid = false) → exec (i t d a b) s = .next (trapFire s f { cause := 0x01 } x.val y.val)) ∧
      (x.valid = true → y.valid = true → (x.poison = .data ∨ y.poison = .data) →
        exec (i t d a b) s = .next (trapFire s f { cause := 0x06 } x.val y.val)) ∧
      (x.valid = true → y.valid = true → x.poison ≠ .data → y.poison ≠ .data → (x.poison = .link ∨ y.poison = .link) →
        exec (i t d a b) s = .next (trapFire s f { cause := 0x0C } x.val y.val))

/-- What the instructions of majors 0x00 to 0x1F leave as it was: every other element; every bank but the firing one; every register
and predicate of the firing bank but the one that the d field names; the sticky flags in majors 0x00 to 0x0F; the counters
outside major 0x0E; the requests and the tiles. -/
def Obligations.ElementFrame : Prop :=
  ∀ (i : Instr) (F : Form) (s z : State), i.form = some F → F.fields.major.toNat < 0x20 → exec i s = .next z →
    let f := fireAt s F.fields.trig
    (∀ e, e.key ≠ s.cur.elem.key → z.elem e = s.elem e) ∧
      (∀ n, n ≠ f.b → (own z).bank n = (own s).bank n) ∧
      (∀ n, (F.dS.isDst = true → F.fields.d.toNat ≠ n) → ((own z).bank f.b).reg n = ((own s).bank f.b).reg n) ∧
      (∀ n, (F.dS.isDst = true → F.fields.d.toNat ≠ 22 + n) → ((own z).bank f.b).pred n = ((own s).bank f.b).pred n) ∧
      (F.fields.major.toNat < 0x10 → ((own z).bank f.b).flags = ((own s).bank f.b).flags) ∧
      (F.fields.major ≠ 0x0E → (own z).counters = (own s).counters) ∧
      z.reqs = s.reqs ∧ z.tiles = s.tiles

/-- What the memory instructions, majors 0x20 to 0x2B, leave as it was at their fire: every other element, every bank but the firing
one, the value of every register and predicate (the one that d names only becomes pending, and so does q6 of an atomic), the flags
and the counters, and the requests already sent. -/
def Obligations.MemoryFireFrame : Prop :=
  ∀ (i : Instr) (F : Form) (s z : State), i.form = some F → 0x20 ≤ F.fields.major.toNat → F.fields.major.toNat < 0x2C →
    exec i s = .next z →
    let f := fireAt s F.fields.trig
    (∀ e, e.key ≠ s.cur.elem.key → z.elem e = s.elem e) ∧
      (∀ n, n ≠ f.b → (own z).bank n = (own s).bank n) ∧
      (∀ n, (((own z).bank f.b).reg n).val = (((own s).bank f.b).reg n).val ∧
        (((own z).bank f.b).reg n).valid = (((own s).bank f.b).reg n).valid ∧
        (((own z).bank f.b).reg n).poison = (((own s).bank f.b).reg n).poison) ∧
      (∀ n, (((own z).bank f.b).pred n).val = (((own s).bank f.b).pred n).val) ∧
      ((own z).bank f.b).flags = ((own s).bank f.b).flags ∧
      (own z).counters = (own s).counters ∧
      z.reqs.take s.reqs.length = s.reqs ∧ z.tiles = s.tiles

/-! ## Element instructions, majors 0x00 to 0x0F: what they write -/

/-- Integer arithmetic, logic, shifts and multiplication in every lane (R70, R72, R79): sums and differences modulo 2^32, or
clamped to the range; a shift or rotation by the second operand modulo 32; products; and the extracted bit field,
with zeros above it or with its top bit as the sign. -/
def Obligations.IntegerTwoOperand : Prop :=
  ∀ p ∈ [((Instr.add, fun x y => x + y) : (BitVec 6 → BitVec 5 → BitVec 5 → BitVec 5 → Instr) × (Word → Word → Word)),
      (.sub, fun x y => x - y),
      (.addsS32, fun x y => BitVec.ofInt 32 (clampInt (-2 ^ 31) (2 ^ 31 - 1) (x.toInt + y.toInt))),
      (.addsN32, fun x y => BitVec.ofInt 32 (clampInt 0 (2 ^ 32 - 1) ((x.toNat : Int) + y.toNat))),
      (.subsS32, fun x y => BitVec.ofInt 32 (clampInt (-2 ^ 31) (2 ^ 31 - 1) (x.toInt - y.toInt))),
      (.subsN32, fun x y => BitVec.ofInt 32 (clampInt 0 (2 ^ 32 - 1) ((x.toNat : Int) - y.toNat))),
      (.and, fun x y => x &&& y),
      (.or, fun x y => x ||| y),
      (.xor, fun x y => x ^^^ y),
      (.andn, fun x y => x &&& ~~~y),
      (.shl, fun x y => x <<< (y.toNat % 32)),
      (.shr, fun x y => x >>> (y.toNat % 32)),
      (.sra, fun x y => BitVec.sshiftRight x (y.toNat % 32)),
      (.rotl, fun x y => (x <<< (y.toNat % 32)) ||| (x >>> (32 - y.toNat % 32))),
      (.minS32, fun x y => BitVec.ofInt 32 (min x.toInt y.toInt)),
      (.minN32, fun x y => BitVec.ofNat 32 (min x.toNat y.toNat)),
      (.maxS32, fun x y => BitVec.ofInt 32 (max x.toInt y.toInt)),
      (.maxN32, fun x y => BitVec.ofNat 32 (max x.toNat y.toNat)),
      (.mul, fun x y => BitVec.ofNat 32 (x.toNat * y.toNat)),
      (.mulhS32, fun x y => (BitVec.ofInt 64 (x.toInt * y.toInt)).extractLsb' 32 32),
      (.mulhN32, fun x y => (BitVec.ofNat 64 (x.toNat * y.toNat)).extractLsb' 32 32),
      (.mulwS16, fun x y => BitVec.ofInt 32 ((x.extractLsb' 0 16).toInt * (y.extractLsb' 0 16).toInt)),
      (.mulwN16, fun x y => BitVec.ofNat 32 ((x.toNat % 65536) * (y.toNat % 65536))),
      (.bfxN32, fun x y => BitVec.ofNat 32 (x.toNat / 2 ^ (y.toNat % 32) %
        2 ^ (min (y.toNat % 32 + y.toNat / 256 % 32) 32 - y.toNat % 32))),
      (.bfxS32, fun x y =>
        let lo := y.toNat % 32
        let n := min (lo + y.toNat / 256 % 32) 32 - lo
        let v : Int := ((x.toNat / 2 ^ lo % 2 ^ n : Nat) : Int)
        if n = 0 then 0 else BitVec.ofInt 32 (if 2 * v < 2 ^ n then v else v - 2 ^ n))],
    ∀ (s : State) (t : BitVec 6) (d a b : BitVec 5), Clean s t ([a, b].map (fireAt s t).src) →
      Writes s (p.1 t d a b) t d [a, b] (guardAt s t) (each2 p.2 (lanesOf s t a) (lanesOf s t b))

/-- One operand in every lane (R67, R70, R79). -/
def Obligations.IntegerOneOperand : Prop :=
  (∀ p ∈ [((Instr.mov, fun x => x) : (BitVec 6 → BitVec 5 → BitVec 5 → Instr) × (Word → Word)),
      (.neg, fun x => -x),
      (.not, fun x => x ^^^ BitVec.allOnes 32),
      (.absS32, fun x => if x = 0x80000000 then 0x7FFFFFFF else if x.msb then -x else x),
      (.popc, fun x => BitVec.ofNat 32 ((List.range 32).countP fun i => x.getLsbD i)),
      (.clz, fun x => BitVec.ofNat 32 (((List.range 32).takeWhile fun i => !x.getMsbD i).length)),
      (.ctz, fun x => BitVec.ofNat 32 (((List.range 32).takeWhile fun i => !x.getLsbD i).length)),
      (.brev, fun x => x.reverse),
      (.bswap, fun x => x.extractLsb' 0 8 ++ x.extractLsb' 8 8 ++ x.extractLsb' 16 8 ++ x.extractLsb' 24 8)],
    ∀ (s : State) (t : BitVec 6) (d a : BitVec 5), Clean s t [(fireAt s t).src a] →
      Writes s (p.1 t d a) t d [a] (guardAt s t) (each1 p.2 (lanesOf s t a))) ∧
  (∀ (s : State) (t : BitVec 6) (d a : BitVec 5) (i : BitVec 10), Clean s t [(fireAt s t).src a] →
    Writes s (.addi t d a i) t d [a] (guardAt s t) (each1 (fun x => BitVec.ofInt 32 (x.toInt + i.toInt)) (lanesOf s t a)) ∧
    Writes s (.andi t d a i) t d [a] (guardAt s t) (each1 (fun x => x &&& i.signExtend 32) (lanesOf s t a)))

/-- Integer comparison into a predicate, an output queue or a register: 1 where the relation holds, else 0 (R73). -/
def Sys2Proof.Claims.IntegerCompare : Prop :=
  ∀ p ∈ [((Instr.ceq, fun x y => decide (x = y)) : (BitVec 6 → BitVec 5 → BitVec 5 → BitVec 5 → Instr) × (Word → Word → Bool)),
      (.cne, fun x y => decide (x ≠ y)),
      (.cltS32, fun x y => decide (x.toInt < y.toInt)),
      (.cleS32, fun x y => decide (x.toInt ≤ y.toInt)),
      (.cgtS32, fun x y => decide (y.toInt < x.toInt)),
      (.cgeS32, fun x y => decide (y.toInt ≤ x.toInt)),
      (.cltN32, fun x y => decide (x.toNat < y.toNat)),
      (.cleN32, fun x y => decide (x.toNat ≤ y.toNat)),
      (.cgtN32, fun x y => decide (y.toNat < x.toNat)),
      (.cgeN32, fun x y => decide (y.toNat ≤ x.toNat))],
    ∀ (s : State) (t : BitVec 6) (d a b : BitVec 5), Clean s t ([a, b].map (fireAt s t).src) →
      Writes s (p.1 t d a b) t d [a, b] (guardAt s t) (each2 (fun x y => truth (p.2 x y)) (lanesOf s t a) (lanesOf s t b))

/-- Predicate logic and the moves of predicates and state bits (R74, R67): the operands are predicates of the firing bank, 7 being
the one that is 1 in every lane; `pany` and `pall` answer the same in every lane. -/
def Sys2Proof.Claims.PredicateLogic : Prop :=
  (∀ p ∈ [((Instr.pand, fun x y => x && y) : (BitVec 6 → BitVec 5 → BitVec 5 → BitVec 5 → Instr) × (Bool → Bool → Bool)),
      (.por, fun x y => x || y), (.pxor, fun x y => x != y), (.pandn, fun x y => x && !y)],
    ∀ (s : State) (t : BitVec 6) (d a b : BitVec 5), Clean s t [] →
      Writes s (p.1 t d a b) t d [] (guardAt s t)
        (Lanes.ofFn fun i => truth (p.2 (((fireAt s t).predLit a).get i) (((fireAt s t).predLit b).get i)))) ∧
  (∀ (s : State) (t : BitVec 6) (d a : BitVec 5), Clean s t [] →
    Writes s (.pnot t d a) t d [] (guardAt s t) (Lanes.ofFn fun i => truth (!((fireAt s t).predLit a).get i)) ∧
    Writes s (.pany t d a) t d [] (guardAt s t) (Lanes.fill (truth (decide (∃ i, ((fireAt s t).predLit a).get i = true)))) ∧
    Writes s (.pall t d a) t d [] (guardAt s t) (Lanes.fill (truth (decide (∀ i, ((fireAt s t).predLit a).get i = true)))) ∧
    Writes s (.movp t d a) t d [] (guardAt s t)
      (Lanes.ofFn fun i => if ((fireAt s t).predLit a).get i then 0xFFFFFFFF else 0))

/-- Integer comparison and predicate logic (R73, R74, R67). -/
def Obligations.ComparesAndPredicates : Prop := IntegerCompare ∧ PredicateLogic

/-- Moves of state bits, of a token's sideband, of immediates, of the counters and of the sticky flags (R67, R68, R69, R77, R78,
R187): `crd` writes the four values to lanes 0 to 3 and the four indices to lanes 4 to 7. -/
def Sys2Proof.Claims.MovesAndReads : Prop :=
  ∀ (s : State) (t : BitVec 6) (d a : BitVec 5) (i : BitVec 10) (j : BitVec 15), Clean s t [] →
    let f := fireAt s t
    let h := f.headOf a
    Writes s (.mvse t d) t d [] f.g (Lanes.fill (((own s).bank f.b).e.zeroExtend 32)) ∧
    Writes s (.mvsb t d a) t d [a] f.g
      ⟨h.tag.zeroExtend 32, BitVec.ofNat 32 (h.head.toNat + 2 * h.tail.toNat + 4 * (decide (h.poison ≠ .clean)).toNat),
        h.reqtag.zeroExtend 32, h.itertag.zeroExtend 32, h.ctxno.zeroExtend 32, 0, 0, 0⟩ ∧
    Writes s (.movi t d i) t d [] f.g (Lanes.fill (BitVec.ofInt 32 i.toInt)) ∧
    Writes s (.movl t d j) t d [] f.g (Lanes.fill (BitVec.ofInt 32 j.toInt)) ∧
    Writes s (.rdflg t d) t d [] f.g (Lanes.fill (((own s).bank f.b).flags.zeroExtend 32)) ∧
    (∃ r, Writes s (.crd t d) t d [] f.g r ∧
      ∀ n : Fin 4, r.get (Fin.castLE (by decide) n) = (Table.get (own s).counters n.val).base +
          (Table.get (own s).counters n.val).idx * (Table.get (own s).counters n.val).step ∧
        r.get ⟨4 + n.val, by omega⟩ = (Table.get (own s).counters n.val).idx)

/-- Movement across lanes (R75, R76) and the choice by a predicate (R60): a broadcast, a permutation by the low three bits of each
index, a rotation, a shift that brings in 0, the guarded lanes packed downward and written whole, and `sel.qn`. -/
def Sys2Proof.Claims.LaneMovement : Prop :=
  ∀ (s : State) (t : BitVec 6) (d a b : BitVec 5) (n : BitVec 3),
    (Clean s t [(fireAt s t).src a] →
      (b.toNat < 8 →
        Writes s (.bcast t d a b) t d [a] (guardAt s t) (Lanes.ofFn fun _ => (lanesOf s t a).get (Fin.ofNat 8 b.toNat)) ∧
        Writes s (.lrot t d a b) t d [a] (guardAt s t) (Lanes.ofFn fun i => (lanesOf s t a).get (i + Fin.ofNat 8 b.toNat)) ∧
        Writes s (.lshd t d a b) t d [a] (guardAt s t)
          (Lanes.ofFn fun i => if h : i.val + b.toNat < 8 then (lanesOf s t a).get ⟨i.val + b.toNat, h⟩ else 0)) ∧
      ∃ r, Writes s (.pack t d a) t d [a] (Lanes.fill true) r ∧
        r.toList = ((laneIdx.filter fun i => (guardAt s t).get i).map fun i => (lanesOf s t a).get i) ++
          List.replicate (8 - (laneIdx.filter fun i => (guardAt s t).get i).length) 0) ∧
    (Clean s t ([a, b].map (fireAt s t).src) →
      Writes s (.perm t d a b) t d [a, b] (guardAt s t)
        (Lanes.ofFn fun i => (lanesOf s t a).get (Fin.ofNat 8 ((lanesOf s t b).get i).toNat)) ∧
      Writes s (.selQn t d a b n) t d [a, b] (guardAt s t) (Lanes.ofFn fun i =>
        if ((((own s).bank (fireAt s t).b).pred n.toNat).val.get i) then (lanesOf s t a).get i else (lanesOf s t b).get i))

/-- Moves into registers and movement across lanes (R60, R67 to R69, R75 to R78, R187). -/
def Obligations.MovesAndLanes : Prop := MovesAndReads ∧ LaneMovement

/-- `nop` changes nothing but what every fire changes; `sete` and `clre` set and clear state bits after the trigger has (R58, R59);
`deq` removes the head token of its queue (R60); `clrflg` clears the flags that its source's low six bits name (R187). -/
def Sys2Proof.Claims.ControlAndFlags : Prop :=
  ∀ (s : State) (t : BitVec 6) (a : BitVec 5),
    (Clean s t [] →
      exec (.nop t) s = .next (ended s t id (own s)) ∧
      exec (.deq t a) s = .next (ended s t id ((own s).popAll (popsOf [a])))) ∧
    (Clean s t [(fireAt s t).src a] →
      exec (.sete t a) s = .next (ended s t (fun e => e ||| (lanesOf s t a).l0.extractLsb' 0 8) ((own s).popAll (popsOf [a]))) ∧
      exec (.clre t a) s = .next (ended s t (fun e => e &&& ~~~(lanesOf s t a).l0.extractLsb' 0 8) ((own s).popAll (popsOf [a]))) ∧
      exec (.clrflg t a) s = .next (ended s t id (((own s).popAll (popsOf [a])).modBank (fireAt s t).b fun k =>
        { k with flags := k.flags &&& ~~~(lanesOf s t a).l0.extractLsb' 0 6 })))

/-- The end of a fire (R59, R25, R137): the state bits are cleared and set as the trigger says and then as the instruction does; the
current tags become those of the primary head, where the trigger names one; a free bank becomes active; registers, predicates
and flags stay. -/
def Sys2Proof.Claims.EndOfFire : Prop :=
  ∀ (s : State) (t : BitVec 6) (upd : BitVec 8 → BitVec 8) (x : Elem),
    let f := fireAt s t
    let old := x.bank f.b
    let new := (f.finish upd x).bank f.b
    new.e = upd ((old.e &&& ~~~f.tr.sclr) ||| f.tr.sset) ∧
      (∀ h, f.prim = some h → new.reqtag = h.reqtag ∧ new.itertag = h.itertag) ∧
      (f.prim = none → new.reqtag = old.reqtag ∧ new.itertag = old.itertag) ∧
      (old.st = .free → new.st = .active) ∧ (old.st ≠ .free → new.st = old.st) ∧
      new.regs = old.regs ∧ new.preds = old.preds ∧ new.flags = old.flags ∧
      (∀ b, b ≠ f.b → (f.finish upd x).bank b = x.bank b) ∧ (f.finish upd x).iq = x.iq ∧ (f.finish upd x).oq = x.oq

/-- The end of a fire (R25, R59, R137), and what it removes from the input queues (R33). -/
def Obligations.EndsAndPops : Prop := EndOfFire ∧ PopsOnce

/-- `fwd` moves the head token of its queue to its output with every field, poison too; `fwd.t` changes the tag alone (R61). -/
def Sys2Proof.Claims.ForwardMovesToken : Prop :=
  ∀ (s : State) (t : BitVec 6) (d a : BitVec 5) (q p : Nat) (h : Tok), a.toNat = 16 + q → q < 6 → d.toNat = 16 + p → p < 5 →
    (own s).head q = some h → (fireAt s t).tagBank s = false →
    exec (.fwd t d a) s = .next (ended s t id (((own s).pop q).pushOut p (.tok h))) ∧
      exec (.fwdT t d a) s = .next (ended s t id (((own s).pop q).pushOut p (.tok { h with tag := (fireAt s t).tr.otag })))

/-- Element control and channel steering (R58, R60, R61, R187). -/
def Obligations.ControlAndMoves : Prop := ControlAndFlags ∧ ForwardMovesToken

/-- `cfgsw` and `cfgsw.cc` send one switch request that names the configuration and make the predicate that d names pending (R63);
it reaches the controller 4 cycles and a hop for each tile to the region's origin later (R303). With d = `qt` it is sent all the same and
no predicate becomes pending. Outside handler mode, in a context with trap handling, configuration 3 is privileged instead: the fire takes
0x10. -/
def Sys2Proof.Claims.SwitchRequest : Prop :=
  ∀ (s : State) (t : BitVec 6) (d a : BitVec 5) (c : BitVec 2),
    let f := fireAt s t
    let r := s.regionAt s.cur.elem.tile
    let code := (f.src a).val.l0.extractLsb' 0 2
    let sent := fun (x : Elem) (k : BitVec 2) =>
      let z := ended s t id x
      { z with switches := s.switches ++ [{ elem := s.cur.elem, bank := f.b, epoch := ((own s).bank f.b).epoch, dest := d, guard := f.g
                                            target := k, due := r.clock + 4 + r.hops s.cur.elem.tile }] }
    let waits := fun (n : Nat) (x : Elem) => x.modBank f.b fun y => y.setPred n { y.pred n with pending := true }
    let x := (own s).popAll (popsOf [a])
    let free := fun (k : BitVec 2) => r.handler = true ∨ k ≠ 3 ∨ s.th r.ctxno = false
    (∀ n, d.toNat = 22 + n → n < 7 →
      (Clean s t [f.src a] → free code → exec (.cfgsw t d a) s = .next (sent (waits n x) code)) ∧
      (Clean s t [] → free c → exec (.cfgswCc t d c) s = .next (sent (waits n (own s)) c))) ∧
    (d.toNat = 29 →
      (Clean s t [f.src a] → free code → exec (.cfgsw t d a) s = .next (sent x code)) ∧
      (Clean s t [] → free c → exec (.cfgswCc t d c) s = .next (sent (own s) c))) ∧
    (f.bk.waive = none → r.handler = false → s.th r.ctxno = true →
      (Clean s t [f.src a] → code = 3 → exec (.cfgsw t d a) s = .next (trapFire s f { cause := 0x10 } (f.src a).val (Lanes.fill 0))) ∧
      (Clean s t [] → c = 3 → exec (.cfgswCc t d c) s = .next (trapFire s f { cause := 0x10 } (Lanes.fill 0) (Lanes.fill 0))))

/-- `ctok` sends one control token of its channel to every receiver of the region, and `cwait` consumes one of its channel (R66). -/
def Sys2Proof.Claims.ControlTokens : Prop :=
  ∀ (s : State) (t : BitVec 6) (b : BitVec 5), Clean s t [] →
    exec (.ctok t b) s = .next
      (let z := ended s t id (own s)
       { z with ctlFlight := s.ctlFlight ++ (z.receivers (fireAt s t).rid b.toNat).map fun e => (e, b.toNat) }) ∧
    exec (.cwait t b) s = .next (ended s t id { own s with ctl := Table.set (own s).ctl b.toNat (Table.get (own s).ctl b.toNat - 1) })

/-- The switch requests and the control tokens that fires send (R63, R66). -/
def Obligations.SwitchesAndControl : Prop := SwitchRequest ∧ ControlTokens

/-- One step of the counters of a list, which chain in its order: the element, and whether the last of the chain wrapped (R78). -/
def Sys2Proof.Claims.stepFrom (x : Elem) : List Nat → Elem × Bool
  | [] => (x, true)
  | j :: more =>
    let c := Table.get x.counters j
    let wraps := c.idx + 1 == c.n
    let y : Elem := { x with counters := Table.set x.counters j { c with idx := if wraps then 0 else c.idx + 1 } }
    if !wraps then (y, false) else if c.chain && !more.isEmpty then Sys2Proof.Claims.stepFrom y more else (y, true)

/-- `cset` loads a counter from lanes 0 to 3 of its source, its index 0; `cstep` advances the index of a counter and, where that
wraps, of the next one it chains to, counter 3 chaining to none; it writes whether the last one of the chain wrapped (R77, R78). -/
def Obligations.CounterStep : Prop :=
  ∀ (s : State) (t : BitVec 6) (d a b : BitVec 5),
    (Clean s t [(fireAt s t).src a] →
      let loaded : Counter :=
        { base := (lanesOf s t a).l0, n := (lanesOf s t a).l1, step := (lanesOf s t a).l2, idx := 0
          chain := (lanesOf s t a).l3.getLsbD 0 }
      let x := (own s).popAll (popsOf [a])
      exec (.cset t d a) s = .next (ended s t id { x with counters := Table.set x.counters d.toNat loaded })) ∧
    (Clean s t [] → b.toNat < 4 →
      let r := stepFrom (own s) ([0, 1, 2, 3].drop b.toNat)
      exec (.cstep t d b) s = .next (ended s t id ((fireAt s t).writeDest (guardAt s t) d (Lanes.fill (truth r.2)) r.1)))

/-! ## Vector, conversion and special-function instructions, majors 0x10 to 0x1F -/

namespace Sys2Proof.Claims

/-- The flags that the guarded lanes raise (R163). -/
def raisedIn (g : Mask) (R : Lanes (Word × Flags)) : Flags :=
  (laneIdx.filter fun i => g.get i).foldl (fun a i => a ||| (R.get i).2) 0

/-- A fire of majors 0x10 to 0x1F (R169) whose lanes and flags are given: where no raised flag is in the trap mask, it writes its
lanes and adds its flags to those of the firing bank; where one is, it takes the arithmetic trap and changes nothing (R164). -/
def FloatFire (s : State) (i : Instr) (t : BitVec 6) (srcs : List (BitVec 5)) (fl : Flags) (write : Elem → Elem) : Prop :=
  let f := fireAt s t
  let mask := s.tmask (s.regionAt s.cur.elem.tile).ctxno
  (fl &&& mask = 0 → exec i s =
    .next (ended s t id ((write ((own s).popAll (popsOf srcs))).modBank f.b fun k => { k with flags := k.flags ||| fl }))) ∧
  (fl &&& mask ≠ 0 → f.waived 0x0D = false → exec i s =
    .next (trapFire s f { cause := 0x0D, info := fl.toNat } (f.opOf srcs 0) (f.opOf srcs 1)))

/-- The same, with lane results written through the guard. -/
def FloatWrites (s : State) (i : Instr) (t : BitVec 6) (d : BitVec 5) (srcs : List (BitVec 5)) (R : Lanes (Word × Flags)) : Prop :=
  FloatFire s i t srcs (raisedIn (guardAt s t) R)
    ((fireAt s t).writeDest (guardAt s t) d (Lanes.ofFn fun i => (R.get i).1))

/-- One rounding of an exact value, with the flags of forming it, as a lane. -/
def rounded (f : Fmt) (m : Rm) (x : XVal × Flags) : Nat × Flags := ((roundTo f x.1 m).1, (roundTo f x.1 m).2 ||| x.2)

/-- A 32-bit result. -/
def lane32 (x : Nat × Flags) : Word × Flags := (BitVec.ofNat 32 x.1, x.2)

/-- Two 16-bit results in one lane. -/
def lane16 (lo hi : Nat × Flags) : Word × Flags := (BitVec.ofNat 32 (lo.1 + 65536 * hi.1), lo.2 ||| hi.2)

/-- The low and the high element of a lane. -/
def lo16 (x : Word) : Nat := x.toNat % 65536
def hi16 (x : Word) : Nat := x.toNat / 65536

/-- An operation on each 16-bit element. -/
def packed1 (op : Nat → Nat × Flags) (x : Word) : Word × Flags := lane16 (op (lo16 x)) (op (hi16 x))
def packed2 (op : Nat → Nat → Nat × Flags) (x y : Word) : Word × Flags := lane16 (op (lo16 x) (lo16 y)) (op (hi16 x) (hi16 y))
def packed3 (op : Nat → Nat → Nat → Nat × Flags) (x y z : Word) : Word × Flags :=
  lane16 (op (lo16 x) (lo16 y) (lo16 z)) (op (hi16 x) (hi16 y) (hi16 z))

/-- The exact sum, product and fused form in a format, rounded once (R173). -/
def fmtAdd (f : Fmt) (m : Rm) (x y : Nat) : Nat × Flags := rounded f m (sumX m [f.value x, f.value y])
def fmtSub (f : Fmt) (m : Rm) (x y : Nat) : Nat × Flags := rounded f m (sumX m [f.value x, (f.value y).negate])
def fmtMul (f : Fmt) (m : Rm) (x y : Nat) : Nat × Flags := rounded f m (mulX (f.value x) (f.value y))
def fmtFma (f : Fmt) (m : Rm) (np nz : Bool) (x y z : Nat) : Nat × Flags :=
  let p := mulX (f.value x) (f.value y)
  let r := sumX m [if np then p.1.negate else p.1, if nz then (f.value z).negate else f.value z]
  rounded f m (r.1, r.2 ||| p.2)

/-- The bytes of a lane, lowest first. -/
def byteList (x : Word) : List Nat := (List.range 4).map fun j => x.toNat / 2 ^ (8 * j) % 256

/-- The dot product of R175: every product and the addend summed exactly and rounded once; a NaN operand, 0 × ∞ and ∞ − ∞ give the
NaN, and only the last two, without a NaN operand, raise nv. -/
def dot (f : Fmt) (m : Rm) (xs ys : List Nat) (z : Word) : Word × Flags :=
  let ps := (xs.zip ys).map fun p => mulX (f.value p.1) (f.value p.2)
  let r := sumX m (ps.map (·.1) ++ [f32Of z])
  let hasNan := xs.any f.isNan || ys.any f.isNan || (f32Of z).isNan
  let hasBad := ps.any fun p => p.2 != 0
  lane32 (rounded Fmt.f32 m (r.1, if hasNan then 0 else if hasBad then Flags.nv else r.2))

/-- The lanes and flags of one, two and three operands; the third is the destination register, read before it is written (R170). -/
def on1 (s : State) (t : BitVec 6) (op : Word → Word × Flags) (a : BitVec 5) : Lanes (Word × Flags) :=
  Lanes.ofFn fun i => op ((lanesOf s t a).get i)
def on2 (s : State) (t : BitVec 6) (op : Word → Word → Word × Flags) (a b : BitVec 5) : Lanes (Word × Flags) :=
  Lanes.ofFn fun i => op ((lanesOf s t a).get i) ((lanesOf s t b).get i)
def on3 (s : State) (t : BitVec 6) (op : Word → Word → Word → Word × Flags) (a b d : BitVec 5) : Lanes (Word × Flags) :=
  Lanes.ofFn fun i => op ((lanesOf s t a).get i) ((lanesOf s t b).get i) ((((own s).bank (fireAt s t).b).reg d.toNat).val.get i)

/-- A result without a flag. -/
def exact (x : Word) : Word × Flags := (x, 0)

end Sys2Proof.Claims

/-- Float arithmetic in f32, in pairs of bf16 and of f16, and the dot products: the exact value of each lane or element rounded once
in the mode of the word (R165, R172, R173, R175), with the flags and the arithmetic trap of R163, R164 and R169. -/
def Obligations.FloatArithmetic : Prop :=
  ∀ (s : State) (t : BitVec 6) (d a b : BitVec 5) (m : BitVec 2),
    (Clean s t ([a, b].map (fireAt s t).src) →
      ∀ p ∈ [((Instr.faddF32, fun x y => lane32 (fmtAdd Fmt.f32 m x.toNat y.toNat)) :
            (BitVec 6 → BitVec 5 → BitVec 5 → BitVec 5 → BitVec 2 → Instr) × (Word → Word → Word × Flags)),
          (.fsubF32, fun x y => lane32 (fmtSub Fmt.f32 m x.toNat y.toNat)),
          (.fmulF32, fun x y => lane32 (fmtMul Fmt.f32 m x.toNat y.toNat)),
          (.fdivF32, fun x y => lane32 (rounded Fmt.f32 m (divX (f32Of x) (f32Of y)))),
          (.faddBf16x2, packed2 (fmtAdd Fmt.bf16 m)), (.fsubBf16x2, packed2 (fmtSub Fmt.bf16 m)),
          (.fmulBf16x2, packed2 (fmtMul Fmt.bf16 m)),
          (.faddF16x2, packed2 (fmtAdd Fmt.f16 m)), (.fsubF16x2, packed2 (fmtSub Fmt.f16 m)),
          (.fmulF16x2, packed2 (fmtMul Fmt.f16 m))],
        FloatWrites s (p.1 t d a b m) t d [a, b] (on2 s t p.2 a b)) ∧
    (Clean s t [(fireAt s t).src a] →
      FloatWrites s (.fsqrtF32 t d a m) t d [a] (on1 s t (fun x => lane32 (rounded Fmt.f32 m (sqrtX (f32Of x)))) a)) ∧
    (Clean s t [(fireAt s t).src a, (fireAt s t).src b, (fireAt s t).regSrc d.toNat] →
      (∀ p ∈ [((Instr.ffmaF32, fun x y z => lane32 (fmtFma Fmt.f32 m false false x.toNat y.toNat z.toNat)) :
            (BitVec 6 → BitVec 5 → BitVec 5 → BitVec 5 → BitVec 2 → Instr) × (Word → Word → Word → Word × Flags)),
          (.ffmsF32, fun x y z => lane32 (fmtFma Fmt.f32 m false true x.toNat y.toNat z.toNat)),
          (.ffnmaF32, fun x y z => lane32 (fmtFma Fmt.f32 m true false x.toNat y.toNat z.toNat)),
          (.ffnmsF32, fun x y z => lane32 (fmtFma Fmt.f32 m true true x.toNat y.toNat z.toNat)),
          (.ffmaBf16x2, packed3 (fmtFma Fmt.bf16 m false false)), (.ffmaF16x2, packed3 (fmtFma Fmt.f16 m false false)),
          (.fdot2Bf16, fun x y z => dot Fmt.bf16 m [lo16 x, hi16 x] [lo16 y, hi16 y] z),
          (.fdot2F16, fun x y z => dot Fmt.f16 m [lo16 x, hi16 x] [lo16 y, hi16 y] z),
          (.fdot4E4m3, fun x y z => dot Fmt.e4m3 m (byteList x) (byteList y) z),
          (.fdot4E5m2, fun x y z => dot Fmt.e5m2 m (byteList x) (byteList y) z)],
        FloatWrites s (p.1 t d a b m) t d [a, b] (on3 s t p.2 a b d)) ∧
      FloatWrites s (.idot4S8 t d a b) t d [a, b] (on3 s t (fun x y z => exact (z + BitVec.ofInt 32
        (((byteList x).zip (byteList y)).map fun p => (BitVec.ofNat 8 p.1).toInt * (BitVec.ofNat 8 p.2).toInt).sum)) a b d) ∧
      FloatWrites s (.idot4N8 t d a b) t d [a, b] (on3 s t (fun x y z => exact (z + BitVec.ofNat 32
        (((byteList x).zip (byteList y)).map fun p => p.1 * p.2).sum)) a b d))

/-- Minimum and maximum, sign operations, comparison and classification of float values (R174, R176, R177): no flag is raised, −0 lies
below +0 for `fmin` and `fmax` and equals it in a comparison, one NaN operand gives the other and two give the canonical NaN. -/
def Obligations.FloatOrderAndSign : Prop :=
  ∀ (s : State) (t : BitVec 6) (d a b : BitVec 5),
    let least := fun (f : Fmt) (x y : Nat) =>
      if f.isNan x then (if f.isNan y then f.nan.getD 0 else y) else if f.isNan y then x else if f.key y < f.key x then y else x
    let most := fun (f : Fmt) (x y : Nat) =>
      if f.isNan x then (if f.isNan y then f.nan.getD 0 else y) else if f.isNan y then x else if f.key x < f.key y then y else x
    let order := fun (x y : Word) => (f32Of x).isZero = true ∧ (f32Of y).isZero = true ∨ Fmt.f32.key x.toNat = Fmt.f32.key y.toNat
    let below := fun (x y : Word) => ¬((f32Of x).isZero = true ∧ (f32Of y).isZero = true) ∧ Fmt.f32.key x.toNat < Fmt.f32.key y.toNat
    let nan := fun (x y : Word) => (f32Of x).isNan = true ∨ (f32Of y).isNan = true
    (Clean s t ([a, b].map (fireAt s t).src) →
      (∀ p ∈ [((Instr.fminF32, fun x y => exact (BitVec.ofNat 32 (least Fmt.f32 x.toNat y.toNat))) :
            (BitVec 6 → BitVec 5 → BitVec 5 → BitVec 5 → Instr) × (Word → Word → Word × Flags)),
          (.fmaxF32, fun x y => exact (BitVec.ofNat 32 (most Fmt.f32 x.toNat y.toNat))),
          (.fsgnF32, fun x y => exact ((x &&& 0x7FFFFFFF) ||| (y &&& 0x80000000))),
          (.fminBf16x2, packed2 fun x y => (least Fmt.bf16 x y, 0)), (.fmaxBf16x2, packed2 fun x y => (most Fmt.bf16 x y, 0)),
          (.fsgnBf16x2, fun x y => exact ((x &&& 0x7FFF7FFF) ||| (y &&& 0x80008000))),
          (.fminF16x2, packed2 fun x y => (least Fmt.f16 x y, 0)), (.fmaxF16x2, packed2 fun x y => (most Fmt.f16 x y, 0)),
          (.fsgnF16x2, fun x y => exact ((x &&& 0x7FFF7FFF) ||| (y &&& 0x80008000)))],
        FloatWrites s (p.1 t d a b) t d [a, b] (on2 s t p.2 a b)) ∧
      (∀ p ∈ [((Instr.fceqF32, fun x y => ¬nan x y ∧ order x y) :
            (BitVec 6 → BitVec 5 → BitVec 5 → BitVec 5 → Instr) × (Word → Word → Prop)),
          (.fcneF32, fun x y => nan x y ∨ ¬order x y),
          (.fcltF32, fun x y => ¬nan x y ∧ below x y), (.fcleF32, fun x y => ¬nan x y ∧ (below x y ∨ order x y)),
          (.fcgtF32, fun x y => ¬nan x y ∧ below y x), (.fcgeF32, fun x y => ¬nan x y ∧ (below y x ∨ order x y)),
          (.fcunF32, fun x y => nan x y),
          (.ftestF32, fun x y => y.getLsbD (Fmt.f32.classOf x.toNat) = true)],
        ∀ r : Vec, (∀ i, r.get i = 1 ∧ p.2 ((lanesOf s t a).get i) ((lanesOf s t b).get i) ∨
              r.get i = 0 ∧ ¬p.2 ((lanesOf s t a).get i) ((lanesOf s t b).get i)) →
          Writes s (p.1 t d a b) t d [a, b] (guardAt s t) r)) ∧
    (Clean s t [(fireAt s t).src a] →
      ∀ p ∈ [((Instr.fabsF32, fun x => exact (x &&& 0x7FFFFFFF)) : (BitVec 6 → BitVec 5 → BitVec 5 → Instr) × (Word → Word × Flags)),
          (.fnegF32, fun x => exact (x ^^^ 0x80000000)),
          (.fabsBf16x2, fun x => exact (x &&& 0x7FFF7FFF)), (.fnegBf16x2, fun x => exact (x ^^^ 0x80008000)),
          (.fabsF16x2, fun x => exact (x &&& 0x7FFF7FFF)), (.fnegF16x2, fun x => exact (x ^^^ 0x80008000)),
          (.fclassF32, fun x => exact (BitVec.ofNat 32 (2 ^ Fmt.f32.classOf x.toNat))),
          (.fclassBf16x2, packed1 fun x => (2 ^ Fmt.bf16.classOf x, 0)),
          (.fclassF16x2, packed1 fun x => (2 ^ Fmt.f16.classOf x, 0))],
        FloatWrites s (p.1 t d a) t d [a] (on1 s t p.2 a))

/-- Conversions: widening of one element, exact; narrowing of two operands into a pair and between pairs, each rounded once; integers
to and from f32 (R178, R179, R161); and the stochastic conversions, whose random bits are the operand b, 16 for each
result (R180, R160): a pure task without a seed does not run those, and takes 0x08 (R410); that it does so whatever flags the fire would
raise, 0x08 coming before 0x0D, is the model's choice (log entry 47). -/
def Obligations.Conversions : Prop :=
  ∀ (s : State) (t : BitVec 6) (d a b : BitVec 5) (m : BitVec 2),
    let cv := fun (f g : Fmt) (x : Nat) => roundTo g (f.value x) m
    (Clean s t [(fireAt s t).src a] →
      (b.toNat < 2 →
        FloatWrites s (.cvtF32Bf16 t d a b) t d [a]
          (on1 s t (fun x => exact (BitVec.ofNat 32 (roundTo Fmt.f32 (Fmt.bf16.value (if b = 0 then lo16 x else hi16 x)) 0).1)) a) ∧
        FloatWrites s (.cvtF32F16 t d a b) t d [a]
          (on1 s t (fun x => exact (BitVec.ofNat 32 (roundTo Fmt.f32 (Fmt.f16.value (if b = 0 then lo16 x else hi16 x)) 0).1)) a)) ∧
      FloatWrites s (.cvtBf16x2F16x2 t d a m) t d [a] (on1 s t (packed1 (cv Fmt.f16 Fmt.bf16)) a) ∧
      FloatWrites s (.cvtF16x2Bf16x2 t d a m) t d [a] (on1 s t (packed1 (cv Fmt.bf16 Fmt.f16)) a) ∧
      FloatWrites s (.cvtS32F32 t d a m) t d [a]
        (on1 s t (fun x => (BitVec.ofInt 32 (toInt (-2 ^ 31) (2 ^ 31 - 1) (f32Of x) m).1, (toInt (-2 ^ 31) (2 ^ 31 - 1) (f32Of x) m).2)) a) ∧
      FloatWrites s (.cvtN32F32 t d a m) t d [a]
        (on1 s t (fun x => (BitVec.ofInt 32 (toInt 0 (2 ^ 32 - 1) (f32Of x) m).1, (toInt 0 (2 ^ 32 - 1) (f32Of x) m).2)) a) ∧
      FloatWrites s (.cvtF32S32 t d a m) t d [a]
        (on1 s t (fun x => lane32 (roundTo Fmt.f32 (.dy (decide (x.toInt < 0)) x.toInt.natAbs 0) m)) a) ∧
      FloatWrites s (.cvtF32N32 t d a m) t d [a] (on1 s t (fun x => lane32 (roundTo Fmt.f32 (.dy false x.toNat 0) m)) a)) ∧
    (Clean s t ([a, b].map (fireAt s t).src) →
      FloatWrites s (.cvtBf16x2F32 t d a b m) t d [a, b]
        (on2 s t (fun x y => lane16 (cv Fmt.f32 Fmt.bf16 x.toNat) (cv Fmt.f32 Fmt.bf16 y.toNat)) a b) ∧
      FloatWrites s (.cvtF16x2F32 t d a b m) t d [a, b]
        (on2 s t (fun x y => lane16 (cv Fmt.f32 Fmt.f16 x.toNat) (cv Fmt.f32 Fmt.f16 y.toNat)) a b)) ∧
    (Clean s t [(fireAt s t).src a, (fireAt s t).regSrc (a.toNat + 1), (fireAt s t).src b] → a.toNat ≤ 12 → a.toNat % 2 = 0 →
      let reg := s.regionAt s.cur.elem.tile
      ∀ p ∈ [((Instr.cvtStochBf16x2F32, Fmt.bf16, 65536) : (BitVec 6 → BitVec 5 → BitVec 5 → BitVec 5 → Instr) × Fmt × Nat),
          (.cvtStochF16x2F32, Fmt.f16, 65536), (.cvtStochE4m3x2F32, Fmt.e4m3, 256), (.cvtStochE5m2x2F32, Fmt.e5m2, 256)],
        ((reg.pure = false ∨ reg.nsc ≠ 0 ∨ (fireAt s t).waived 0x08 = true) →
          FloatWrites s (p.1 t d a b) t d [a, b] (Lanes.ofFn fun i =>
            let lo := roundStoch p.2.1 (f32Of ((lanesOf s t a).get i)) (lo16 ((lanesOf s t b).get i))
            let hi := roundStoch p.2.1 (f32Of ((((own s).bank (fireAt s t).b).reg (a.toNat + 1)).val.get i)) (hi16 ((lanesOf s t b).get i))
            (BitVec.ofNat 32 (lo.1 + p.2.2 * hi.1), lo.2 ||| hi.2))) ∧
        (reg.pure = true → reg.nsc = 0 → (fireAt s t).waived 0x08 = false →
          exec (p.1 t d a b) s =
            .next (trapFire s (fireAt s t) { cause := 0x08 } (lanesOf s t a) (lanesOf s t b))))

/-- The microscaling instructions (R182): the scale of a value, an element and its scale as f32, and a value and its scale as an
element put into its place of the destination; each for the five element formats of R181. -/
def Obligations.Microscaling : Prop :=
  ∀ (s : State) (t : BitVec 6) (d a b : BitVec 5) (m : BitVec 2),
    -- the format, its reading, the bits of an element and of its value, and the exponent of its largest value
    let rows : List (Nat × Fmt × Fmt × Nat × Nat × Int) :=
      [(0, Fmt.e4m3, Fmt.e4m3, 8, 8, 8), (1, Fmt.e5m2sat, Fmt.e5m2, 8, 8, 15), (2, Fmt.e3m2, Fmt.e3m2, 8, 6, 4),
       (3, Fmt.e2m3, Fmt.e2m3, 8, 6, 2), (4, Fmt.e2m1, Fmt.e2m1, 4, 4, 2)]
    let place := fun (w : Nat) (y : Word) => w * (y.toNat / 256 % (32 / w))
    let scale := fun (e : Int) (x : Word) =>
      match f32Of x with
      | .fin _ u k _ => if u = 0 then (0 : Word) else BitVec.ofInt 32 (clampInt 0 254 ((Nat.log2 u : Int) + k - e + 127))
      | _ => 255
    let dequant := fun (f : Fmt) (w v : Nat) (x y : Word) =>
      let u := f.value (x.toNat / 2 ^ place w y % 2 ^ v)
      lane32 (roundTo Fmt.f32 (if y.toNat % 256 = 255 then .nan else u.scale ((y.toNat % 256 : Nat) - 127)) 0)
    let quant := fun (f : Fmt) (w : Nat) (x y z : Word) =>
      let r := roundTo f (if y.toNat % 256 = 255 then .nan else (f32Of x).scale (127 - (y.toNat % 256 : Nat))) m
      let p := place w y
      ((BitVec.ofNat 32 (z.toNat % 2 ^ p + 2 ^ p * r.1 + z.toNat / 2 ^ (p + w) * 2 ^ (p + w)), r.2) : Word × Flags)
    ∀ p ∈ rows.zip [((Instr.mxscE4m3, Instr.mxdqE4m3, Instr.mxqE4m3) : (BitVec 6 → BitVec 5 → BitVec 5 → Instr) ×
          (BitVec 6 → BitVec 5 → BitVec 5 → BitVec 5 → Instr) × (BitVec 6 → BitVec 5 → BitVec 5 → BitVec 5 → BitVec 2 → Instr)),
        (.mxscE5m2, .mxdqE5m2, .mxqE5m2), (.mxscE3m2, .mxdqE3m2, .mxqE3m2), (.mxscE2m3, .mxdqE2m3, .mxqE2m3),
        (.mxscE2m1, .mxdqE2m1, .mxqE2m1)],
      (Clean s t [(fireAt s t).src a] →
        FloatWrites s (p.2.1 t d a) t d [a] (on1 s t (fun x => exact (scale p.1.2.2.2.2.2 x)) a)) ∧
      (Clean s t ([a, b].map (fireAt s t).src) →
        FloatWrites s (p.2.2.1 t d a b) t d [a, b] (on2 s t (dequant p.1.2.2.1 p.1.2.2.2.1 p.1.2.2.2.2.1) a b)) ∧
      (Clean s t [(fireAt s t).src a, (fireAt s t).src b, (fireAt s t).regSrc d.toNat] →
        FloatWrites s (p.2.2.2 t d a b m) t d [a, b] (on3 s t (quant p.1.2.1 p.1.2.2.2.1) a b d))

/-- The value of f32 encoding `n`, a positive one, as a rational number; encodings that follow on are values that follow on (R151, R152). -/
def Sys2Proof.Claims.single (n : Nat) : Rat :=
  if n / 2 ^ 23 = 0 then n * 2 ^ (-149 : Int) else (2 ^ 23 + n % 2 ^ 23 : Nat) * 2 ^ ((n / 2 ^ 23 : Nat) - 150 : Int)

/-- A finite value as a rational number. -/
def Sys2Proof.Claims.rational (g : Bool) (m : Nat) (e : Int) : Rat := (if g then -(m : Rat) else m) * 2 ^ e

/-- The functions of Table 8.9, `frcp.f32`, `frsqrt.f32`, `fexp2.f32`, `fexp.f32`, `flog2.f32`, `fsinpi.f32`, `fcospi.f32`,
`ftanh.f32` and `fsig.f32`, complete in every lane with the value and the flags of `special` (R183), whatever they are where the trap
mask is 0 (R164). The special values of `special` are those of the table: of NaN, zeros, infinities and negative operands, of small operands
under `frcp`, of operands from 128 on under `fexp2` and `fexp`, of the integers under `fexp2`, of the powers of two under `flog2`, and of the
integers and the halves between them under `fsinpi` and `fcospi`. `frcp` and `frsqrt` of every other operand are one of the two f32 values
that enclose the exact one. Every other result of functions 3 to 9 raises nx, and uf below 2^−126, and lies within the bound of Table 8.9,
less a margin of one part in 2^20, of the model's approximation of the exact value in 192 places (`exp2Fix`, `expFix`, `log2Fix`, `sinPiFix`
of the operand modulo 2, for the cosine half a turn on, `tanhX` and `sigX`), or is that approximation rounded: the bound is stated of the
approximation, not of the real function, and what the hardware returns within it is free (log entry 17). -/
def Obligations.SpecialFunctions : Prop :=
  (∀ (s : State) (t : BitVec 6) (d a : BitVec 5), Clean s t [(fireAt s t).src a] →
    ∀ p ∈ [((Instr.frcpF32, 1) : (BitVec 6 → BitVec 5 → BitVec 5 → Instr) × Nat), (.frsqrtF32, 2), (.fexp2F32, 3), (.fexpF32, 4),
        (.flog2F32, 5), (.fsinpiF32, 6), (.fcospiF32, 7), (.ftanhF32, 8), (.fsigF32, 9)],
      FloatWrites s (p.1 t d a) t d [a] (on1 s t (special p.2) a) ∧
      (s.tmask (s.regionAt s.cur.elem.tile).ctxno = 0 → ∃ z, exec (p.1 t d a) s = .next z ∧
        z = ended s t id (((fireAt s t).writeDest (guardAt s t) d (Lanes.ofFn fun i => (special p.2 ((lanesOf s t a).get i)).1)
          ((own s).popAll (popsOf [a]))).modBank (fireAt s t).b fun k =>
            { k with flags := k.flags ||| raisedIn (guardAt s t) (on1 s t (special p.2) a) }))) ∧
  (∀ (n : Nat) (w : Word), (f32Of w).isNan = true → special n w = (0x7FC00000, 0)) ∧
  special 1 0 = (0x7F800000, Flags.dz) ∧ special 1 0x80000000 = (0xFF800000, Flags.dz) ∧
  special 1 0x7F800000 = (0, 0) ∧ special 1 0xFF800000 = (0x80000000, 0) ∧
  special 2 0 = (0x7F800000, Flags.dz) ∧ special 2 0x80000000 = (0xFF800000, Flags.dz) ∧ special 2 0x7F800000 = (0, 0) ∧
  special 3 0xFF800000 = (0, 0) ∧ special 3 0x7F800000 = (0x7F800000, 0) ∧ special 4 0xFF800000 = (0, 0) ∧
  special 4 0x7F800000 = (0x7F800000, 0) ∧ special 4 0 = (0x3F800000, 0) ∧ special 4 0x80000000 = (0x3F800000, 0) ∧
  special 5 0 = (0xFF800000, Flags.dz) ∧ special 5 0x80000000 = (0xFF800000, Flags.dz) ∧ special 5 0x7F800000 = (0x7F800000, 0) ∧
  special 6 0x7F800000 = (0x7FC00000, Flags.nv) ∧ special 6 0xFF800000 = (0x7FC00000, Flags.nv) ∧
  special 7 0x7F800000 = (0x7FC00000, Flags.nv) ∧ special 7 0xFF800000 = (0x7FC00000, Flags.nv) ∧
  special 8 0 = (0, 0) ∧ special 8 0x80000000 = (0x80000000, 0) ∧ special 8 0x7F800000 = (0x3F800000, 0) ∧
  special 8 0xFF800000 = (0xBF800000, 0) ∧
  special 9 0x7F800000 = (0x3F800000, 0) ∧ special 9 0xFF800000 = (0, 0) ∧ special 9 0 = (0x3F000000, 0) ∧
  special 9 0x80000000 = (0x3F000000, 0) ∧
  (∀ w : Word, (f32Of w).isNan = false → w.msb = true → w ≠ 0x80000000 →
    special 2 w = (0x7FC00000, Flags.nv) ∧ special 5 w = (0x7FC00000, Flags.nv)) ∧
  (∀ w : Word, 0x43000000 ≤ w → w < 0x7F800000 → special 3 w = (0x7F800000, Flags.of ||| Flags.nx)) ∧
  (∀ w : Word, 0 < w → w < 0x00200000 → special 1 w = (0x7F800000, Flags.of ||| Flags.nx)) ∧
  (∀ k : Fin 277, special 3 (BitVec.ofNat 32 (roundTo Fmt.f32 (.dy (decide (k.val < 149)) ((k.val : Int) - 149).natAbs 0) 0).1) =
    (BitVec.ofNat 32 (roundTo Fmt.f32 (.dy false 1 ((k.val : Int) - 149)) 0).1, 0)) ∧
  (∀ (w : Word) (m : Nat) (e : Int), f32Of w = .fin false m e false → m = 2 ^ Nat.log2 m →
    special 5 w = (BitVec.ofNat 32 (roundTo Fmt.f32 (.dy (decide ((Nat.log2 m : Int) + e < 0)) ((Nat.log2 m : Int) + e).natAbs 0) 0).1, 0)) ∧
  (∀ (w : Word) (g : Bool) (m : Nat) (e : Int), f32Of w = .fin g m e false → m ≠ 0 → -128 ≤ (Nat.log2 m : Int) + e →
    ∃ r ∈ [(2 : Rm), 3], (special 1 w).1 = BitVec.ofNat 32 (roundTo Fmt.f32 (divX (.dy false 1 0) (f32Of w)).1 r).1) ∧
  (∀ w : Word, 0x80000000 < w → w < 0x80200000 → special 1 w = (0xFF800000, Flags.of ||| Flags.nx)) ∧
  (∀ w : Word, 0x43000000 ≤ w → w < 0x7F800000 → special 4 w = (0x7F800000, Flags.of ||| Flags.nx)) ∧
  (∀ (w : Word) (m : Nat) (e : Int), f32Of w = .fin false m e false → m ≠ 0 →
    let x := rational false m e
    let n := (special 2 w).1.toNat
    (single n ^ 2 * x ≤ 1 ∧ 1 < single (n + 1) ^ 2 * x) ∨ (1 ≤ single n ^ 2 * x ∧ single (n - 1) ^ 2 * x < 1)) ∧
  (∀ (w : Word) (g : Bool) (m : Nat) (e k : Int), f32Of w = .fin g m e false →
    (rational g m e = k → special 6 w = (if g then 0x80000000 else 0, 0) ∧
      special 7 w = (if k % 2 = 0 then 0x3F800000 else 0xBF800000, 0)) ∧
    (rational g m e = k + 1 / 2 → special 6 w = (if k % 2 = 0 then 0x3F800000 else 0xBF800000, 0) ∧ special 7 w = (0, 0))) ∧
  special 3 0 = (0x3F800000, 0) ∧ special 3 0x80000000 = (0x3F800000, 0) ∧
  (∀ (w : Word) (g : Bool) (m : Nat) (e : Int), f32Of w = .fin g m e false → m ≠ 0 →
    let x := f32Of w
    let large := g = false ∧ 7 ≤ (Nat.log2 m : Int) + e
    (¬large → (∀ k : Int, rational g m e = k → k < -149) →
      special 3 w = specialFree 3 w (.dy false (exp2Fix (fixOf x)).1 (exp2Fix (fixOf x)).2)) ∧
    (¬large → special 4 w = specialFree 4 w (.dy false (expFix x).1 (expFix x).2)) ∧
    (g = false → m ≠ 2 ^ Nat.log2 m → special 5 w = specialFree 5 w (ofFix (log2Fix m e))) ∧
    ((∀ k : Int, rational g m e ≠ k / 2) →
      special 6 w = specialFree 6 w (ofFix (sinPiFix (mod2Fix x))) ∧
      special 7 w = specialFree 7 w (ofFix (sinPiFix ((mod2Fix x + 2 ^ (spPlaces - 1)) % (2 * 2 ^ spPlaces))))) ∧
    special 8 w = specialFree 8 w (tanhX x) ∧ special 9 w = specialFree 9 w (sigX x)) ∧
  (∀ (n : Nat) (w : Word) (x : XVal), let r := (specialFree n w x).1
    (specialFree n w x).2 &&& Flags.nx = Flags.nx ∧
    (specialFree n w x).2 &&& Flags.uf = (if r.toNat % 2 ^ 31 < 2 ^ 23 then Flags.uf else 0) ∧
      (r = BitVec.ofNat 32 (roundTo Fmt.f32 x 0).1 ∨
        leAt (distX (f32Of r) x).1 (distX (f32Of r) x).2 (specialBound n (f32Of w) x).1 (specialBound n (f32Of w) x).2 = true))

/-- Exponent, significand and scaling (R187): `fgetexp` and `fmant` take an f32 value apart by its fields, so that a finite value is
its significand times 2 to its exponent, and raise no flag; `fscl` rounds once the value times 2 to the integer operand. -/
def Obligations.ExponentAndScale : Prop :=
  ∀ (s : State) (t : BitVec 6) (d a b : BitVec 5) (m : BitVec 2),
    let E := fun (x : Word) => (x.toNat / 2 ^ 23 % 256 : Nat)
    let M := fun (x : Word) => (x.toNat % 2 ^ 23 : Nat)
    let S := fun (x : Word) => (x.toNat / 2 ^ 31 * 2 ^ 31 : Nat)
    (Clean s t [(fireAt s t).src a] →
      FloatWrites s (.fgetexpF32 t d a) t d [a] (on1 s t (fun x => exact
        (if E x = 255 then 0x7FFFFFFF else if E x ≠ 0 then BitVec.ofInt 32 ((E x : Nat) - 127 : Int)
          else if M x = 0 then 0x80000000 else BitVec.ofInt 32 ((Nat.log2 (M x) : Int) - 149))) a) ∧
      FloatWrites s (.fmantF32 t d a) t d [a] (on1 s t (fun x => exact
        (if E x = 255 then (if M x = 0 then x else 0x7FC00000)
          else if E x ≠ 0 then BitVec.ofNat 32 (S x + 127 * 2 ^ 23 + M x)
          else if M x = 0 then x else BitVec.ofNat 32 (S x + 126 * 2 ^ 23 + M x * 2 ^ (23 - Nat.log2 (M x))))) a)) ∧
    (Clean s t ([a, b].map (fireAt s t).src) →
      FloatWrites s (.fsclF32 t d a b m) t d [a, b] (on2 s t (fun x n =>
        if E x = 255 then exact (if M x = 0 then x else 0x7FC00000)
        else if E x = 0 ∧ M x = 0 then exact x else lane32 (roundTo Fmt.f32 ((f32Of x).scale n.toInt) m)) a b))

/-- Reductions over the guarded lanes (R184, R185, R186, R166): the result goes to every lane of the destination whatever the guard.
Integer sums are exact and then wrapped or clamped; a minimum or maximum is a present lane that bounds the others; the float
forms combine the present lanes over the tree of eight, each sum rounded once, and add their flags; a result that is a NaN is the
canonical one (R153; log entry 42). A slot whose guard is 0 in every lane does not fire a reduction (R184), so some lane is present. -/
def Obligations.Reductions : Prop :=
  ∀ (s : State) (t : BitVec 6) (d a : BitVec 5) (m : BitVec 2), (∃ i, (guardAt s t).get i = true) →
    let f := fireAt s t
    let present := (laneIdx.filter fun i => (guardAt s t).get i).map fun i => (lanesOf s t a).get i
    let all := fun (i : Instr) (srcs : List (BitVec 5)) (r : Word × Flags) =>
      FloatFire s i t srcs r.2 (f.writeDest (Lanes.fill true) d (Lanes.fill r.1))
    let canon := fun (w : Word) => if (f32Of w).isNan then 0x7FC00000 else w
    let tree := fun (g : Word → Word) (op : Nat → Nat → Nat) =>
      canon ((tree8 (fun x y : Word => BitVec.ofNat 32 (op x.toNat y.toNat))
        (Lanes.ofFn fun i => if (guardAt s t).get i then some (g ((lanesOf s t a).get i)) else none)).getD 0)
    (Clean s t [f.src a] →
      all (.iradd t d a) [a] (BitVec.ofNat 32 (present.map BitVec.toNat).sum, 0) ∧
      all (.iraddsS32 t d a) [a] (BitVec.ofInt 32 (clampInt (-2 ^ 31) (2 ^ 31 - 1) (present.map BitVec.toInt).sum), 0) ∧
      all (.iraddsN32 t d a) [a] (BitVec.ofNat 32 (min (present.map BitVec.toNat).sum (2 ^ 32 - 1)), 0) ∧
      (∀ r ∈ present,
        ((∀ x ∈ present, r.toInt ≤ x.toInt) → all (.irminS32 t d a) [a] (r, 0)) ∧
        ((∀ x ∈ present, x.toInt ≤ r.toInt) → all (.irmaxS32 t d a) [a] (r, 0)) ∧
        ((∀ x ∈ present, r.toNat ≤ x.toNat) → all (.irminN32 t d a) [a] (r, 0)) ∧
        ((∀ x ∈ present, x.toNat ≤ r.toNat) → all (.irmaxN32 t d a) [a] (r, 0))) ∧
      all (.irand t d a) [a] (present.foldl (· &&& ·) (BitVec.allOnes 32), 0) ∧
      all (.iror t d a) [a] (present.foldl (· ||| ·) 0, 0) ∧
      all (.irxor t d a) [a] (present.foldl (· ^^^ ·) 0, 0) ∧
      all (.frmaxF32 t d a) [a] (tree id (fminmax Fmt.f32 true), 0) ∧
      all (.frminF32 t d a) [a] (tree id (fminmax Fmt.f32 false), 0) ∧
      all (.frmaxaF32 t d a) [a] (tree (fun x => x &&& 0x7FFFFFFF) (fminmax Fmt.f32 true), 0) ∧
      all (.fraddF32 t d a m) [a]
        (Prod.map canon id <| (tree8 (fun (x y : Word × Flags) =>
            ((lane32 (fmtAdd Fmt.f32 m x.1.toNat y.1.toNat)).1, (fmtAdd Fmt.f32 m x.1.toNat y.1.toNat).2 ||| x.2 ||| y.2))
          (Lanes.ofFn fun i => if (guardAt s t).get i then some ((lanesOf s t a).get i, 0) else none)).getD (0, 0))) ∧
    (Clean s t [] →
      all (.ircnt t d a) [] (BitVec.ofNat 32 (laneIdx.countP fun i => (guardAt s t).get i && (f.predLit a).get i), 0))

/-- A value that a format represents is rounded to itself in every mode, without a flag (R158): every encoding of every format that
is not a NaN. -/
def Sys2Proof.Claims.RoundingExact : Prop :=
  ∀ f ∈ [Fmt.f32, Fmt.bf16, Fmt.f16, Fmt.e4m3, Fmt.e5m2, Fmt.e3m2, Fmt.e2m3, Fmt.e2m1],
    ∀ (n : Nat) (m : Rm), n < 2 ^ (f.signAt + 1) → f.isNan n = false → roundTo f (f.value n) m = (n, 0)

/-- The magnitude that encoding `n` of a format has; from the largest finite encoding on it goes on as if the exponent had no bound, as
R158 judges overflow. -/
def Sys2Proof.Claims.magnitude (f : Fmt) (n : Nat) : Rat :=
  if n / 2 ^ f.p = 0 then n * 2 ^ (1 - (f.bias : Int) - f.p)
  else (2 ^ f.p + n % 2 ^ f.p : Nat) * 2 ^ ((n / 2 ^ f.p : Nat) - (f.bias : Int) - f.p)

/-- Rounding (R158): a zero stays a zero with its sign. A value between two neighbours `n` and `n + 1` becomes the one that the mode takes:
in round to nearest the nearer, of two equally near the even one; in the other modes the one toward zero, toward −∞ or toward +∞. It raises
nx where it is not exact, and uf too where it is below the smallest normal value before or after. Where what it becomes lies above the largest
finite value, it overflows: in a format with infinity to infinity, or to the largest finite value where the mode rounds toward zero there,
with of and nx; else to the largest finite value of its sign with sat and nx. -/
def Sys2Proof.Claims.RoundingEdges : Prop :=
  ∀ f ∈ [Fmt.f32, Fmt.bf16, Fmt.f16, Fmt.e4m3, Fmt.e5m2, Fmt.e3m2, Fmt.e2m3, Fmt.e2m1],
    (∀ (g : Bool) (e : Int) (m : Rm), roundTo f (.dy g 0 e) m = (f.signed g 0, 0)) ∧
    (∀ (g : Bool) (u : Nat) (e : Int) (m : Rm), u ≠ 0 → (2 : Int) ^ f.eb ≤ (Nat.log2 u : Int) + e →
      roundTo f (.dy g u e) m =
        if f.hasInf then
          (f.signed g (if m = 0 ∨ m = 2 ∧ g = true ∨ m = 3 ∧ g = false then f.infEnc else f.maxEnc), Flags.nx ||| Flags.of)
        else (f.signed g f.maxEnc, Flags.nx ||| Flags.sat)) ∧
    (∀ (g : Bool) (u : Nat) (e : Int) (m : Rm) (n : Nat), u ≠ 0 →
      let x : Rat := u * 2 ^ e
      magnitude f n ≤ x → x < magnitude f (n + 1) →
      let up := if m = 0 then magnitude f n + magnitude f (n + 1) < 2 * x ∨ (magnitude f n + magnitude f (n + 1) = 2 * x ∧ n % 2 = 1)
        else x ≠ magnitude f n ∧ ((m = 2 ∧ g = true) ∨ (m = 3 ∧ g = false))
      ∀ k, ((up ∧ k = n + 1) ∨ (¬up ∧ k = n)) →
        (k ≤ f.maxEnc → roundTo f (.dy g u e) m = (f.signed g k,
          if x = magnitude f n then 0 else if k < 2 ^ f.p ∨ x < magnitude f (2 ^ f.p) then Flags.nx ||| Flags.uf else Flags.nx)) ∧
        (f.maxEnc < k → roundTo f (.dy g u e) m =
          if f.hasInf then
            (f.signed g (if m = 0 ∨ m = 2 ∧ g = true ∨ m = 3 ∧ g = false then f.infEnc else f.maxEnc), Flags.nx ||| Flags.of)
          else (f.signed g f.maxEnc, Flags.nx ||| Flags.sat)))

/-- Rounding to an integer and stochastic rounding (R160, R161). `to_int` rounds to one of the two integers around the value, in the mode of the
conversion, and raises nx where the value is no integer; outside the range it clamps, with sat and nx; a NaN is 0 with nv, and an infinity
the bound of its sign with sat. `round_stoch` of a value between two neighbours is the upper one in magnitude exactly where the first 16 bits of
the fraction and the random number add to 65,536 or more; the special values round toward zero, and one above the largest finite
value as R158 rounds it to nearest even. -/
def Sys2Proof.Claims.RoundingOthers : Prop :=
  (∀ (lo hi : Int) (m : Rm), toInt lo hi .nan m = (0, Flags.nv) ∧
    (∀ g, toInt lo hi (.inf g) m = (if g then lo else hi, Flags.sat)) ∧
    ∀ (g : Bool) (u n k : Nat) (e : Int),
      let x : Rat := u * 2 ^ e
      (n : Rat) ≤ x → x < (n : Rat) + 1 →
      let up := if m = 0 then 2 * (n : Rat) + 1 < 2 * x ∨ (2 * (n : Rat) + 1 = 2 * x ∧ n % 2 = 1)
        else x ≠ n ∧ ((m = 2 ∧ g = true) ∨ (m = 3 ∧ g = false))
      ((up ∧ k = n + 1) ∨ (¬up ∧ k = n)) →
      let v : Int := if g then -(k : Int) else k
      (v < lo → toInt lo hi (.dy g u e) m = (lo, Flags.sat ||| Flags.nx)) ∧
      (lo ≤ v → hi < v → toInt lo hi (.dy g u e) m = (hi, Flags.sat ||| Flags.nx)) ∧
      (lo ≤ v → v ≤ hi → toInt lo hi (.dy g u e) m = (v, if x = n then 0 else Flags.nx))) ∧
  ∀ f ∈ [Fmt.bf16, Fmt.f16, Fmt.e4m3, Fmt.e5m2], ∀ r : Nat, r < 65536 →
    roundStoch f .nan r = roundTo f .nan 1 ∧ (∀ g, roundStoch f (.inf g) r = roundTo f (.inf g) 1) ∧
    (∀ g e, roundStoch f (.dy g 0 e) r = (f.signed g 0, 0)) ∧
    ∀ (g : Bool) (u n : Nat) (e : Int), u ≠ 0 →
      let x : Rat := u * 2 ^ e
      magnitude f n ≤ x → x < magnitude f (n + 1) →
      ((f.maxEnc < n ∨ (n = f.maxEnc ∧ x ≠ magnitude f n)) → roundStoch f (.dy g u e) r = roundTo f (.dy g u e) 0) ∧
      ∀ t k : Nat, n ≤ f.maxEnc → (n = f.maxEnc → x = magnitude f n) →
        (t : Rat) ≤ (x - magnitude f n) / (magnitude f (n + 1) - magnitude f n) * 65536 →
        (x - magnitude f n) / (magnitude f (n + 1) - magnitude f n) * 65536 < (t : Rat) + 1 →
        ((65536 ≤ t + r ∧ k = n + 1) ∨ (t + r < 65536 ∧ k = n)) →
        roundStoch f (.dy g u e) r = (f.signed g k,
          if magnitude f k = x then 0 else if k < 2 ^ f.p ∨ x < magnitude f (2 ^ f.p) then Flags.nx ||| Flags.uf else Flags.nx)

/-- Rounding to a format (R158): what it leaves exact, the two neighbours between which it rounds, ties, flags and overflows; and rounding
to an integer and stochastic rounding (R160, R161). -/
def Obligations.Rounding : Prop := RoundingExact ∧ RoundingEdges ∧ RoundingOthers

/-! ## Memory, atomic and synchronisation instructions at the fire, majors 0x20 to 0x2B -/

namespace Sys2Proof.Claims

/-- Every byte of a range is an address that the accessing tile reaches: below 2^57 in `.g` (R82), no hole in `.x` or `.m` (R83). -/
def Reaches (s : State) (sp : Space) (a len : Nat) : Prop :=
  match sp with
  | .g => a + len ≤ 2 ^ 57
  | _ => ∀ k, k < len → (s.localByte s.cur.elem.tile sp (a + k)).isSome = true

/-- The fire completes and sends the request `q`: its named queues and its ordering inputs lose their heads, its destination and its
ordering outputs are reserved (R85 to R87), and `q` carries the fire's element, bank, guard, tags and ordering token. -/
def Sends (s : State) (i : Instr) (t : BitVec 6) (d : BitVec 5) (srcs : List (BitVec 5)) (q6 : Bool) (ok : Req → Prop) : Prop :=
  let f := fireAt s t
  ∃ q : Req, ok q ∧ q.id = s.nextId ∧ q.elem = s.cur.elem ∧ q.bank = f.b ∧ q.epoch = ((own s).bank f.b).epoch ∧ q.guard = f.g ∧
    q.dest = d ∧ q.ctxno = (s.regionAt s.cur.elem.tile).ctxno ∧ q.reqtag = f.tags.1 ∧ q.itertag = f.tags.2 ∧ q.otag = f.tr.otag ∧
    q.outs = maskOf (orderOut f d) ∧ q.otok = f.orderTok (orderIn f srcs) ∧ q.image = none ∧
    exec i s = .next ((ended s t id (f.reserve s.nextId d q6
      { (own s).popAll (popsOf srcs ++ orderIn f srcs) with exits := (own s).exits + (if q.exit then 1 else 0) })).send q)

/-- An access that neither releases nor acquires. -/
def plain (q : Req) : Prop := q.release = false ∧ q.acquire = false

/-- The guarded lanes all reach their bytes. -/
def LanesReach (s : State) (t : BitVec 6) (sp : Space) (addr : Fin 8 → Nat) (w : Nat) : Prop :=
  ∀ i, (guardAt s t).get i = true → Reaches s sp (addr i) w

/-- The global base of an operand (R81). -/
def base57 (v : Vec) : Nat := v.l0.toNat + 2 ^ 32 * v.l1.toNat

/-- The destination of a load that is performed: neither a touch nor a probe (R97). -/
def isData (d : BitVec 5) : Prop := d ≠ 15 ∧ d ≠ 29

end Sys2Proof.Claims

/-- What a fire reserves for a request (R85, R86, R87): a register or predicate destination becomes pending and keeps its value; an
output queue, or iq5 for `ld … iq5`, gets one entry reserved for the request; each ordering output gets one; an atomic makes q6
pending too. -/
def Obligations.Reservations : Prop :=
  ∀ (s : State) (t : BitVec 6) (x : Elem) (id : Nat) (d : BitVec 5) (q6 : Bool),
    let f := fireAt s t
    let y := f.reserve id d q6 x
    (d.toNat < 15 → (y.bank f.b).reg d.toNat = { (x.bank f.b).reg d.toNat with pending := true }) ∧
    (∀ n, n ≠ d.toNat → (y.bank f.b).reg n = (x.bank f.b).reg n) ∧
    (∀ n, d.toNat = 22 + n → n < 7 → ((y.bank f.b).pred n).pending = true) ∧
    (q6 = true → ((y.bank f.b).pred 6).pending = true) ∧
    (∀ n, ((y.bank f.b).pred n).val = ((x.bank f.b).pred n).val) ∧
    (d.toNat = 21 → y.inq 5 = x.inq 5 ++ [.resv id]) ∧ (d.toNat ≠ 21 → y.iq = x.iq) ∧
    (∀ p, p < 6 → p ≠ 5 → y.outq p = x.outq p ++ (if d.toNat = 16 + p ∨ p ∈ orderOut f d then [.resv id] else []))

/-- Loads and stores (R94, R95, R97) complete where every guarded lane reaches its bytes: the request names the width, the extension
and the address of each lane: the sum of two lanes modulo 2^32 for a load of `.x` or `.m`, the lane for a store, the global base
and the signed lane for `ldg`, and the base and a multiple of the width for `stg`, an exit entry. A touch or a probe checks no
address. A global load whose base is beyond the address space takes 0x03 (R82). -/
def Obligations.LoadsAndStores : Prop :=
  ∀ (s : State) (t : BitVec 6) (d a b : BitVec 5) (sc : BitVec 1) (y : BitVec 3), 1 ≤ y.toNat → y.toNat ≤ 5 →
    Clean s t ([a, b].map (fireAt s t).src) →
    let x := lanesOf s t a
    let z := lanesOf s t b
    let sp : Space := if sc = 0 then .x else .m
    let w := if y.toNat ≤ 2 then 1 else if y.toNat ≤ 4 then 2 else 4
    let sg := decide (y = 2 ∨ y = 4)
    let mode : LoadMode := if d = 15 then .touch else if d = 29 then .probe else .data
    let sum := fun i => (x.get i + z.get i).toNat
    let far := fun i => (base57 x : Int) + (z.get i).toInt
    ((isData d → LanesReach s t sp sum w) →
      Sends s (.ld t d a b sc y) t d [a, b] false fun q =>
        q.op = .load w sg false mode ∧ q.space = sp ∧ (∀ i, q.addr.get i = sum i) ∧ q.exit = false ∧ plain q) ∧
    ((isData d → LanesReach s t sp (fun i => sum 0 + 4 * i.val) 4) →
      Sends s (.ldv t d a b sc) t d [a, b] false fun q =>
        q.op = .load 4 false true mode ∧ q.space = sp ∧ (∀ i : Fin 8, q.addr.get i = sum 0 + 4 * i.val) ∧ q.exit = false ∧ plain q) ∧
    (LanesReach s t sp (fun i => (x.get i).toNat) w →
      Sends s (.st t a b sc y) t 15 [a, b] false fun q =>
        q.op = .store w false ∧ q.space = sp ∧ (∀ i, q.addr.get i = (x.get i).toNat) ∧ q.data = z ∧ q.exit = false ∧ plain q) ∧
    (LanesReach s t sp (fun i => x.l0.toNat + 4 * i.val) 4 →
      Sends s (.stv t a b sc) t 15 [a, b] false fun q =>
        q.op = .store 4 true ∧ q.space = sp ∧ (∀ i : Fin 8, q.addr.get i = x.l0.toNat + 4 * i.val) ∧ q.data = z ∧ q.exit = false ∧
          plain q) ∧
    ((isData d → base57 x < 2 ^ 57 ∧ ∀ i, (guardAt s t).get i = true → 0 ≤ far i ∧ far i + w ≤ 2 ^ 57) →
      Sends s (.ldg t d a b y) t d [a, b] false fun q =>
        q.op = .load w sg false mode ∧ q.space = .g ∧ (base57 x < 2 ^ 57 → ∀ i, 0 ≤ far i → (q.addr.get i : Int) = far i) ∧
          q.exit = false ∧ plain q) ∧
    ((isData d → base57 x < 2 ^ 57 ∧
        ∀ i : Fin 8, (guardAt s t).get i = true → 0 ≤ far 0 + 4 * i.val ∧ far 0 + 4 * i.val + 4 ≤ 2 ^ 57) →
      Sends s (.ldgV t d a b) t d [a, b] false fun q =>
        q.op = .load 4 false true mode ∧ q.space = .g ∧
          (base57 x < 2 ^ 57 → ∀ i : Fin 8, 0 ≤ far 0 + 4 * i.val → (q.addr.get i : Int) = far 0 + 4 * i.val) ∧ q.exit = false ∧
          plain q) ∧
    (base57 x < 2 ^ 57 → LanesReach s t .g (fun i => base57 x + w * i.val) w →
      Sends s (.stg t a b y) t 15 [a, b] false fun q =>
        q.op = .store w false ∧ q.space = .g ∧ (∀ i, q.addr.get i = base57 x + w * i.val) ∧ q.data = z ∧ q.exit = true ∧ plain q) ∧
    (isData d → 2 ^ 57 ≤ base57 x → (fireAt s t).waived 0x03 = false →
      exec (.ldg t d a b y) s = .next (trapFire s (fireAt s t) { cause := 0x03, addr := base57 x } x z))

/-- Atomics (R102, R103, R104, R105): each of the 33 forms (`aadd`, `amin.s32`, `amin.n32`, `amax.s32`, `amax.n32`, `aand`, `aor`, `axor`,
`afadd`, `axch` and `acas`, in `.x`, `.m` and `.g`) completes outside a pure task where every guarded lane reaches its aligned word: the
request names the operation, the words, the operands and, for `acas`, the expected values read from d; q6 becomes pending with d;
those of `.g` are exit entries. In a pure task they are violations and take 0x08 (R410); that they do so whatever their addresses are, 0x08
coming before 0x05 and 0x03 (R122), is the model's choice (log entry 47). -/
def Obligations.Atomics : Prop :=
  ∀ (s : State) (t : BitVec 6) (d a b : BitVec 5), d.toNat ≤ 15 →
    let f := fireAt s t
    let x := lanesOf s t a
    let r := s.regionAt s.cur.elem.tile
    ∀ p ∈ [
        ((AtomOp.add, Space.x, Instr.aaddX) :
          AtomOp × Space × (BitVec 6 → BitVec 5 → BitVec 5 → BitVec 5 → Instr)),
        (.add, .m, .aaddM), (.add, .g, .aaddG), (.minS, .x, .aminS32X), (.minS, .m, .aminS32M), (.minS, .g, .aminS32G),
        (.minN, .x, .aminN32X), (.minN, .m, .aminN32M), (.minN, .g, .aminN32G), (.maxS, .x, .amaxS32X),
        (.maxS, .m, .amaxS32M), (.maxS, .g, .amaxS32G), (.maxN, .x, .amaxN32X), (.maxN, .m, .amaxN32M),
        (.maxN, .g, .amaxN32G), (.and, .x, .aandX), (.and, .m, .aandM), (.and, .g, .aandG), (.or, .x, .aorX),
        (.or, .m, .aorM), (.or, .g, .aorG), (.xor, .x, .axorX), (.xor, .m, .axorM), (.xor, .g, .axorG),
        (.fadd, .x, .afaddX), (.fadd, .m, .afaddM), (.fadd, .g, .afaddG), (.xch, .x, .axchX), (.xch, .m, .axchM),
        (.xch, .g, .axchG), (.cas, .x, .acasX), (.cas, .m, .acasM), (.cas, .g, .acasG)],
      let addr := fun (i : Fin 8) => if p.2.1 = .g then (base57 x + 4 * i.val) / 4 * 4 else (x.get i).toNat / 4 * 4
      Clean s t ([f.src a, f.src b] ++ (if p.1 = .cas ∧ d.toNat < 15 then [f.regSrc d.toNat] else [])) →
        (r.pure = false → (p.2.1 = .g → base57 x < 2 ^ 57) → LanesReach s t p.2.1 addr 4 →
          Sends s (p.2.2 t d a b) t d [a, b] true fun q =>
            q.op = .atomic p.1 ∧ q.space = p.2.1 ∧ (∀ i, q.addr.get i = addr i) ∧ q.data = lanesOf s t b ∧
              (p.1 = .cas → q.expd = (f.src d).val) ∧ q.exit = decide (p.2.1 = .g) ∧ plain q) ∧
        (r.pure = true → f.waived 0x08 = false →
          exec (p.2.2 t d a b) s = .next (trapFire s f { cause := 0x08 } x (lanesOf s t b)))

/-- Synchronising words, barriers and waits (R100, R113, R114, R115, R119, R120) complete where their word is reached: `stf` and `arv`
release, `ldf`, `awt` and `iowait` acquire, `arw` does both; addresses are aligned down to the word or the record; `awt` waits
for the phase that its operand names; `ioread` is an exit entry and a violation in a pure task; that it is one even where its word cannot
be reached (R118), 0x08 coming before 0x05 (R122), is the model's choice (log entry 47). -/
def Obligations.Synchronisation : Prop :=
  ∀ (s : State) (t : BitVec 6) (d a b : BitVec 5) (sc : BitVec 1) (c : BitVec 3),
    let f := fireAt s t
    let x := lanesOf s t a
    let sp : Space := if sc = 0 then .x else .m
    let sync := fun (q : Req) (rel acq : Bool) => q.release = rel ∧ q.acquire = acq
    (Clean s t ([a, b].map f.src) →
      (let w := (x.l0 + (lanesOf s t b).l0).toNat / 4 * 4
       Reaches s sp w 4 → Sends s (.ldf t d a b sc c) t d [a, b] false fun q =>
        q.op = .ldf ∧ q.space = sp ∧ q.addr.l0 = w ∧ q.scope = c.toNat ∧ sync q false true) ∧
      (Reaches s sp (x.l0.toNat / 4 * 4) 4 → Sends s (.stf t a b sc c) t 15 [a, b] false fun q =>
        q.op = .stf ∧ q.space = sp ∧ q.addr.l0 = x.l0.toNat / 4 * 4 ∧ q.data = lanesOf s t b ∧ q.scope = c.toNat ∧ sync q true false)) ∧
    (Clean s t [f.src a] →
      (∀ k ∈ [((Space.x, Instr.arvX, Instr.awtX, Instr.arwX) : Space × (BitVec 6 → BitVec 5 → BitVec 5 → BitVec 5 → Instr) ×
            (BitVec 6 → BitVec 5 → BitVec 5 → BitVec 5 → Instr) × (BitVec 6 → BitVec 5 → BitVec 5 → BitVec 5 → Instr)),
          (.m, .arvM, .awtM, .arwM), (.g, .arvG, .awtG, .arwG)],
        let w := (if k.1 = .g then base57 x else x.l0.toNat) / 8 * 8
        let phase := (if k.1 = .g then x.l2 else x.l1).toNat % 65536
        (k.1 = .g → base57 x < 2 ^ 57) → Reaches s k.1 w 8 →
          Sends s (k.2.1 t d a b) t d [a] false (fun q =>
            q.op = .arv ∧ q.space = k.1 ∧ q.addr.l0 = w ∧ q.scope = b.toNat ∧ sync q true false) ∧
          Sends s (k.2.2.1 t d a b) t d [a] false (fun q =>
            q.op = .awt phase ∧ q.space = k.1 ∧ q.addr.l0 = w ∧ q.scope = b.toNat ∧ sync q false true) ∧
          Sends s (k.2.2.2 t d a b) t d [a] false (fun q =>
            q.op = .arw ∧ q.space = k.1 ∧ q.addr.l0 = w ∧ q.scope = b.toNat ∧ sync q true true)) ∧
      (∀ k ∈ [((Space.x, Instr.iowaitX) : Space × (BitVec 6 → BitVec 5 → BitVec 5 → Instr)), (.m, .iowaitM)],
        Reaches s k.1 (x.l0.toNat / 4 * 4) 4 →
          Sends s (k.2 t d a) t d [a] false fun q =>
            q.op = .iowait ∧ q.space = k.1 ∧ q.addr.l0 = x.l0.toNat / 4 * 4 ∧ sync q false true) ∧
      (let io : Space := if x.l7.getLsbD 0 then .m else .x
       (s.regionAt s.cur.elem.tile).pure = false → Reaches s io (x.l6.toNat / 4 * 4) 4 →
          Sends s (.ioread t a) t 15 [a] false fun q =>
            q.op = .ioread ∧ q.space = io ∧ q.addr.l0 = x.l6.toNat / 4 * 4 ∧ q.ioEntry = 0 ∧ q.started = false ∧ q.data = x ∧ q.exit = true) ∧
      ((s.regionAt s.cur.elem.tile).pure = true → f.waived 0x08 = false →
        exec (.ioread t a) s = .next (trapFire s f { cause := 0x08 } x (Lanes.fill 0))))

/-- Range touches, frame requests and ordering (R98, R108, R111, R112) complete whenever their sources are clean: a touch names its
start and its length, a frame request its S-element or its handle; `otok` and `fence` fill their ordering outputs at once with the
token that their ordering inputs make. -/
def Obligations.TouchesFramesFences : Prop :=
  ∀ (s : State) (t : BitVec 6) (d a b : BitVec 5) (c : BitVec 3),
    let f := fireAt s t
    let x := lanesOf s t a
    let y := lanesOf s t b
    let ordered := ended s t id ((orderOut f 15).foldl (fun z q => z.pushOut q (.tok (f.orderTok (orderIn f []))))
      ((own s).popAll (orderIn f [])))
    (Clean s t ([a, b].map f.src) →
      (∀ k ∈ [((Space.x, Instr.touchX) : Space × (BitVec 6 → BitVec 5 → BitVec 5 → Instr)), (.m, .touchM), (.g, .touchG)],
        Sends s (k.2 t a b) t 15 [a, b] false fun q =>
          q.op = .rangeTouch y.l0.toNat ∧ q.space = k.1 ∧ q.addr.l0 = (if k.1 = .g then base57 x else x.l0.toNat) ∧ plain q) ∧
      Sends s (.fput t a b) t 15 [a, b] false fun q => q.op = .fput x.l0 ∧ q.data = y) ∧
    (Clean s t [f.src a] → Sends s (.ffree t a) t 15 [a] false fun q => q.op = .ffree x.l0) ∧
    (Clean s t [] →
      Sends s (.falloc t d b) t d [] false (fun q => q.op = .falloc b.toNat) ∧
      exec (.otokFork t) s = .next ordered ∧ exec (.otokJoin t) s = .next ordered ∧ exec (.fence t c) s = .next ordered)

/-! ## Commands, matrix, task and irregular-work instructions at the fire, majors 0x2C to 0x3D -/

namespace Sys2Proof.Claims

/-- A fire that is performed at once (R248, R324): its named queues and ordering inputs lose their heads, `eff` changes the element,
its ordering outputs take the ordering token, the fire ends, and `post` changes what lies outside the element's fire. -/
def AtOnce (s : State) (i : Instr) (t : BitVec 6) (d : BitVec 5) (srcs : List (BitVec 5)) (eff : Elem → Elem) (post : State → State) :
    Prop :=
  let f := fireAt s t
  exec i s = .next (post (ended s t id ((orderOut f d).foldl (fun y q => y.pushOut q (.tok (f.orderTok (orderIn f srcs))))
    (eff ((own s).popAll (popsOf srcs ++ orderIn f srcs))))))

/-- A fire that issues a command (R248): the same, but its ordering outputs are reserved for the command `q`, which is sent. The queues
that `named` lists are no ordering inputs; those of `srcs` lose their heads. -/
def Issues (s : State) (i : Instr) (t : BitVec 6) (named srcs : List (BitVec 5)) (ok : Req → Prop) (eff : Elem → Elem)
    (post : Req → State → State) : Prop :=
  let f := fireAt s t
  ∃ q : Req, ok q ∧ q.id = s.nextId ∧ q.elem = s.cur.elem ∧ q.bank = f.b ∧ q.ctxno = (s.regionAt s.cur.elem.tile).ctxno ∧
    q.reqtag = f.tags.1 ∧ q.itertag = f.tags.2 ∧ q.outs = maskOf (orderOut f 15) ∧ q.otok = f.orderTok (orderIn f named) ∧
    exec i s = .next (post q ((ended s t id ((orderOut f 15).foldl (fun y p => y.pushOut p (.resv s.nextId))
      (eff { (own s).popAll (popsOf srcs ++ orderIn f named) with
        exits := (own s).exits + (if q.exit || q.op == .copy then 1 else 0) }))).send q))

/-- The value of the counter that a port is bound to, or 0 (R250, R77). -/
def portOffset (s : State) (port : Nat) : Word :=
  match (s.port s.cur.elem.tile port).bound with
  | some (pos, c) =>
    let k := Table.get (s.elem ⟨s.cur.elem.tile, pos⟩).counters c
    k.base + k.idx * k.step
  | none => 0

end Sys2Proof.Claims

/-- Stream ports, scoreboard tokens and routed updates (R249, R250, R263, R264): `scfg` writes a port's staging descriptor, `sbind`
binds a port to a counter of the element or removes the binding, `sgo` captures the descriptor and the offset, makes its token busy
and its start the port's waiting one, `sstop` stops the port's running stream, its page selection, and ends its waiting start; `sbwait`
reads the statuses and `sbtest` the idle tokens; `rmwcfg` writes an entry, and `gsend` of entries 0 to 3 sends one word a guarded lane under
it; one under an entry that updates is a violation in a pure task (R410). -/
def Sys2Proof.Claims.StreamInstructions : Prop :=
  ∀ (s : State) (t : BitVec 6) (d a b : BitVec 5),
    let f := fireAt s t
    let x := lanesOf s t a
    let tile := s.cur.elem.tile
    (Clean s t [f.src a] →
      AtOnce s (.scfg t a b) t 15 [a] id (fun z => z.modPort tile b.toNat fun p => { p with staging := natOfVec x }) ∧
      AtOnce s (.sbwait t d a) t d [a] (f.writeDest f.g d (Lanes.ofFn fun i => Table.get (own s).sbStat i.val)) id ∧
      AtOnce s (.rmwcfg t a b) t 15 [a] id (fun z => z.modTile tile fun y =>
        { y with ents := Table.set y.ents b.toNat (x.l0.toNat % 16, x.l1.toNat) })) ∧
    (Clean s t [] →
      (∀ c : Fin 4, a.toNat = c.val → AtOnce s (.sbind t a b) t 15 [] id
        (fun z => z.modPort tile b.toNat fun p => { p with bound := some (s.cur.elem.pos, c.val) })) ∧
      (a = 4 → AtOnce s (.sbind t a b) t 15 [] id (fun z => z.modPort tile b.toNat fun p => { p with bound := none })) ∧
      Issues s (.sgo t a b) t [] []
        (fun q => q.op = .stream b.toNat ∧ q.sb = a.toNat ∧ q.blk = (s.port tile b.toNat).staging ∧ q.off = portOffset s b.toNat)
        (fun y => { y with sbBusy := y.sbBusy ||| (1#8 <<< a.toNat) })
        (fun q z => z.modPort tile b.toNat fun p => { p with waiting := some q.id }) ∧
      AtOnce s (.sbtest t d) t d []
        (f.writeDest f.g d (Lanes.ofFn fun i => truth (!(own s).sbBusy.getLsbD i.val))) id ∧
      AtOnce s (.sstop t b) t 15 [] id (fun z => z.stopPort tile b.toNat)) ∧
    (∀ (z : State) (k : Nat) (q : Req), (z.port tile b.toNat).owner = some k → z.req? k = some q →
      (z.port tile b.toNat).running = none → (z.port tile b.toNat).waiting = none →
      z.stopPort tile b.toNat = z.putReq { q with stop := true }) ∧
    (∀ z : State, (z.port tile b.toNat).owner = none →
      ((z.port tile b.toNat).running = none → (z.port tile b.toNat).waiting = none → z.stopPort tile b.toNat = z) ∧
      (∀ n r, (z.port tile b.toNat).running = some n → z.req? n = some r → (z.port tile b.toNat).waiting = none →
        z.stopPort tile b.toNat = z.putReq { r with stop := true }) ∧
      (∀ n r, (z.port tile b.toNat).running = none → (z.port tile b.toNat).waiting = some n → z.req? n = some r →
        z.stopPort tile b.toNat =
          (z.modPort tile b.toNat fun p => { p with waiting := none }).endStart r b.toNat 0 7) ∧
      (∀ n m r q, (z.port tile b.toNat).running = some n → z.req? n = some r → (z.port tile b.toNat).waiting = some m →
        z.req? m = some q → n ≠ m →
        z.stopPort tile b.toNat =
          ((z.putReq { r with stop := true }).modPort tile b.toNat fun p => { p with waiting := none }).endStart q b.toNat 0 7)) ∧
    (Clean s t ([a, b].map f.src) →
      ∀ p ∈ [((0, Instr.gsendEnt0) : Nat × (BitVec 6 → BitVec 5 → BitVec 5 → BitVec 5 → Instr)), (1, .gsendEnt1), (2, .gsendEnt2),
          (3, .gsendEnt3)],
        let e := Table.get (s.tile tile).ents p.1
        let addr := fun (i : Fin 8) => (e.2 + 4 * (x.get i).toNat) % 2 ^ 32 / 4 * 4
        (((s.regionAt tile).pure = false ∨ e.1 < 2 ∨ 10 < e.1 ∨ f.waived 0x08 = true) → LanesReach s t .m addr 4 →
          Sends s (p.2 t d a b) t d [a, b] false fun q =>
            q.op = .gsend e.1 ∧ q.space = .m ∧ (∀ i, q.addr.get i = addr i) ∧ q.data = lanesOf s t b) ∧
        ((s.regionAt tile).pure = true → 2 ≤ e.1 → e.1 ≤ 10 → f.waived 0x08 = false →
          exec (p.2 t d a b) s = .next (trapFire s f { cause := 0x08 } x (lanesOf s t b))))

/-- `cpy` (R255, R258): a descriptor whose block is not aligned to 64 bytes, or whose space is reserved, completes the command at once
with st 4; any other, whose block is reached, makes its token busy and sends the copy with what it captured. -/
def Sys2Proof.Claims.CopyInstruction : Prop :=
  ∀ (s : State) (t : BitVec 6) (a b : BitVec 5), Clean s t [(fireAt s t).src a] →
    let x := lanesOf s t a
    let code := x.l6.toNat % 4
    let addr := if code = 2 then x.l4.toNat + 2 ^ 32 * x.l5.toNat else x.l4.toNat
    let sp : Space := if code = 0 then .x else if code = 1 then .m else .g
    (code ≠ 3 → Reaches s sp addr 64) →
      ((code = 3 ∨ addr % 64 ≠ 0) →
        AtOnce s (.cpy t a b) t 15 [a] id (fun z => z.sbIdle s.cur.elem b.toNat 0 4)) ∧
      (code ≠ 3 → addr % 64 = 0 →
        Issues s (.cpy t a b) t [a] [a] (fun q => q.op = .copy ∧ q.sb = b.toNat ∧ q.space = sp ∧ q.addr.l0 = addr ∧ q.data = x)
          (fun y => { y with sbBusy := y.sbBusy ||| (1#8 <<< b.toNat) }) (fun _ => id))

/-- The instructions of the stream ports, of scoreboard tokens, of routed updates and of copies (R249, R250, R255, R258, R263, R264). -/
def Obligations.CopyAndStreams : Prop := StreamInstructions ∧ CopyInstruction

/-- Matrix operations, drains and the scout (R265 to R273, R346, R347): an operation of the intake reads no operand data and takes no
token at its fire; it fills the intake with its accumulator, format, queues and the k-tiles that it takes, all of them, or for
`mmam` those of the mask; an `mmam` that takes none is performed at once. A drain captures its class, its keep bit and its prune
setting; the controls act at once; a threshold request carries the first nk entries. -/
def Obligations.MatrixInstructions : Prop :=
  ∀ (s : State) (t : BitVec 6) (d a b k : BitVec 5) (n : BitVec 1) (m : BitVec 2), 0 < (own s).nk →
    let f := fireAt s t
    let x := own s
    let v := lanesOf s t a
    let takes := fun (i : Instr) (kind : MatKind) (fmt : Nat) (named : List (BitVec 5)) (bq : Nat) (todo : List Nat) =>
      Issues s i t named [] (fun q => q.op = .matrix)
        (fun y => { y with intake := some { req := s.nextId, kind := kind, acc := n.toNat, fmt := fmt, aq := a.toNat - 16, bq := bq
                                            nk := x.nk, kmask := x.kmask, todo := todo } }) (fun _ => id)
    let masked := (List.range x.nk).filter fun j => x.kmask.getLsbD j
    (Clean s t [] →
      takes (.mma t n a b k) .mma k.toNat [a, b] (b.toNat - 16) (List.range x.nk) ∧
      takes (.mmas t n a b k) .mmas k.toNat [a, b] (b.toNat - 16) (List.range x.nk) ∧
      takes (.scout t n a b) .scout 10 [a, b] (b.toNat - 16) (List.range x.nk) ∧
      takes (.maclLd t n a) .macl 0 [a] 0 [0] ∧
      (masked ≠ [] → takes (.mmam t n a b k) .mmam k.toNat [a, b] (b.toNat - 16) masked) ∧
      (masked = [] → exec (.mmam t n a b k) s = .next (ended s t id ((orderOut f 15).foldl
        (fun y p => y.pushOut p (.tok (f.orderTok (orderIn f [a, b])))) (x.popAll (orderIn f [a, b]))))) ∧
      AtOnce s (.maclClr t n) t 15 []
        (fun y => y.setAcc n.toNat { y.acc n.toNat with ent := [], poison := .clean, rc := [], cc := [] }) id) ∧
    (Clean s t [f.src a] →
      AtOnce s (.mld t a) t 15 [a] (fun y => { y with nk := v.l0.toNat % 64 + 1, kmask := v.l2 ++ v.l1 }) id ∧
      AtOnce s (.prune t n a) t 15 [a] (fun y => y.setAcc n.toNat { y.acc n.toNat with prune := v.l0.extractLsb' 0 4 }) id ∧
      (v.l0.getLsbD 0 = false →
        AtOnce s (.mchk t n a) t 15 [a] (fun y => y.setAcc n.toNat { y.acc n.toNat with chk := false, rc := [], cc := [] }) id) ∧
      (v.l0.getLsbD 0 = true →
        AtOnce s (.mchk t n a) t 15 [a] (fun y =>
          (y.setAcc n.toNat ({ y.acc n.toNat with chk := true } : Acc).checksums.1).raise0
            ({ y.acc n.toNat with chk := true } : Acc).checksums.2) id) ∧
      (∀ p ∈ [((Instr.mdrnF32 t n a, 0, 0) : Instr × Nat × BitVec 2), (.mdrnBf16 t n a m, 1, m), (.mdrnF16 t n a m, 2, m)],
        Issues s p.1 t [a] [a] (fun q => q.op = .drain)
          (fun y => { y with drain := some { req := s.nextId, acc := n.toNat, fmt := p.2.1, rm := p.2.2, cls := v.l0.toNat % 64
                                             keep := v.l0.getLsbD 6, prune := (y.acc n.toNat).prune, otag := f.tr.otag } })
          (fun _ => id)) ∧
      (∀ p ∈ [((Instr.threshAbs t d a n, false) : Instr × Bool), (.threshTop t d a n, true)],
        Sends s p.1 t d [a] false fun q =>
          q.op = .thresh p.2 n.toNat ∧ q.off = v.l0 ∧ q.prog = x.nk ∧ q.stage = .sent ∧ (q.st = 0 ↔ (x.acc n.toNat).poison = .clean)))

/-- Task and handler instructions (R325, R333, R334, R335, R338, R344, R345, R423): `launch` sends an exit entry that releases at
device scope, and is a violation in a pure task; `ptask` shows the task; the first `tdone` of a task finishes it, and is privileged in the handler; the `tagset` forms
replace the bank's tags after the fire's own update; `trap` is the software trap 0x12 with its code; the forms of `hret` end the
handler, in both copies of a twin pair, and are privileged outside it. -/
def Sys2Proof.Claims.TaskInstructions : Prop :=
  ∀ (s : State) (t : BitVec 6) (d a : BitVec 5),
    let f := fireAt s t
    let r := s.regionAt s.cur.elem.tile
    let x := lanesOf s t a
    let tags := fun (set : Bank → Bank) (z : State) => z.modElem s.cur.elem fun y => y.modBank f.b set
    let recd := r.task.recd
    (Clean s t [f.src a] →
      (r.pure = false → Sends s (.launch t a) t 15 [a] false fun q =>
        q.op = .launch (base57 x) ∧ q.scope = 4 ∧ q.release = true ∧ q.exit = true) ∧
      (r.pure = true → f.waived 0x08 = false →
        exec (.launch t a) s = .next (trapFire s f { cause := 0x08 } x (Lanes.fill 0))) ∧
      (r.handler = false → AtOnce s (.tdone t a) t 15 [a] id (fun z => z.finish f.rid x.l0)) ∧
      (r.handler = true → f.bk.waive = none → exec (.tdone t a) s = .next (trapFire s f { cause := 0x10 } x (Lanes.fill 0))) ∧
      AtOnce s (.tagset t a) t 15 [a] id
        (tags fun k => { k with reqtag := x.l0.extractLsb' 0 16, itertag := x.l0.extractLsb' 16 16 }) ∧
      AtOnce s (.tagsetReq t a) t 15 [a] id (tags fun k => { k with reqtag := x.l0.extractLsb' 0 16 }) ∧
      AtOnce s (.tagsetIter t a) t 15 [a] id (tags fun k => { k with itertag := x.l0.extractLsb' 0 16 }) ∧
      (f.waived 0x12 = false →
        exec (.trap t a) s = .next (trapFire s f { cause := 0x12, info := x.l0.toNat } x (Lanes.fill 0)))) ∧
    (Clean s t [] →
      (AtOnce s (.ptask t d) t d [] (f.writeDest f.g d
        ⟨BitVec.ofNat 32 (recd / 2 ^ 192 % 2 ^ 57), BitVec.ofNat 32 (recd / 2 ^ 192 % 2 ^ 57 / 2 ^ 32),
          BitVec.ofNat 32 (recd / 2 ^ 142 % 2 ^ 16), r.ctxno.zeroExtend 32, BitVec.ofNat 32 r.variant,
          BitVec.ofNat 32 (r.pure.toNat + (match r.twin with
            | some (_, isCopy0) => if isCopy0 then 0 else 2
            | none => 0)),
          BitVec.ofNat 32 (pack [(0, r.rows), (5, r.cols)]), 0⟩) id) ∧
      (∀ p ∈ [((Instr.hret t, 0) : Instr × Nat), (.hretDrop t, 1), (.hretEnd t, 2)],
        let ends := fun (r : Region) => if r.hphase = .on then { r with hphase := .leaving, hage := 0, hform := p.2 } else r
        (r.handler = true → r.twin = none → AtOnce s p.1 t 15 [] id (fun z => z.modRegion f.rid ends)) ∧
        (∀ n c0, r.handler = true → r.twin = some (n, c0) →
          AtOnce s p.1 t 15 [] id (fun z => (z.modRegion f.rid ends).modRegion n ends)) ∧
        (r.handler = false → f.bk.waive = none →
          exec p.1 s = .next (trapFire s f { cause := 0x10 } (Lanes.fill 0) (Lanes.fill 0))))) ∧
    (∀ (g : Region) (w : Word), (g.done ≠ none ∨ g.waits = true → g.finish w = g) ∧
      (g.done = none → g.waits = false → (g.finish w).done = some w ∧ (g.finish w).saveAsked = false ∧ (g.finish w).fold = none ∧
        ((g.life = .running ∨ g.life = .folding) → (g.finish w).life = .finishing))) ∧
    (∀ (z : State) (n m : Nat) (c0 : Bool) (w : Word), (z.region n).done = none → (z.region n).waits = false → n ≠ m →
      (z.region n).twin = some (m, c0) →
      (z.finish n w).region n = (z.region n).finish w ∧ ((z.finish n w).region m).saveAsked = false ∧
        ((z.finish n w).region m).fold = none ∧ ((z.finish n w).region m).life ≠ .folding)

/-- The forms `yield.f.x`, `yield.f.m`, `yield.sb` and `yield.rel`, with an offered spill record and outside the handler (R336, R139,
R325), complete where their word is reached: the record takes the image of the bank, the wait condition and the reserved ordering
outputs, and the bank is spilling. In the handler they are privileged and take 0x10, and a wait for a word that is a hole takes 0x05. -/
def Sys2Proof.Claims.YieldInstructions : Prop :=
  ∀ (s : State) (t : BitVec 6) (a : BitVec 5) (n : Nat),
    let f := fireAt s t
    let w := (lanesOf s t a).l0.toNat / 4 * 4
    let spilled := fun (z : State) (c : WaitCond) =>
      z.mem = s.mem ∧ ((z.elem s.cur.elem).bank f.b).st = .spilling ∧ (z.elem s.cur.elem).offer = none ∧
        let m := Table.get (z.elem (servingElem s.cur.elem)).frame.spill n
        m.st = .filling ∧ m.elem = s.cur.elem ∧ m.bank = f.b ∧ m.cond = c ∧ m.outs = maskOf (orderOut f 15) ∧
          m.image.regs = f.bk.regs ∧ m.image.preds = f.bk.preds ∧ m.image.flags = f.bk.flags
    ((own s).offer = some n → (s.regionAt s.cur.elem.tile).handler = false →
      (Clean s t [f.src a] → Reaches s .x w 4 → ∃ z, exec (.yieldFX t a) s = .next z ∧
        spilled z (.word false w ((s.localByte s.cur.elem.tile .x w).getD 0))) ∧
      (Clean s t [f.src a] → Reaches s .m w 4 → ∃ z, exec (.yieldFM t a) s = .next z ∧
        spilled z (.word true w ((s.localByte s.cur.elem.tile .m w).getD 0))) ∧
      (Clean s t [f.src a] → ∃ z, exec (.yieldSb t a) s = .next z ∧ spilled z (.tokens ((lanesOf s t a).l0.extractLsb' 0 8))) ∧
      (Clean s t [] → ∃ z, exec (.yieldRel t) s = .next z ∧ spilled z .release)) ∧
    ((s.regionAt s.cur.elem.tile).handler = true → f.bk.waive = none →
      let privileged := fun (v : Vec) => trapFire s f { cause := 0x10 } v (Lanes.fill 0)
      (Clean s t [f.src a] → exec (.yieldFX t a) s = .next (privileged (lanesOf s t a)) ∧
        exec (.yieldFM t a) s = .next (privileged (lanesOf s t a)) ∧ exec (.yieldSb t a) s = .next (privileged (lanesOf s t a))) ∧
      (Clean s t [] → exec (.yieldRel t) s = .next (privileged (Lanes.fill 0)))) ∧
    ((s.regionAt s.cur.elem.tile).handler = false → f.waived 0x05 = false → Clean s t [f.src a] →
      ∀ h, (s.holeIn s.cur.elem.tile .x w 4 = some h →
          exec (.yieldFX t a) s = .next (trapFire s f { cause := 0x05, addr := h } (lanesOf s t a) (Lanes.fill 0))) ∧
        (s.holeIn s.cur.elem.tile .m w 4 = some h →
          exec (.yieldFM t a) s = .next (trapFire s f { cause := 0x05, addr := h } (lanesOf s t a) (Lanes.fill 0))))

/-- The task, handler and yield instructions (R325, R333 to R338, R344, R345). -/
def Obligations.TasksAndYields : Prop := TaskInstructions ∧ YieldInstructions

/-- Ranges, seals, hash tables, page selection, probes and monitors at the fire (R340, R342, R343, R348, R351 to R355): each request
carries its operand; `seal` releases and acquires at device scope and `unseal` acquires, and they and `hins` are violations in a pure task
(0x08); the probes write the readings of Table 16.11,
`qprobe.clr` clearing the counts; a monitor takes its settings, and a mark is a sample where its source is the mark. -/
def Obligations.UnitInstructions : Prop :=
  ∀ (s : State) (t : BitVec 6) (d a b : BitVec 5),
    let f := fireAt s t
    let r := s.regionAt s.cur.elem.tile
    let tile := s.cur.elem.tile
    let x := lanesOf s t a
    let desc := natOfVec x
    let staging := (s.port tile (desc / 2 ^ 160 % 16)).staging
    (Clean s t [f.src a] →
      Sends s (.rset t d a) t d [a] false (fun q => q.op = .rset ∧ q.data = x) ∧
      Sends s (.rget t d a) t d [a] false (fun q => q.op = .rget ∧ q.data = x) ∧
      Sends s (.rfree t a) t 15 [a] false (fun q => q.op = .rfree ∧ q.data = x) ∧
      (r.pure = false →
        Sends s (.sealR t d a) t d [a] true
          (fun q => q.op = .sealRange (base57 x) x.l2.toNat ∧ q.scope = 4 ∧ q.release = true ∧ q.acquire = true) ∧
        Sends s (.unsealR t a) t 15 [a] false (fun q => q.op = .unsealRange (base57 x) x.l2.toNat ∧ q.acquire = true)) ∧
      (r.pure = true → f.waived 0x08 = false →
        exec (.sealR t d a) s = .next (trapFire s f { cause := 0x08 } x (Lanes.fill 0)) ∧
          exec (.unsealR t a) s = .next (trapFire s f { cause := 0x08 } x (Lanes.fill 0))) ∧
      (let w := x.l0.toNat / 0x40000 * 0x40000
       Reaches s .m w 4 → Sends s (.hrow t d a) t d [a] false (fun q => q.op = .hrow ∧ q.space = .m ∧ q.addr.l0 = w ∧ q.data = x)) ∧
      Sends s (.hspill t d a) t d [a] false (fun q => q.op = .hspill ∧ q.space = .g ∧ q.addr.l0 = base57 x ∧ q.exit = true) ∧
      AtOnce s (.monCfg t a) t 15 [a] id (fun z => z.modTile tile fun y => { y with mon := { cfg := x.l0 &&& 0x7FFFF, base := x.l1 } }) ∧
      AtOnce s (.monMark t a) t 15 [a] id
        (fun z => z.modTile tile fun y => if y.mon.src = 4 then { y with mon := y.mon.sample x.l0 } else y) ∧
      (pdBad desc staging = true → AtOnce s (.pgsel t a b) t 15 [a] id (fun z => z.sbIdle s.cur.elem b.toNat 0 4)) ∧
      (pdBad desc staging = false → Reaches s .x (desc / 2 ^ 96 % 2 ^ 17) (desc / 2 ^ 88 % 2 ^ 7 + 1) →
        Reaches s .x (desc / 2 ^ 128 % 2 ^ 17) (2 * min (desc / 2 ^ 80 % 2 ^ 7) (desc / 2 ^ 64 % 2 ^ 12)) →
        Issues s (.pgsel t a b) t [a] [a] (fun q => q.op = .pgsel ∧ q.sb = b.toNat ∧ q.blk = desc + staging * 2 ^ 256)
          (fun y => { y with
            sbBusy := y.sbBusy ||| (1#8 <<< b.toNat)
            exits := y.exits + if staging % 2 = 1 ∧ staging / 2 % 4 = 2 then min (desc / 2 ^ 80 % 2 ^ 7) (desc / 2 ^ 64 % 2 ^ 12) else 0 })
          (fun q z => z.modPort tile (desc / 2 ^ 160 % 16) fun p => { p with owner := some q.id }))) ∧
    (Clean s t ([a, b].map f.src) → r.pure = false →
      Sends s (.hins t d a b) t d [a, b] false (fun q => q.op = .hins ∧ q.expd = x ∧ q.data = lanesOf s t b)) ∧
    (Clean s t ([a, b].map f.src) → r.pure = true → f.waived 0x08 = false →
      exec (.hins t d a b) s = .next (trapFire s f { cause := 0x08 } x (lanesOf s t b))) ∧
    (let p := probeLanes s f
     let e := s.cur.elem
     let y := f.el
     let bit := fun (v : Bool) => if v then 1 else 0
     let count := fun (c : Nat) => (Table.get y.ctl c : Nat)
     ((∀ j, j < 6 → (y.inq j).length ≤ 4) → p.l0.toNat < 2 ^ 18 ∧
       ∀ j, j < 6 → p.l0.toNat / 2 ^ (3 * j) % 8 = (y.inq j).countP QEntry.isTok) ∧
     ((∀ j, j < 5 → (y.outq j).length ≤ 4) → (s.oq5 e).length ≤ 4 → p.l1.toNat < 2 ^ 18 ∧
       (∀ j, j < 5 → p.l1.toNat / 2 ^ (3 * j) % 8 = (y.outq j).length) ∧ p.l1.toNat / 2 ^ 15 = (s.oq5 e).length) ∧
     p.l2.toNat = y.touchFaults.toNat + 65536 * y.frame.stale.toNat ∧
     p.l3.toNat = bit y.ctlOver + 2 * bit y.frame.loopOver + 65536 * (s.tile tile).misroute.toNat ∧
     ((∀ c, c < 16 → count c ≤ 15) →
       (∀ c, c < 8 → p.l4.toNat / 2 ^ (4 * c) % 16 = count c) ∧ ∀ c, c < 8 → p.l5.toNat / 2 ^ (4 * c) % 16 = count (8 + c)) ∧
     (∀ b, b < 4 → p.l6.toNat / 2 ^ (2 * b) % 4 = (match (y.bank b).st with
       | .active => 0
       | .spilling => 1
       | .free => 2
       | .reinstating => 3)) ∧
     p.l6.toNat / 2 ^ 8 % 4 = y.pref.toNat ∧ p.l6.toNat / 2 ^ 10 = r.active.toNat ∧
     (s.outstanding e < 64 → p.l7.toNat = s.outstanding e + 64 * s.ccb r.ctxno 22 4)) ∧
    (Clean s t [] →
      AtOnce s (.qprobe t d) t d [] (f.writeDest f.g d (probeLanes s f)) id ∧
      AtOnce s (.qprobeClr t d) t d []
        (fun y => f.writeDest f.g d (probeLanes s f)
          { y with touchFaults := 0, ctlOver := false, frame := { y.frame with stale := 0, loopOver := false } })
        (fun z => z.modTile tile fun y => { y with misroute := 0 }))

/-! ## Requests after their fire, and the units that serve them -/

namespace Sys2Proof.Claims

/-- A run answers a next state of which `p` holds. -/
def Answers (o : Host.Outcome State Fault Refusal) (p : State → Prop) : Prop := ∃ t, o = .next t ∧ p t

/-- Every byte of memory outside `n` bytes from `a` reads as before. -/
def SameBytes (s t : State) (a n : Nat) : Prop := ∀ b, (b < a ∨ a + n ≤ b) → t.byte b = s.byte b

/-- The memory has its canonical form (an invariant, StepKeepsMemory), a part of a request stands at its home, and nothing keeps the
home from serving it: it is the turn of the part (R89, R90, R103), no remote device refuses the access, no byte it writes is sealed, and
no link it needs is lost (R211, R212, R341). -/
def HomeReady (s : State) (id k : Nat) (r : Req) (p : Part) : Prop :=
  Mem.wf s.mem = true ∧ s.req? id = some r ∧ r.stage = .atHome ∧ r.parts[k]? = some p ∧
    s.blocked r p = false ∧ laneWaits r.parts k p = false ∧ s.lanesWait r p = false ∧ s.homeFault r = none ∧ s.linkLost p.addr = false

/-- A request without a part that a home has served. -/
def without (r : Req) (p : Part) : Req := { r with parts := r.parts.filter fun q => q != p, started := true }

/-- A request that goes on, or is performed with its last part. -/
def after (s : State) (q : Req) : State := if q.parts = [] then s.perform q else s.putReq q

/-- No request waits at a home. -/
def NoneWaits (s : State) : Prop := ∀ q ∈ s.reqs, q.arrival = none

/-- A unit ends a request in one step: the request is gone, and the register of its destination holds `x` (Table 16.1). -/
def Ends (s t : State) (r : Req) (x : Vec) : Prop :=
  t.req? r.id = none ∧
    (r.dest.toNat < 15 → r.image = none → ((s.elem r.elem).bank r.bank).epoch = r.epoch →
      ((t.elem r.elem).bank r.bank).reg r.dest.toNat =
        (((s.elem r.elem).bank r.bank).reg r.dest.toNat).write r.guard x r.poison)

end Sys2Proof.Claims

/-- From its fire to its response a request is held, translated, and answered. A release is held until every access that its bank
fired before it is performed (R92). A `.g` access that has its place in the miss queue and a walker, or that the TLBs serve, is translated
in every guarded lane before any is performed (R96, R217): it goes on to its homes with its parts, or parks with the first failure (R220),
or with seal violation at the first sealed byte that it would write (R341); whichever it is, it leaves the miss queue. The response
writes the register, predicate or reserved queue entry of its destination, and nothing else (R85, R86); one for an earlier allocation of
its bank is discarded, and one for a bank that has yielded goes into its image, where that still stands in its record (R121, R139). Of a
pure task, an access that touches a byte it may not is a purity violation (R410). (That a release of any scope waits until each earlier
access is performed for all is log entry 18's; that a lookup without its TLBs is one after an eviction, log entry 8's; that a failed
translation comes before a sealed byte, and that before a purity violation, log entry 52's.) -/
def Obligations.RequestLife : Prop :=
  ∀ (s : State) (id : Nat) (r : Req), s.req? id = some r →
    (r.stage = .held →
      ((∀ q ∈ s.earlier r, q.performed = true ∨ q.isAccess = false) →
        exec (.releaseSend id) s = .next (s.putReq { r with stage := s.firstStage { r with release := false } })) ∧
      ((∃ q ∈ s.earlier r, q.performed = false ∧ q.isAccess = true) → exec (.releaseSend id) s = .next s)) ∧
    (r.stage = .sent → r.suppressed = false → r.isHome = true → r.space = .g →
      let t := r.elem.tile
      let sp := s.space r.ctxno
      let z := s.modTile t fun x => { x with missq := s.missNow t }
      let leaves := fun (y : State) =>
        if (s.missNow t).contains id then y.modTile t fun x => { x with missq := x.missq.filter (· != id) } else y
      exec (.translationLookup id false) s =
        exec (.translationLookup id true) (r.ranges.foldl (fun y x => y.evict (siteOf t) sp x.addr x.len) s) ∧
      (s.missFull t = true → (s.missNow t).contains id = false → exec (.translationLookup id true) s = .next s) ∧
      (s.missFull t = false ∨ (s.missNow t).contains id = true → s.needsWalk r = false ∨ s.walkerFree r = true →
        s.parkRoom t = true → (s.tile t).mon.src ≠ 2 →
        (∀ f, z.xlateAll (siteOf t) sp r.need r.ranges = .error f →
          exec (.translationLookup id true) s = .next (leaves (z.park r r.need.kind f))) ∧
        (∀ l es, z.xlateAll (siteOf t) sp r.need r.ranges = .ok (l, es) →
          (∀ a, r.writes = true → s.sealedByte sp r.ranges = some a →
            exec (.translationLookup id true) s = .next (leaves (z.parkFinal r 0x07 a 0))) ∧
          ((r.writes = false ∨ s.sealedByte sp r.ranges = none) →
            let judged := r.waive = false ∧ r.byteJudged = true
            (∀ a, judged → z.impureByte (z.regionAt t) sp r.writes r.ranges = some a →
              exec (.translationLookup id true) s = .next (leaves (z.parkFinal r 0x08 a 0))) ∧
            (¬judged ∨ z.impureByte (z.regionAt t) sp r.writes r.ranges = none →
              exec (.translationLookup id true) s = .next (leaves ((z.addAll (siteOf t) es).putReq
                { r with stage := .atHome, parts := r.globalParts l, pages := es.map fun e => (e.vbase, e.size) }))))))) ∧
    (r.stage = .performed → (s.tile r.elem.tile).mon.src ≠ 1 →
      let x := s.elem r.elem
      let d := r.dest.toNat
      Answers (exec (.responseArrival id) s) fun t =>
        t.req? id = none ∧ t.mem = s.mem ∧ t.regions = s.regions ∧ t.faults = s.faults ∧
        (∀ e : ElemId, e.key ≠ r.elem.key → e.key ≠ (servingElem r.elem).key → t.elem e = s.elem e) ∧
        (d = 21 → (t.elem r.elem).inq 5 = fillResv (x.inq 5) id r.token ∧ (t.elem r.elem).banks = x.banks ∧ (t.elem r.elem).oq = x.oq) ∧
        (16 ≤ d → d < 21 → (t.elem r.elem).outq (d - 16) = fillResv (x.outq (d - 16)) id r.token ∧
          (t.elem r.elem).banks = x.banks ∧ (t.elem r.elem).iq = x.iq) ∧
        (d < 15 → r.image = none → (x.bank r.bank).epoch = r.epoch →
          (((t.elem r.elem).bank r.bank).reg d = ((x.bank r.bank).reg d).write r.guard r.value r.regPoison) ∧
          (∀ n, n ≠ d → ((t.elem r.elem).bank r.bank).reg n = (x.bank r.bank).reg n) ∧
          (∀ b, b ≠ r.bank → (t.elem r.elem).bank b = x.bank b) ∧
          (r.writesQ6 = true → ((t.elem r.elem).bank r.bank).pred 6 = ((x.bank r.bank).pred 6).write r.guard r.status) ∧
          (r.writesQ6 = false → ((t.elem r.elem).bank r.bank).preds = (x.bank r.bank).preds)) ∧
        (22 ≤ d → d < 29 → r.image = none → r.writesQ6 = false → (x.bank r.bank).epoch = r.epoch →
          ((t.elem r.elem).bank r.bank).pred (d - 22) = ((x.bank r.bank).pred (d - 22)).write r.guard r.value ∧
          ((t.elem r.elem).bank r.bank).regs = (x.bank r.bank).regs) ∧
        ((d < 16 ∨ 22 ≤ d) → r.image = none → (x.bank r.bank).epoch ≠ r.epoch → t.elem r.elem = x) ∧
        (∀ n, (d < 16 ∨ 22 ≤ d) → r.image = some n →
          let m : SpillRec := Table.get (s.elem (servingElem r.elem)).frame.spill n
          let m' : SpillRec := Table.get (t.elem (servingElem r.elem)).frame.spill n
          let follows := m.st ≠ .free ∧ m.elem = r.elem ∧ m.bank = r.bank ∧ m.image.epoch = r.epoch
          (t.elem r.elem).banks = x.banks ∧
          (∀ k, k ≠ n → (Table.get (t.elem (servingElem r.elem)).frame.spill k : SpillRec) =
            Table.get (s.elem (servingElem r.elem)).frame.spill k) ∧
          (¬follows → m' = m) ∧
          (follows → m'.st = m.st ∧ m'.cond = m.cond ∧ (∀ b, b ≠ d → m'.image.reg b = m.image.reg b) ∧
            (d < 15 → m'.image.reg d = (m.image.reg d).write r.guard r.value r.regPoison) ∧
            (22 ≤ d → d < 29 → r.writesQ6 = false →
              m'.image.pred (d - 22) = (m.image.pred (d - 22)).write r.guard r.value))))

/-- At its home a load reads what the memory holds, with its poison (R90, R95, R206), one whole vector at once where the part is one
(R91); a store writes its bytes and no other; an atomic returns the old word and writes the new one, in one step, and leaves a poisoned
word as it is (R103, R106). `ldf` empties a full word and `stf` fills an empty one, and each waits otherwise (R100, R101); `arv` counts at
its barrier record, and the last arrival opens the next phase (R115; that the count wraps at 2^32 before it is compared is the model's
choice, log entry 47); `arw` is then an `awt`, which returns when the phase has moved on (R114, R115), and `iowait` returns when its word
is full (R120). A store that covers a granule whole replaces its poison, and one that covers a part of it leaves it (R206; that the lanes
of one scalar store count each for itself is log entry 47's choice). A load through a lost link returns poisoned (R212). A part whose turn
has not come is not served (R89, R90; the lanes of an atomic on one word follow one another by log entry 18), and an access that meets a
fault at a home parks before any of it is performed (R211, R212, R220, R341), where the park list has room. What an atomic writes is
that of Table 4.4, `afadd` one sum rounded to nearest even (R102, R105). -/
def Obligations.HomeEffects : Prop :=
  (∀ (s : State) (id k : Nat) (r : Req) (p : Part), s.req? id = some r → r.stage = .atHome → r.parts[k]? = some p →
    (s.blocked r p = true ∨ laneWaits r.parts k p = true ∨ s.lanesWait r p = true → exec (.homeAccess id k) s = .next s) ∧
    (s.served r p k = true → ∀ f, s.homeFault r = some f →
      (s.parkRoom r.elem.tile = true → exec (.homeAccess id k) s = .next (s.parkFinal r f.1 f.2 0)) ∧
      (s.parkRoom r.elem.tile = false → exec (.homeAccess id k) s = .next s)) ∧
    (s.served r p k = true → s.homeFault r = none → s.linkLost p.addr = true → p.lane < 8 →
      ∀ w sg m, r.op = .load w sg false m → r.parts = [p] → r.mate = none → r.hasResponse = true →
        Answers (exec (.homeAccess id k) s) fun t => t.mem = s.mem ∧ ∃ q, t.req? id = some q ∧ q.stage = .performed ∧
          q.rpois.get (Fin.ofNat 8 p.lane) = (r.rpois.get (Fin.ofNat 8 p.lane)).join .link)) ∧
  (∀ (s : State) (id k : Nat) (r : Req) (p : Part), HomeReady s id k r p →
    let i := Fin.ofNat 8 p.lane
    let ev : Instr := .homeAccess id k
    (∀ w sg vec m, r.op = .load w sg vec m → p.lane < 8 →
      exec ev s = .next (after s { without r p with
        result := setLane r.result p.lane (putBytes (r.result.get i) p.off p.len (s.peek p.addr p.len))
        rpois := setLane r.rpois p.lane ((r.rpois.get i).join (s.poisonOf p.addr p.len)) })) ∧
    (∀ sg m, r.op = .load 4 sg true m → r.parts = [p] → p.lane = 8 → r.mate = none → r.hasResponse = true →
      Answers (exec ev s) fun t => t.mem = s.mem ∧ ∃ q, t.req? id = some q ∧ q.stage = .performed ∧
        ∀ j : Fin 8, q.result.get j =
          if r.guard.get j = true then BitVec.ofNat 32 (s.peek (p.addr + 4 * j.val) 4) else r.result.get j) ∧
    (∀ w vec, r.op = .store w vec → p.lane < 8 → p.off + p.len ≤ 4 →
      Answers (exec ev s) fun t => SameBytes s t p.addr p.len ∧ t.full = s.full ∧
        ∀ j, j < p.len → t.byte (p.addr + j) = (r.data.get i).extractLsb' (8 * (p.off + j)) 8) ∧
    (∀ w, r.op = .store w true → p.lane = 8 → (∀ j : Fin 8, r.guard.get j = true) →
      Answers (exec ev s) fun t => SameBytes s t p.addr 32 ∧ ∀ j : Fin 8, t.peek (p.addr + 4 * j.val) 4 = (r.data.get j).toNat) ∧
    (∀ op, r.op = .atomic op → p.lane < 8 → r.parts = [p] → r.mate = none →
      Answers (exec ev s) fun t => SameBytes s t p.addr 4 ∧ t.full = s.full ∧
        (s.poisonOf p.addr 4 = .clean →
          t.peek p.addr 4 = (op.apply (wordOf (s.peek p.addr 4)) (r.data.get i) (r.expd.get i)).toNat) ∧
        (s.poisonOf p.addr 4 ≠ .clean → t.mem = s.mem) ∧
        ∃ q, t.req? id = some q ∧ q.stage = .performed ∧ q.result = setLane r.result p.lane (wordOf (s.peek p.addr 4)) ∧
          q.rpois = setLane r.rpois p.lane (s.poisonOf p.addr 4)) ∧
    (r.parts = [p] → NoneWaits s → (∀ b, s.generatorFirst p.addr b s.nextId = false) →
      (r.op = .ldf → s.isFull p.addr = true →
        Answers (exec ev s) fun t => t.mem = s.mem ∧ t.full = s.full.filter (· != p.addr)) ∧
      (r.op = .ldf → s.isFull p.addr = false →
        exec ev s = .next ({ s with nextId := s.nextId + 1 }.putReq { r with stage := .waiting s.nextId })) ∧
      (r.op = .stf → s.isFull p.addr = false → s.locked r.id p.addr 4 = false →
        Answers (exec ev s) fun t => SameBytes s t p.addr 4 ∧ t.peek p.addr 4 = r.data.l0.toNat ∧ t.isFull p.addr = true) ∧
      (r.op = .stf → s.isFull p.addr = true →
        exec ev s = .next ({ s with nextId := s.nextId + 1 }.putReq { r with stage := .waiting s.nextId })) ∧
      (r.op = .arv → r.dest.toNat < 15 → r.mate = none →
        let cnt := s.peek p.addr 4
        let n := s.peek (p.addr + 4) 2
        let ph := s.peek (p.addr + 6) 2
        Answers (exec ev s) fun t => SameBytes s t p.addr 8 ∧ t.peek (p.addr + 4) 2 = n ∧
          t.peek p.addr 4 = (if n ≤ (cnt + 1) % 2 ^ 32 then 0 else (cnt + 1) % 2 ^ 32) ∧
          t.peek (p.addr + 6) 2 = (if n ≤ (cnt + 1) % 2 ^ 32 then (ph + 1) % 65536 else ph) ∧
          ∃ q, t.req? id = some q ∧ q.stage = .performed ∧ q.result = Lanes.fill (BitVec.ofNat 32 ph)) ∧
      (r.op = .arw → r.dest.toNat < 15 → r.mate = none →
        let cnt := (s.peek p.addr 4 + 1) % 2 ^ 32
        let n := s.peek (p.addr + 4) 2
        let ph := s.peek (p.addr + 6) 2
        Answers (exec ev s) fun t => SameBytes s t p.addr 8 ∧ t.peek (p.addr + 4) 2 = n ∧
          (n ≤ cnt → t.peek p.addr 4 = 0 ∧ t.peek (p.addr + 6) 2 = (ph + 1) % 65536 ∧
            ∃ q, t.req? id = some q ∧ q.stage = .performed ∧ q.result = Lanes.fill (BitVec.ofNat 32 ((ph + 1) % 65536))) ∧
          (cnt < n → t.peek p.addr 4 = cnt ∧ t.peek (p.addr + 6) 2 = ph ∧
            t.req? id = some { r with op := .awt ph, stage := .waiting s.nextId, acted := [p.addr] })) ∧
      (∀ was, r.op = .awt was → r.dest.toNat < 15 → r.mate = none →
        let ph := s.peek (p.addr + 6) 2
        (ph ≠ was → Answers (exec ev s) fun t => t.mem = s.mem ∧ t.full = s.full ∧
          ∃ q, t.req? id = some q ∧ q.stage = .performed ∧ q.result = Lanes.fill (BitVec.ofNat 32 ph)) ∧
        (ph = was → exec ev s = .next ({ s with nextId := s.nextId + 1 }.putReq { r with stage := .waiting s.nextId }))) ∧
      (r.op = .iowait → r.dest.toNat < 15 → r.mate = none →
        (s.isFull p.addr = true → Answers (exec ev s) fun t => t.mem = s.mem ∧ t.full = s.full ∧
          ∃ q, t.req? id = some q ∧ q.stage = .performed ∧ q.result = Lanes.fill (BitVec.ofNat 32 (s.peek p.addr 4))) ∧
        (s.isFull p.addr = false →
          exec ev s = .next ({ s with nextId := s.nextId + 1 }.putReq { r with stage := .waiting s.nextId })))) ∧
    (∀ w vec, r.op = .store w vec → p.addr % 32 + p.len ≤ 32 → p.lane < 8 → p.off + p.len ≤ 4 →
      Answers (exec ev s) fun t => t.poisonOf p.addr p.len = s.poisonOf p.addr p.len) ∧
    (∀ w, r.op = .store w true → p.lane = 8 → p.addr % 32 = 0 → granuleSize p.addr = 32 → (∀ j : Fin 8, r.guard.get j = true) →
      Answers (exec ev s) fun t => t.poisonOf p.addr 32 = .clean)) ∧
  (∀ x y e : Word,
    (AtomOp.add.apply x y e).toNat = (x.toNat + y.toNat) % 2 ^ 32 ∧ (AtomOp.minS.apply x y e).toInt = min x.toInt y.toInt ∧
    (AtomOp.maxS.apply x y e).toInt = max x.toInt y.toInt ∧ (AtomOp.minN.apply x y e).toNat = min x.toNat y.toNat ∧
    (AtomOp.maxN.apply x y e).toNat = max x.toNat y.toNat ∧ AtomOp.and.apply x y e = x &&& y ∧ AtomOp.or.apply x y e = x ||| y ∧
    AtomOp.xor.apply x y e = x ^^^ y ∧ AtomOp.fadd.apply x y e = BitVec.ofNat 32 (fmtAdd Fmt.f32 0 x.toNat y.toNat).1 ∧
    AtomOp.xch.apply x y e = y ∧ (AtomOp.cas.apply x y x = y) ∧ (x ≠ e → AtomOp.cas.apply x y e = x))

/-- The frame allocators, range units and hash engines. `falloc` takes the lowest free frame and returns its handle, and with none free
is frame exhaustion; `fput` writes its slot and marks it present, and `ffree` frees its frame, clears its presence bits and advances the generation; a stale
handle does nothing but count (R107 to R109). A level change that is due comes before a frame request, and requests of one cycle are
applied in ascending element position (R109, R149). A completed frame sends its slots in ascending order (R145), and enter and leave tokens
move the loop-nest counter (R147). The completion tests of a cycle follow its requests and queue the frames that complete in ascending frame number, each with
the sideband of its last `fput`; a loop level keeps the presence of the slots it was handed (R145, R146, R148). `rset` makes a range of the lowest free entry, `rget` takes a chunk of it and `rfree` ends it (R340).
`hrow` opens a table and counts its keys; an insert that finds no table returns 1, and any other captures its table before its first lane;
a lane takes the first of 32 probes that is empty or holds its key, and is logged; where there is none, or the log is full, the row is
rolled back, newest entry first, and the `hins` returns 1 (R352). `hspill` writes the occupied slots as a dense run, then empties the
table and closes its row (R353). A busy engine serves no other request. (The place of a slot in an S-element's memory is log entry 49's.) -/
def Obligations.UnitRequests : Prop :=
  (∀ (s : State) (id : Nat) (r : Req) (e : ElemId), s.req? id = some r → r.stage = .sent → r.frameTarget = some e →
    (∀ q ∈ s.reqs.takeWhile (fun q => q.id != id), q.elem = r.elem → q.frameTarget = some e → q.performed = true) →
    let u := (s.elem e).frame
    let keeps := fun (t : State) => t.mem = s.mem ∧ t.regions = s.regions
    let passed := ∃ c p, u.servedAt = some (c, p) ∧ c = s.clockOf e ∧ r.elem.pos < p
    let noted := fun (t : State) => t.modFrame e fun v => { v with servedAt := some (s.clockOf e, r.elem.pos) }
    (s.levelDue e = true ∨ u.testDue (s.clockOf e) = true ∨ passed → exec (.frameRequest id) s = .next s) ∧
    (s.levelDue e = false → u.testDue (s.clockOf e) = false → ¬passed →
    (∀ sel n, r.op = .falloc sel → r.hasResponse = true → r.mate = none → u.loop = false → n < u.count → (u.at n).alloc = false →
      (∀ m, m < n → (u.at m).alloc = true) →
      Answers (exec (.frameRequest id) s) fun t => keeps t ∧
        ((t.elem e).frame.at n).alloc = true ∧ ((t.elem e).frame.at n).here = 0 ∧ ((t.elem e).frame.at n).gen = (u.at n).gen ∧
        (∀ m, m ≠ n → (t.elem e).frame.at m = u.at m) ∧
        ∃ q, t.req? id = some q ∧ q.stage = .performed ∧
          (sel < 8 → ∀ j : Fin 8, q.result.get j = BitVec.ofNat 32 (sel + 8 * n + 4096 * (u.at n).gen.toNat))) ∧
    (∀ sel, r.op = .falloc sel → (u.loop = true ∨ ∀ n, n < u.count → (u.at n).alloc = true) →
      exec (.frameRequest id) s = .next (noted (s.parkFinal r 0x0E 0 0))) ∧
    (∀ h, r.op = .fput h → u.isStale false h = true →
      exec (.frameRequest id) s = .next (noted ((s.modFrame e fun v => { v with stale := addTouch v.stale 1 }).perform r))) ∧
    (∀ h, r.op = .fput h ∨ r.op = .ffree h → u.loop = false →
      (u.isStale false h = false ↔ h.toNat < 65536 ∧ h.toNat / 8 % 32 < u.count ∧ (u.at (handleFrame h)).alloc = true ∧
        (u.at (handleFrame h)).gen.toNat = h.toNat / 4096)) ∧
    (∀ h, r.op = .fput h → u.isStale false h = false → u.busy h = true → exec (.frameRequest id) s = .next s) ∧
    (∀ h, r.op = .ffree h → u.isStale true h = false → u.busy h = true → exec (.frameRequest id) s = .next s) ∧
    (∀ h, r.op = .fput h → u.isStale false h = false → u.loop = false → (u.at (handleFrame h)).emitting = false →
      Mem.wf s.mem = true →
      let a := u.slotAddr e (16 * handleFrame h + handleOff h)
      let f := u.at (handleFrame h)
      Answers (exec (.frameRequest id) s) fun t => SameBytes s t a 32 ∧ t.peek a 32 = natOfVec r.data ∧ t.regions = s.regions ∧
        (t.elem e).frame.at (handleFrame h) = { f with here := f.here ||| (1#16 <<< handleOff h), owner := ⟨r.ctxno, r.reqtag⟩
                                                       itertag := r.itertag } ∧
        (t.elem e).frame.emitq = u.emitq ∧ (t.elem e).frame.testAt = some (s.clockOf e) ∧
        ∀ m, m ≠ handleFrame h → (t.elem e).frame.at m = u.at m) ∧
    (∀ h, r.op = .fput h → u.loop = true → (u.isStale false h = false ↔ h.toNat / 8 % 32 = 0 ∧ h.toNat / 4096 = 0 ∧
      h.toNat / 256 % 16 < u.priv + u.ovl)) ∧
    (∀ h, r.op = .fput h → u.isStale false h = false → u.loop = true → u.emitq = [] → Mem.wf s.mem = true →
      let slot := u.priv * u.lnc + handleOff h
      let a := u.slotAddr e slot
      Answers (exec (.frameRequest id) s) fun t => SameBytes s t a 32 ∧ t.peek a 32 = natOfVec r.data ∧ t.regions = s.regions ∧
        (∀ x, x ∈ (t.elem e).frame.here ↔ x = slot ∨ x ∈ u.here) ∧ (t.elem e).frame.lnc = u.lnc ∧
        (t.elem e).frame.lastOwner = ⟨r.ctxno, r.reqtag⟩ ∧ (t.elem e).frame.lastIter = r.itertag ∧
        (t.elem e).frame.emitq = [] ∧ (t.elem e).frame.testAt = some (s.clockOf e)) ∧
    (∀ h, r.op = .ffree h → u.loop = true ∨ u.isStale true h = true →
      exec (.frameRequest id) s = .next (noted ((s.modFrame e fun v => { v with stale := addTouch v.stale 1 }).perform r))) ∧
    (∀ h, r.op = .ffree h → u.isStale true h = false → u.loop = false → (u.at (handleFrame h)).emitting = false →
      Answers (exec (.frameRequest id) s) fun t => keeps t ∧
        ((t.elem e).frame.at (handleFrame h)).alloc = false ∧ ((t.elem e).frame.at (handleFrame h)).here = 0 ∧
        ((t.elem e).frame.at (handleFrame h)).gen = (u.at (handleFrame h)).gen + 1))) ∧
  (∀ (s : State) (e : ElemId),
    let x := s.elem e
    let u := x.frame
    let now := s.clockOf e
    let first := fun (slot : Nat) (tail : Bool) (o : Owner) (it : BitVec 16) =>
      QEntry.tok { data := vecOfNat (s.peek (u.slotAddr e slot) 32), tag := u.otag, head := true, tail := tail, poison := .clean
                   reqtag := o.reqtag, ctxno := o.ctxno, itertag := it }
    let needed := (List.range 16).filter fun i => u.need.getLsbD i
    let complete := (List.range u.count).filter fun n =>
      (u.at n).alloc && !(u.at n).emitting && u.need != 0 && ((u.at n).here &&& u.need) == u.need
    let queued := u.emitq ++ complete.map fun n => { frame := n, todo := needed.map (16 * n + ·), first := true
                                                     ctxno := (u.at n).owner.ctxno, reqtag := (u.at n).owner.reqtag
                                                     itertag := (u.at n).itertag : Emission }
    (u.loop = false → (∃ c, u.testAt = some c ∧ c ≤ now) →
      (queued = [] ∨ x.outFree u.out = false → (∀ m ∈ u.emitq, m.todo ≠ []) →
        Answers (exec (.frameEmit e) s) fun t => t.mem = s.mem ∧ (t.elem e).outq = x.outq ∧ (t.elem e).frame.emitq = queued ∧
          (∀ n ∈ complete, (t.elem e).frame.at n = { u.at n with emitting := true, here := 0 }) ∧
          (∀ n, n ∉ complete → (t.elem e).frame.at n = u.at n)) ∧
      (∀ n more slot rest, u.emitq = [] → complete = n :: more → needed = slot :: rest → x.outFree u.out = true →
        Answers (exec (.frameEmit e) s) fun t => t.mem = s.mem ∧
          (t.elem e).outq u.out = x.outq u.out ++ [first (16 * n + slot) rest.isEmpty (u.at n).owner (u.at n).itertag] ∧
          (t.elem e).frame.at n = { u.at n with emitting := !rest.isEmpty, here := 0 } ∧
          (∀ m ∈ more, (t.elem e).frame.at m = { u.at m with emitting := true, here := 0 }) ∧
          (t.elem e).frame.emitq.length = (if rest.isEmpty then 0 else 1) + more.length)) ∧
    (∀ slot rest, u.loop = true → (∃ c, u.testAt = some c ∧ c ≤ now) → u.emitq = [] → needed = slot :: rest → x.outFree u.out = true →
      ((∀ i ∈ needed, u.priv * u.lnc + i ∈ u.here) → Answers (exec (.frameEmit e) s) fun t => t.mem = s.mem ∧
        (t.elem e).outq u.out = x.outq u.out ++ [first (u.priv * u.lnc + slot) rest.isEmpty u.lastOwner u.lastIter] ∧
        (t.elem e).frame.lnc = u.lnc ∧
        (∀ y, y ∈ (t.elem e).frame.here ↔ y ∈ u.here ∧ ∀ i ∈ needed, y = u.priv * u.lnc + i → i < u.ovl)) ∧
      (¬(∀ i ∈ needed, u.priv * u.lnc + i ∈ u.here) → Answers (exec (.frameEmit e) s) fun t =>
        t.mem = s.mem ∧ (t.elem e).outq = x.outq ∧ (t.elem e).frame.here = u.here ∧ (t.elem e).frame.emitq = [])) ∧
    (∀ (m : Emission) rest slot more, (∀ c, u.testAt = some c → now < c) → u.emitq = m :: rest → m.todo = slot :: more →
      x.outFree u.out = true →
      Answers (exec (.frameEmit e) s) fun t => t.mem = s.mem ∧
        (t.elem e).outq u.out = x.outq u.out ++ [.tok { data := vecOfNat (s.peek (u.slotAddr e slot) 32), tag := u.otag, head := m.first
                                                        tail := more.isEmpty, poison := .clean, reqtag := m.reqtag, ctxno := m.ctxno
                                                        itertag := m.itertag }] ∧
        (u.loop = false ∨ more ≠ [] →
          (t.elem e).frame.emitq = (if more.isEmpty then rest else { m with todo := more, first := false } :: rest))) ∧
    (u.loop = true → u.emitq = [] → u.steppedAt ≠ some now → u.testDue now = false → 0 < (Table.get x.ctl u.enter : Nat) →
      Answers (exec (.loopLevelChange e) s) fun t => t.mem = s.mem ∧
        Table.get (t.elem e).ctl u.enter = (Table.get x.ctl u.enter : Nat) - 1 ∧
        (t.elem e).frame.steppedAt = some now ∧ (t.elem e).frame.testAt = some now ∧
        (u.lnc + 1 < u.levels → (t.elem e).frame.lnc = u.lnc + 1 ∧
          let base := u.priv * (u.lnc + 1)
          ∀ y, y ∈ (t.elem e).frame.here ↔ y ∈ u.here ∧ ¬(base + u.ovl ≤ y ∧ y < base + u.priv + u.ovl)) ∧
        (u.levels ≤ u.lnc + 1 → (t.elem e).frame.lnc = u.lnc ∧ (t.elem e).frame.here = u.here ∧ (t.elem e).frame.loopOver = true)) ∧
    (u.loop = true → u.emitq = [] → u.steppedAt ≠ some now → u.testDue now = false → (Table.get x.ctl u.enter : Nat) = 0 →
      0 < (Table.get x.ctl u.leave : Nat) →
      Answers (exec (.loopLevelChange e) s) fun t => t.mem = s.mem ∧ (t.elem e).frame.here = u.here ∧
        Table.get (t.elem e).ctl u.leave = (Table.get x.ctl u.leave : Nat) - 1 ∧
        (0 < u.lnc → (t.elem e).frame.lnc = u.lnc - 1) ∧
        (u.lnc = 0 → (t.elem e).frame.lnc = 0 ∧ (t.elem e).frame.loopOver = true)) ∧
    (u.emitq ≠ [] ∨ u.steppedAt = some now ∨ u.testDue now = true → exec (.loopLevelChange e) s = .next s)) ∧
  (∀ (s : State) (id : Nat) (r : Req), s.req? id = some r → r.stage = .sent →
    let v := r.data
    let die := r.elem.tile.die
    let hd := bits v.l0.toNat 16 3
    let hn := bits v.l0.toNat 0 8
    let left := (s.range hd hn).stop.toNat - (s.range hd hn).next.toNat
    let cons := (s.range hd hn).cons
    let chunk := min left (max ((left + 2 * cons - 1) / (2 * cons)) (s.range hd hn).least)
    let returns := fun (t : State) (x : Vec) => ∃ q, t.req? id = some q ∧ q.stage = .performed ∧ q.result = x
    (r.op = .rset →
      (∀ n, n < 256 → (s.range die n).live = false → (∀ m, m < n → (s.range die m).live = true) →
        Answers (exec (.rangeUnitRequest id) s) fun t => t.mem = s.mem ∧ t.range die n =
            { live := true, next := v.l0, stop := v.l1, least := max 1 (v.l2.toNat % 65536), cons := max 1 (v.l3.toNat % 65536)
              gen := (s.range die n).gen, owner := ⟨r.ctxno, r.reqtag⟩ } ∧
          Ends s t r (Lanes.fill (BitVec.ofNat 32 (n + 256 * (s.range die n).gen.toNat + 65536 * die)))) ∧
      ((∀ n, n < 256 → (s.range die n).live = true) →
        Answers (exec (.rangeUnitRequest id) s) fun t => t.dies = s.dies ∧ Ends s t r (Lanes.fill 0xFFFFFFFF))) ∧
    (r.op = .rget →
      (s.rangeStale r.ctxno v.l0 = true →
        Answers (exec (.rangeUnitRequest id) s) fun t => t.dies = s.dies ∧ Ends s t r ⟨0, 0, 0, 1, 0, 0, 0, 0⟩) ∧
      (s.rangeStale r.ctxno v.l0 = false →
        Answers (exec (.rangeUnitRequest id) s) fun t =>
          (t.range hd hn).next = (s.range hd hn).next + BitVec.ofNat 32 chunk ∧
          Ends s t r ⟨(s.range hd hn).next, BitVec.ofNat 32 chunk, BitVec.ofNat 32 (left - chunk), 0, 0, 0, 0, 0⟩)) ∧
    (r.hasResponse = true → r.mate = none → r.op = .hins → s.hashBusy r = false → r.started = false →
      (s.elem r.elem).hash.tile = none →
      Answers (exec (.hashEngineRequest id) s) fun t => t.mem = s.mem ∧ returns t (Lanes.fill 1)) ∧
    (∀ tl, r.op = .hins → s.hashBusy r = false → r.started = false → (s.elem r.elem).hash.tile = some tl →
      (s.quarter tl (s.elem r.elem).hash.quarter).row = .opened →
      exec (.hashEngineRequest id) s = .next (s.putReq { r with started := true, blk := (s.elem r.elem).hash.code tl })) ∧
    (s.hashBusy r = true → exec (.hashEngineRequest id) s = .next s) ∧
    (∀ tl, r.hasResponse = true → r.mate = none → r.op = .hins → s.hashBusy r = false → r.started = false →
      (s.elem r.elem).hash.tile = some tl → (s.quarter tl (s.elem r.elem).hash.quarter).row ≠ .opened →
      Answers (exec (.hashEngineRequest id) s) fun t => t.mem = s.mem ∧ t.full = s.full ∧ returns t (Lanes.fill 1)) ∧
    (∀ tl, r.hasResponse = true → r.mate = none → r.op = .hins → s.hashBusy r = false → r.started = true →
      (HashReg.ofCode r.blk).tile = some tl → Mem.wf s.mem = true →
      let h := HashReg.ofCode r.blk
      let k := s.quarter tl h.quarter
      let probeAt := fun (key : Word) (p : Nat) => slotAddr tl h.quarter (((key * 0x9E3779B1).toNat / 2 ^ (32 - h.lg) + p) % 2 ^ h.lg)
      let passed := fun (key : Word) (p : Nat) => s.isFull (probeAt key p) = true ∧ s.peek (probeAt key p) 4 ≠ key.toNat
      let done := fun (t : State) => if (guarded r.guard).length ≤ r.prog + 1 then returns t (Lanes.fill 0)
        else ∃ q, t.req? id = some q ∧ q.prog = r.prog + 1 ∧ q.stage = .sent
      (k.row = .failed ∨ k.row = .closed → Answers (exec (.hashEngineRequest id) s) fun t => t.mem = s.mem ∧ t.full = s.full ∧ returns t (Lanes.fill 1)) ∧
      (k.row = .opened → (guarded r.guard)[r.prog]? = none →
        Answers (exec (.hashEngineRequest id) s) fun t => t.mem = s.mem ∧ returns t (Lanes.fill 0)) ∧
      (∀ i, k.row = .opened → (guarded r.guard)[r.prog]? = some i →
        let key := r.expd.get i
        (∀ p n, p < 32 → (∀ p', p' < p → passed key p') → ¬passed key p → k.log.length < 256 →
          n = ((key * 0x9E3779B1).toNat / 2 ^ (32 - h.lg) + p) % 2 ^ h.lg →
          let a := probeAt key p
          let old := BitVec.ofNat 32 (s.peek (a + 4) 4)
          Answers (exec (.hashEngineRequest id) s) fun t => SameBytes s t a 8 ∧ t.peek a 4 = key.toNat ∧ t.isFull a = true ∧
            (t.quarter tl h.quarter).log = (n, old, !s.isFull a) :: k.log ∧ (t.quarter tl h.quarter).row = .opened ∧ done t ∧
            (s.isFull a = false → t.peek (a + 4) 4 = (r.data.get i).toNat) ∧
            (s.isFull a = true → t.peek (a + 4) 4 = (match h.op with
              | 0 => (old + r.data.get i).toNat
              | 1 => (fmtAdd Fmt.f32 0 old.toNat (r.data.get i).toNat).1
              | 2 => (if old.toInt ≤ (r.data.get i).toInt then r.data.get i else old).toNat
              | _ => (r.data.get i).toNat))) ∧
        ((∀ p, p < 32 → passed key p) ∨ 256 ≤ k.log.length →
          exec (.hashEngineRequest id) s = .next (s.modQuarter tl h.quarter fun k => { k with
            row := if k.log.isEmpty then .failed else .rolling }))) ∧
      (∀ n old wasEmpty rest, k.row = .rolling → k.log = (n, old, wasEmpty) :: rest →
        let a := slotAddr tl h.quarter n
        Answers (exec (.hashEngineRequest id) s) fun t => SameBytes s t (a + 4) 4 ∧ t.peek (a + 4) 4 = old.toNat ∧
          t.isFull a = (s.isFull a && !wasEmpty) ∧ (t.quarter tl h.quarter).log = rest ∧
          (t.quarter tl h.quarter).row = (if rest.isEmpty then .failed else .rolling))) ∧
    (∀ tl, r.hasResponse = true → r.mate = none → r.op = .hspill → s.hashBusy r = false → r.started = true → r.svc = .clear →
      (HashReg.ofCode r.blk).tile = some tl → Mem.wf s.mem = true →
      let h := HashReg.ofCode r.blk
      (∀ p rest a, r.parts = p :: rest →
        s.engineX (siteOf r.elem.tile) (s.space r.ctxno) Need.write .clear p.addr p.len = .ok [(a, p.len)] →
        s.sealHit (s.space r.ctxno) p.addr p.len = false → s.lostIn [(a, p.len)] = false → s.heldRuns [(a, p.len)] = false →
        Answers (exec (.hashEngineRequest id) s) fun t => SameBytes s t a p.len ∧ t.full = s.full ∧
          (∀ j, j < p.len → t.byte (a + j) =
            s.byte (slotAddr tl h.quarter (r.picks.getD ((p.off + j) / 8) (0, 0)).1 + (p.off + j) % 8)) ∧
          ∃ q, t.req? id = some q ∧ q.parts = rest ∧ q.st = r.st) ∧
      (∀ p rest, r.parts = p :: rest →
        (s.engineX (siteOf r.elem.tile) (s.space r.ctxno) Need.write .clear p.addr p.len = .final ∨
          ∃ segs, s.engineX (siteOf r.elem.tile) (s.space r.ctxno) Need.write .clear p.addr p.len = .ok segs ∧
            s.sealHit (s.space r.ctxno) p.addr p.len = true) →
        Answers (exec (.hashEngineRequest id) s) fun t => t.mem = s.mem ∧ t.full = s.full ∧
          ∃ q, t.req? id = some q ∧ q.parts = rest ∧ q.st = 1) ∧
      (r.parts = [] → Answers (exec (.hashEngineRequest id) s) fun t =>
        (t.quarter tl h.quarter).row = .closed ∧ (t.quarter tl h.quarter).log = [] ∧
        (∀ n, n < 2 ^ h.lg → t.isFull (slotAddr tl h.quarter n) = false ∧ t.peek (slotAddr tl h.quarter n + 4) 4 = 0) ∧
        SameBytes s t (slotAddr tl h.quarter 0) (8 * 2 ^ h.lg) ∧
        returns t ⟨BitVec.ofNat 32 r.picks.length, BitVec.ofNat 32 r.st, 0, 0, 0, 0, 0, 0⟩)) ∧
    (∀ tl, r.op = .hspill → s.hashBusy r = false → r.started = false → r.svc = .clear → (s.elem r.elem).hash.tile = some tl →
      s.engineImpure r .g true r.addr.l0 (8 * (s.occupied tl (s.elem r.elem).hash.quarter (s.elem r.elem).hash.lg).length) = none →
      let h := (s.elem r.elem).hash
      let full := (List.range (2 ^ h.lg)).filter fun n => s.isFull (slotAddr tl h.quarter n)
      let va := r.addr.l0
      Answers (exec (.hashEngineRequest id) s) fun t => t.mem = s.mem ∧ t.full = s.full ∧
        ∃ q, t.req? id = some q ∧ q.started = true ∧ q.picks.map (·.1) = full ∧ q.blk = h.code tl ∧
          (∀ p ∈ q.parts, p.addr = va + p.off ∧ p.addr % 32 + p.len ≤ 32 ∧ p.off + p.len ≤ 8 * full.length) ∧
          ∀ j, j < 8 * full.length → ∃ p ∈ q.parts, p.off ≤ j ∧ j < p.off + p.len) ∧
    (∀ tl q, r.hasResponse = true → r.mate = none → r.op = .hrow → s.hashBusy r = false → s.quarterOf r.elem.tile r.addr.l0 = some (tl, q) → 4 ≤ v.l1.toNat % 16 → v.l1.toNat % 16 ≤ 14 →
      Answers (exec (.hashEngineRequest id) s) fun t => t.mem = s.mem ∧ t.full = s.full ∧ (t.quarter tl q).row = .opened ∧
        (t.quarter tl q).log = [] ∧ (t.elem r.elem).hash.tile = some tl ∧ (t.elem r.elem).hash.lg = v.l1.toNat % 16 ∧
        returns t (Lanes.fill (BitVec.ofNat 32
          ((List.range (2 ^ (v.l1.toNat % 16))).countP fun n => s.isFull (slotAddr tl q n)))))) ∧
  (∀ (s : State) (id : Nat) (r : Req) (h : Word), s.req? id = some r → r.stage = .sent → r.op = .rfree → r.data.l0 = h →
    s.rangeStale r.ctxno h = false →
    Answers (exec (.rangeUnitRequest id) s) fun t =>
      (t.range (bits h.toNat 16 3) (bits h.toNat 0 8)).live = false ∧
      (t.range (bits h.toNat 16 3) (bits h.toNat 0 8)).gen = (s.range (bits h.toNat 16 3) (bits h.toNat 0 8)).gen + 1)

/-- Seals (R341 to R343). A `seal` of a range that no marked entry shares a byte with, and that no write under way touches, marks the lowest free entry and waits for the seal
engine of its die; an unsealed entry of exactly the range is marked again, and with the table full the least recently sealed unsealed
entry is reclaimed. Of a sealed range it returns the digest at once; of one that is hashing it waits and takes that outcome; of one that
shares bytes with another marked range, of no byte, or where no entry can be had, it fails, with 0 and q6 set. When the range has been read clean, the
entry is sealed with the SHA3-256 of its bytes; on poison it is unsealed and the `seal` fails. `unseal` makes a sealed entry unsealed and
advances its generation, and of a range that is not sealed does nothing. (The hash function is FIPS 202's, log entry 13; that the mark waits for a write into its range that is under way
is log entry 49's.) -/
def Obligations.Seals : Prop :=
  (∀ (s : State) (id : Nat) (r : Req) (base len : Nat), s.req? id = some r → r.stage = .sent → r.started = false →
    let sp := s.space r.ctxno
    let fails := { r with result := Lanes.fill 0, rpois := Lanes.fill .data }
    (r.op = .sealRange base len → s.writeUnderWay sp base len = true → exec (.sealMark id) s = .next s) ∧
    let marked := fun (t : State) (n : Nat) (e : SealEnt) => t.mem = s.mem ∧ Table.get t.seals n = e ∧
      (∀ m, m ≠ n → Table.get t.seals m = Table.get s.seals m) ∧
      (t.die r.elem.tile.die).sealq = (s.die r.elem.tile.die).sealq ++ [id] ∧ t.req? id = some { r with started := true, prog := n }
    (r.op = .sealRange base len → s.writeUnderWay sp base len = false →
      (∀ n e, s.sealOf sp base len = some (n, e) → e.st = .hashing →
        exec (.sealMark id) s = .next ({ s with nextId := s.nextId + 1 }.putReq { r with stage := .waiting s.nextId })) ∧
      (∀ n e, s.sealOf sp base len = some (n, e) → e.st = .unsealed →
        (s.sealHit sp base len = true → exec (.sealMark id) s = .next (s.finishReq fails)) ∧
        (s.sealHit sp base len = false → Answers (exec (.sealMark id) s) fun t => marked t n { e with st := .hashing })) ∧
      (s.sealOf sp base len = none → s.sealHit sp base len = false → 0 < len →
        (∀ n, n < 8192 → (Table.get s.seals n).st ≠ .free) →
        (∀ n, (s.seals.map (·.1)).Nodup → (Table.get s.seals n).st = .unsealed →
          (∀ m, m ≠ n → (Table.get s.seals m).st = .unsealed → (Table.get s.seals n).order < (Table.get s.seals m).order) →
          Answers (exec (.sealMark id) s) fun t => marked t n { space := sp, base := base, len := len, st := .hashing, gen := 0 } ∧
            ∀ d k, (Table.get (s.die d).reuse k).st = .live → (Table.get (s.die d).reuse k).pairs.any (fun p => p.1 == n) = true →
              (Table.get (t.die d).reuse k).st = .dead) ∧
        ((∀ p ∈ s.seals, p.2.st ≠ .unsealed) → exec (.sealMark id) s = .next (s.finishReq fails))) ∧
      (s.sealOf sp base len = none → s.sealHit sp base len = true → exec (.sealMark id) s = .next (s.finishReq fails)) ∧
      (∀ n e, s.sealOf sp base len = some (n, e) → e.st = .sealed →
        exec (.sealMark id) s = .next (s.finishReq { r with result := e.digest, rpois := Lanes.fill .clean })) ∧
      (s.sealOf sp base len = none → s.sealHit sp base len = false → 0 < len → ∀ n, n < 8192 → (Table.get s.seals n).st = .free →
        (∀ m, m < n → (Table.get s.seals m).st ≠ .free) →
        Answers (exec (.sealMark id) s) fun t => t.mem = s.mem ∧
          Table.get t.seals n = { space := sp, base := base, len := len, st := .hashing, gen := 0 } ∧
          (∀ m, m ≠ n → Table.get t.seals m = Table.get s.seals m) ∧
          (t.die r.elem.tile.die).sealq = (s.die r.elem.tile.die).sealq ++ [id])) ∧
    (r.op = .sealRange base 0 → s.writeUnderWay sp base 0 = false → s.sealOf sp base 0 = none →
      exec (.sealMark id) s = .next (s.finishReq fails)) ∧
    (r.op = .unsealRange base len → (∀ n e, s.sealOf sp base len = some (n, e) → e.st ≠ .sealed) →
      exec (.unsealRequest id) s = .next (s.perform r)) ∧
    (r.op = .unsealRange base len → ∀ n e, s.sealOf sp base len = some (n, e) → e.st = .sealed →
      Answers (exec (.unsealRequest id) s) fun t => t.mem = s.mem ∧ Table.get t.seals n = { e with st := .unsealed, gen := e.gen + 1 } ∧
        ∀ m, m ≠ n → Table.get t.seals m = Table.get s.seals m)) ∧
  (∀ (s : State) (die id : Nat) (rest : List Nat) (r : Req) (base len : Nat) (segs : List Seg),
    (s.die die).sealq = id :: rest → s.req? id = some r → r.op = .sealRange base len → r.svc = .clear →
    let e := Table.get s.seals r.prog
    (∀ q, q ∈ s.reqs → q.arrival = none) → s.engineRange (siteOf r.elem.tile) e.space Need.read .clear base len = .ok segs →
    let d := s.engineRead segs
    Answers (exec (.sealHashEnd die) s) fun t => t.mem = s.mem ∧ (t.die die).sealq = rest ∧
      (d.2 = .clean → (Table.get t.seals r.prog).st = .sealed ∧ (Table.get t.seals r.prog).digest = vecOfNat (sha3 d.1)) ∧
      (d.2 ≠ .clean → Table.get t.seals r.prog = { e with st := .unsealed })) ∧
  (∀ (s : State) (die id : Nat) (rest : List Nat) (r w : Req) (base len : Nat) (segs : List Seg),
    (s.die die).sealq = id :: rest → s.req? id = some r → r.op = .sealRange base len → r.svc = .clear →
    let e := Table.get s.seals r.prog
    s.sealWaiters e.space base len = [w] → s.req? w.id = some w → w.id ≠ id → w.elem.key ≠ r.elem.key → w.image = none →
    r.image = none → s.engineRange (siteOf r.elem.tile) e.space Need.read .clear base len = .ok segs →
    let d := s.engineRead segs
    Answers (exec (.sealHashEnd die) s) fun t =>
      let k := (s.elem w.elem).bank w.bank
      let k' := (t.elem w.elem).bank w.bank
      t.req? id = none ∧ t.req? w.id = none ∧ (w.dest.toNat < 15 → k.epoch = w.epoch →
        k'.reg w.dest.toNat = (k.reg w.dest.toNat).write w.guard (if d.2 = .clean then vecOfNat (sha3 d.1) else Lanes.fill 0) .clean ∧
        k'.pred 6 = (k.pred 6).write w.guard (if d.2 = .clean then Lanes.fill 0 else Lanes.fill 1)))

/-! ## Engines: streams, copies, matrix operations and page selections -/

namespace Sys2Proof.Claims

/-- A scoreboard token is idle with a count and an outcome in its status word (R247, Table 12.1). -/
def Idle (t : State) (e : ElemId) (sb got st : Nat) : Prop :=
  (t.elem e).sbBusy.getLsbD sb = false ∧ Table.get (t.elem e).sbStat sb = BitVec.ofNat 32 (min 0xFFFFFF got + 2 ^ 28 * st)

/-- The stream that runs at a port. -/
def Runs (s : State) (tile : TileId) (port : BitVec 4) (r : Req) : Prop :=
  ∃ n, (s.port tile port.toNat).running = some n ∧ s.req? n = some r

/-- A stream that is not parked or waiting for the driver, with a token still to be moved that its task may move. -/
def Streams (s : State) (tile : TileId) (port : BitVec 4) (r : Req) : Prop :=
  Runs s tile port r ∧ r.stage = .sent ∧ r.svc = .clear ∧ r.prog < sdTotal r.blk ∧
    (s.regionAt tile).enginesStop = false ∧ (s.regionAt tile).pure = false ∧ r.elem.tile = tile

/-- An accumulator entry through the groups of its products, in order (R167): an empty group leaves its bits, and any other adds the exact sum
of its products with one rounding; an entry that is infinite stays so (R315; log entry 49). -/
def Chain (groups : Nat) (prods : Nat → List XVal) (x y : Word) : Prop :=
  ∃ acc : Nat → Word, acc 0 = x ∧ acc groups = y ∧ ∀ g, g < groups →
    acc (g + 1) = if prods g = [] ∨ (f32Of (acc g)).isInf = true then acc g
      else BitVec.ofNat 32 (rounded Fmt.f32 0 (sumX 0 [f32Of (acc g), (sumX 0 (prods g)).1])).1

/-- The exact product of two scaled elements; that of two integers has no −0 (R167). -/
def product (f : MFmt) (x y : XVal) : XVal := if f.int && (mulX x y).1.isZero then .fin false 0 0 false else (mulX x y).1

/-- `w` bits of a number from bit `lo`. -/
def field (v lo w : Nat) : Nat := v / 2 ^ lo % 2 ^ w

/-- The data of tokens side by side, the first lowest (R266). -/
def imageBits (l : List Tok) : Nat := l.foldr (fun t a => natOfVec t.data + 2 ^ 256 * a) 0

/-- An element of a format with the e8m0 scale of its row or column at k (R155, R266). -/
def scaledAt (c scales v line k : Nat) : XVal :=
  let f := mfmt c
  let e := field scales (8 * (f.kt / 32 * line + k / 32)) 8
  if f.scaled then (if e = 255 then .nan else (mval c v).scale ((e : Int) - 127)) else mval c v

/-- The scale token of a burst, and what follows it (R266). -/
def scalesOf (c : Nat) (l : List Tok) : Nat := if (mfmt c).scaled then imageBits (l.take 1) else 0
def bodyOf (c : Nat) (l : List Tok) : List Tok := if (mfmt c).scaled then l.drop 1 else l

/-- The scaled elements of A that stand at row r and k (R266): one, or, of a compressed burst, the kept elements whose index names k
(R269). -/
def valuesA (c : Nat) (sparse : Bool) (l : List Tok) (r k : Nat) : List XVal :=
  let f := mfmt c
  let body := bodyOf c l
  if sparse then
    ((List.range (f.kt / 2)).filter fun v => 4 * (v / 2) + field (imageBits (body.take f.info)) (f.kt * r + 2 * v) 2 == k).map fun v =>
      scaledAt c (scalesOf c l) (field (imageBits (body.drop f.info)) (f.w * (f.kt / 2 * r + v)) f.w) r k
  else [scaledAt c (scalesOf c l) (field (imageBits body) (f.w * (f.kt * r + k)) f.w) r k]

/-- The scaled element of B at k and column n (R266). -/
def valueB (c : Nat) (l : List Tok) (k n : Nat) : XVal :=
  scaledAt c (scalesOf c l) (field (imageBits (bodyOf c l)) ((mfmt c).w * (16 * k + n)) (mfmt c).w) n k

/-- The products of group g of an operation, its tiles one after another (R167, R268): `at_` gives those of a tile at a k. -/
def groupOf (c : Nat) (tiles : List (List Tok × List Tok)) (at_ : List Tok × List Tok → Nat → List XVal) (g : Nat) : List XVal :=
  let f := mfmt c
  let n := f.kt / f.g
  (List.range f.g).flatMap fun d => at_ (tiles.getD (g / n) ([], [])) (f.g * (g % n) + d)

/-- The columns of a row that a prune setting keeps (R273, Table 12.10): of each group the largest magnitudes, a NaN above every number and
ties to the lower column. -/
def keptColumns (p : Nat) (row : Nat → Word) : List Nat :=
  let rank := fun (w : Word) => if (f32Of w).isNan then 2 ^ 32 else w.toNat % 2 ^ 31
  let keep := fun (n m : Nat) => (List.range 16).filter fun c =>
    decide (((List.range m).countP fun j =>
      let b := c / m * m + j
      decide (rank (row c) < rank (row b)) || (rank (row c) == rank (row b) && decide (b < c))) < n)
  match p with
  | 1 | 2 => keep 2 4
  | 3 => keep 1 4
  | 4 => keep 2 8
  | 5 => keep 4 8
  | _ => List.range 16

/-- The pattern of an f32 NaN, and the place of any other pattern among the numbers, with −0 at +0. -/
def isNanW (w : Word) : Bool := decide (0x7F800000 < w.toNat % 2 ^ 31)
def rankW (w : Word) : Int := if 2 ^ 31 ≤ w.toNat then -((w.toNat : Int) - 2 ^ 31) else w.toNat

/-- A score goes before another (R347, R349): the larger, and a NaN before every number. -/
def above (a b : Word) : Bool := !isNanW b && (isNanW a || decide (rankW b < rankW a))

/-- The tokens of a burst that the intake takes for an operand (R270): its E. -/
def sizeA (i : Intake) : Nat :=
  let f := mfmt i.fmt
  if i.kind = .macl then 32 else (if f.scaled then 1 else 0) + (if i.kind = .mmas then f.info + f.data / 2 else f.data)
def sizeB (i : Intake) : Nat := if i.kind = .macl then 0 else (if (mfmt i.fmt).scaled then 1 else 0) + (mfmt i.fmt).data

/-- A burst leaves no poison (R270): it holds no poisoned token, and its last token has tail exactly where it is the E-th. -/
def WellFramed (size : Nat) (l : List Tok) : Prop :=
  (∀ k ∈ l, k.poison = .clean) ∧ ∀ k, l.getLast? = some k → (k.tail = true ↔ l.length = size)

/-- A tile is formed of two bursts (R268, R270): it stands behind the others, the next one is begun, and a scout keeps its query; the
operation's accumulator is to be poisoned unless it and both bursts are clean. -/
def Formed (i : Intake) (la lb : List Tok) (z : Intake) : Prop :=
  z.tiles = i.tiles ++ [(la, lb)] ∧ z.todo = i.todo.tail ∧ z.bcur = [] ∧ z.bdone = false ∧
    z.acur = (if i.kind = .scout then la else []) ∧ (z.adone = true ↔ i.kind = .scout) ∧ z.acc = i.acc ∧
    (z.bad = .clean ↔ i.bad = .clean ∧ WellFramed (sizeA i) la ∧ WellFramed (sizeB i) lb)

/-- An operation with two bursts under way, each of them taken whole or not yet. -/
def Under (i : Intake) (la lb : List Tok) (da db : Prop) (z : Intake) : Prop :=
  z.acur = la ∧ z.bcur = lb ∧ (z.adone = true ↔ da) ∧ (z.bdone = true ↔ db) ∧ z.tiles = i.tiles ∧ z.todo = i.todo ∧ z.bad = i.bad ∧
    z.acc = i.acc

/-- The source of a place has had its turn at a class of a tile in this cycle: its token or one of a later place has entered it; and it is
the turn of a place: it has not had it, and every source of an earlier place whose token stands at the class has (R286). -/
def HadTurn (s : State) (t : TileId) (c m : Nat) : Prop :=
  m < 272 ∧ ∃ x, Table.find (s.tile t).entered c = some x ∧ x.1 = (s.regionAt t).clock ∧ m ≤ x.2
def Turn (s : State) (t : TileId) (c m : Nat) : Prop :=
  ¬HadTurn s t c m ∧ ∀ n, n < m → n < 272 → s.placeEnters c t n = true → HadTurn s t c n

/-- A copy of a scoreboard token that is under way at its dispatcher. -/
def Copies (s : State) (e : ElemId) (sb : BitVec 3) (r : Req) : Prop :=
  s.copyOf e sb.toNat = some r ∧ s.req? r.id = some r ∧ r.stage = .sent ∧ r.mate = none

end Sys2Proof.Claims

/-- Streams (R250, R253, R254). The waiting start of an idle port begins, and one with an invalid descriptor completes with st 4. A read
stream issues its next token, reads a block of one that it has issued, or delivers the first of them with the head and tail of its burst
and moves on: which of these comes next is free (R253; log entry 27). A write stream takes the token that the router handed to its port,
writes its 32 bytes and no other byte, with the token's poison, one aligned block of 32 bytes in a step, the first of two free (R236); a
final fault, a sealed byte or a lost link drops the token with st 6 (for the lost link: log entry 12). A stream whose tokens are moved, or that was stopped and has nothing left that it has issued or taken, makes
its scoreboard token idle. -/
def Sys2Proof.Claims.StreamEngine : Prop :=
  (∀ (s : State) (tile : TileId) (port : BitVec 4) (n : Nat) (r : Req), (s.port tile port.toNat).running = none →
    (s.port tile port.toNat).waiting = some n → s.req? n = some r → r.stage = .sent → r.elem.tile = tile → r.parent = none →
    r.sb < 8 →
    (sdBad r.blk = false →
      exec (.streamStart tile port) s = .next (s.modPort tile port.toNat fun p => { p with running := some n, waiting := none })) ∧
    (sdBad r.blk = true → Answers (exec (.streamStart tile port) s) fun t =>
      t.mem = s.mem ∧ (t.port tile port.toNat).running = none ∧ (t.port tile port.toNat).waiting = none ∧ Idle t r.elem r.sb 0 4)) ∧
  (∀ (s : State) (tile : TileId) (port : BitVec 4) (r : Req), Streams s tile port r →
    let sp := spaceCode (sdSpc r.blk)
    let va := sdAddr r.blk r.off r.prog
    let blen := sdBlen r.blk
    let more := fun (t : State) (st : Nat) => ∃ q, t.req? r.id = some q ∧ q.prog = r.prog + 1 ∧ q.got = r.got + 1 ∧ q.st = max r.st st
    (sdDir r.blk = 0 → (s.regionAt tile).hold = false →
      let acts := s.streamActs r port.toNat false
      let act := acts[Config.blockPlace s.fresh % acts.length]?
      let waits := (∃ a rest, r.ahead = a :: rest ∧ a.parts = [] ∧ s.deliverAhead r port.toNat a rest = none)
      (StreamAct.issue ∈ acts ↔ r.stop = false ∧ r.issued < sdTotal r.blk ∧ ¬waits) ∧
      (∀ segs, act = some .issue → s.engineRuns r sp Need.read (sdAddr r.blk r.off r.issued) 32 = .ok segs →
        Answers (exec (.streamToken tile port) s) fun t => t.mem = s.mem ∧ t.elems = s.elems ∧
          t.req? r.id = some { r with ahead := r.ahead ++ [{ parts := tokenParts segs }] }) ∧
      (act = some .issue → s.engineRuns r sp Need.read (sdAddr r.blk r.off r.issued) 32 = .final →
        Answers (exec (.streamToken tile port) s) fun t => t.mem = s.mem ∧ t.elems = s.elems ∧
          t.req? r.id = some { r with ahead := r.ahead ++ [{ pois := .data, st := 1 }] }) ∧
      (∀ n p, act = some (.read n p) → r.lostPorts = [] → s.linkLost p.addr = false →
        Answers (exec (.streamToken tile port) s) fun t => t.mem = s.mem ∧ t.elems = s.elems ∧
          t.req? r.id = some { r with ahead := r.ahead.modify n fun a => { a with
            parts := a.parts.filter (· != p), data := setBits a.data (8 * p.off) (8 * p.len) (s.peek p.addr p.len)
            pois := a.pois.join (s.poisonOf p.addr p.len)
            st := max a.st (if s.poisonOf p.addr p.len = .clean then 0 else 1) } }) ∧
      (∀ a rest e, act = some .deliver → r.ahead = a :: rest → bits r.blk 21 1 = 0 → e = ⟨tile, bits r.blk 8 7⟩ →
        Answers (exec (.streamToken tile port) s) fun t => t.mem = s.mem ∧ more t a.st ∧
          (∃ q, t.req? r.id = some q ∧ q.ahead = rest) ∧
          (t.elem e).inq 4 = (s.elem e).inq 4 ++ [.tok { data := vecOfNat a.data
                                                         tag := BitVec.ofNat 4 (bits r.blk 4 4), head := r.prog % blen == 0
                                                         tail := r.prog % blen == blen - 1 || r.prog + 1 == sdTotal r.blk
                                                         poison := a.pois, reqtag := r.reqtag, ctxno := r.ctxno
                                                         itertag := r.itertag }])) ∧
    (∀ tok rest, sdDir r.blk = 1 → (s.port tile port.toNat).inbox = tok :: rest → r.lostPorts = [] → Mem.wf s.mem = true →
      let st := if tok.poison = .clean then 0 else 1
      let writes := fun (p : Part) (ps : List Part) => Answers (exec (.streamToken tile port) s) fun t => SameBytes s t p.addr p.len ∧
        (∀ j, j < p.len → t.byte (p.addr + j) = BitVec.ofNat 8 (natOfVec tok.data / 2 ^ (8 * (p.off + j)))) ∧
        (ps = [] → (t.port tile port.toNat).inbox = [] ∧ more t st ∧ ∃ q, t.req? r.id = some q ∧ q.ahead = []) ∧
        (ps ≠ [] → (t.port tile port.toNat).inbox = tok :: rest ∧
          t.req? r.id = some { r with ahead := [{ parts := ps }], st := max r.st st })
      (∀ a, r.ahead = [] → s.engineRuns r sp Need.write va 32 = .ok [(a, 32)] →
        (sp ≠ .g ∨ s.sealHit (s.space r.ctxno) va.toNat 32 = false) → s.lostIn [(a, 32)] = false → s.heldRuns [(a, 32)] = false →
        s.linkLost a = false →
        (a % 32 = 0 → writes ⟨0, 0, a, 32⟩ [] ∧
          (granuleSize a = 32 → Answers (exec (.streamToken tile port) s) fun t => t.poisonOf a 32 = tok.poison)) ∧
        (a % 32 ≠ 0 → s.linkLost (a + (32 - a % 32)) = false →
          let low : Part := ⟨0, 0, a, 32 - a % 32⟩
          let high : Part := ⟨0, 32 - a % 32, a + (32 - a % 32), a % 32⟩
          writes low [high] ∨ writes high [low])) ∧
      (∀ x behind p ps, r.ahead = x :: behind → x.parts = p :: ps → s.heldRuns [(p.addr, p.len)] = false → p.off + p.len ≤ 32 →
        (s.linkLost p.addr = false → writes p ps) ∧
        (s.linkLost p.addr = true → Answers (exec (.streamToken tile port) s) fun t => t.mem = s.mem ∧ (ps = [] → more t 6)))) ∧
    (∀ tok rest, sdDir r.blk = 1 → (s.port tile port.toNat).inbox = tok :: rest → r.ahead = [] →
      (s.engineRuns r sp Need.write va 32 = .final ∨ ∃ segs, s.engineRuns r sp Need.write va 32 = .ok segs ∧
        ((sp = .g ∧ s.sealHit (s.space r.ctxno) va.toNat 32 = true) ∨ s.lostIn segs = true)) →
      Answers (exec (.streamToken tile port) s) fun t => t.mem = s.mem ∧ (t.port tile port.toNat).inbox = [] ∧ more t 6)) ∧
  (∀ (s : State) (tile : TileId) (port : BitVec 4) (r : Req), Runs s tile port r → r.stage = .sent → r.elem.tile = tile →
    r.parent = none → r.mate = none → r.sb < 8 →
    let left := r.ahead ≠ [] ∨ (s.port tile port.toNat).inbox ≠ []
    ((r.stop = true ∧ ¬left) ∨ sdTotal r.blk ≤ r.prog →
      Answers (exec (.streamComplete tile port) s) fun t => t.mem = s.mem ∧ (t.port tile port.toNat).running = none ∧
        Idle t r.elem r.sb r.got (if r.stop then 7 else r.st)) ∧
    (r.prog < sdTotal r.blk → (r.stop = false ∨ left) → exec (.streamComplete tile port) s = .next s))

/-- Copies and routed updates (R255, R258 to R261, R263, R264). The block of a copy is captured as it is read; poisoned, the copy
completes with st 1, and with a block that Table 12.4 does not allow with st 4. A copy checks its chunks in order, and reads and writes
the 32-byte blocks of the chunks that it has checked, a block that several of them share in one step; which act comes next is free (R236,
R259; log entry 12). A block that is written gets the bytes that were read for it, and no other byte changes, nor any byte behind a lost
link (log entry 12); after the last block the token is idle. A routed update changes one word by
the operation of its entry. -/
def Sys2Proof.Claims.CopyEngine : Prop :=
  (∀ (s : State) (e : ElemId) (sb : BitVec 3) (r : Req) (segs : List Seg), Copies s e sb r → r.started = false →
    s.blockWaits r = false → s.blockRuns r = .ok segs → (s.regionAt r.elem.tile).pure = false →
    (∀ g ∈ segs, remoteRefuses g.1 = false) → r.sb < 8 →
    let d := s.engineRead segs
    let q := { r with blk := numOf d.1, started := true, parts := [], svc := .clear }
    Answers (exec (.copyCapture e sb) s) fun t => t.mem = s.mem ∧
      (d.2 ≠ .clean → Idle t r.elem r.sb 0 1) ∧
      (d.2 = .clean → copyBad q = true → Idle t r.elem r.sb 0 4) ∧
      (d.2 = .clean → copyBad q = false → ∃ z, t.req? r.id = some z ∧ z.blk = numOf d.1 ∧ z.started = true ∧
        z.exit = decide (cbDsp (numOf d.1) = 2))) ∧
  (∀ (s : State) (e : ElemId) (sb : BitVec 3) (r : Req), Copies s e sb r → r.started = true →
    ((s.regionAt e.tile).pure = false → (s.regionAt e.tile).life ≠ .folding → (s.regionAt e.tile).enginesStop = false →
      let acts := s.copyActs r false
      let act := acts[Config.blockPlace s.fresh % acts.length]?
      (CopyAct.check ∈ acts ↔ r.svc.waits = false ∧ r.prog < r.chunks) ∧
      (∀ k a b n, act = some .check → r.chunkElems r.prog = [k] →
        ({ s with fresh := s.fresh + 1 }.chunkTlb { r with preempted := false } [k]).elemRuns { r with preempted := false } k =
          (.ok [(a, n)], .ok [(b, n)]) →
        0 < n → b % 32 + n ≤ 32 → s.lostIn [(b, n)] = false →
        (cbDsp r.blk ≠ 2 ∨ s.sealHit (s.space r.ctxno) (r.copyAddr k).2.toNat (cbEsz r.blk) = false) →
        Answers (exec (.copyChunk e sb) s) fun t => t.mem = s.mem ∧ ∃ q, t.req? r.id = some q ∧ q.prog = r.prog + 1 ∧ q.st = r.st ∧
          q.todo = r.todo ++ [⟨r.prog, b / 32, (List.range n).map fun j => ⟨b + j, some (a + j)⟩⟩]) ∧
      let read := fun (x : CopyBlock) (m : ByteMove) => ∀ a, m.src = some a → ∃ z ∈ r.cache, z.chunk = x.chunk ∧ z.block = a / 32
      (∀ b, act = some (.read b) → r.lostPorts = [] → s.linkLost (32 * b) = false →
        Answers (exec (.copyChunk e sb) s) fun t => t.mem = s.mem ∧ ∃ q, t.req? r.id = some q ∧ q.todo = r.todo ∧
          ∃ cs : List Nat, cs.Nodup ∧
            (∀ c, c ∈ cs ↔ ∃ x ∈ r.todo, x.chunk = c ∧ ∃ m ∈ x.moves, ∃ a, m.src = some a ∧ a / 32 = b ∧ ¬read x m) ∧
            q.cache = r.cache ++ cs.map fun c => ⟨c, b, Mem.readBytes s.mem (32 * b) 32, s.poisonOf (32 * b) 32, false⟩) ∧
      (∀ b, CopyAct.write b ∈ acts → (∃ x ∈ r.todo, x.block = b) ∧ ∀ x ∈ r.todo, x.block = b → ∀ m ∈ x.moves, read x m) ∧
      (∀ b, act = some (.write b) → Mem.wf s.mem = true → r.lostPorts = [] → s.linkLost (32 * b) = false →
        let xs := r.todo.filter fun x => x.block == b
        (∀ x ∈ xs, ∀ m ∈ x.moves, m.dst / 32 = b) → ((xs.flatMap (·.moves)).map (·.dst)).Nodup →
        Answers (exec (.copyChunk e sb) s) fun t => SameBytes s t (32 * b) 32 ∧
          (∀ c, (∀ x ∈ xs, ∀ m ∈ x.moves, m.dst ≠ c) → t.byte c = s.byte c) ∧
          (∀ x ∈ xs, ∀ m ∈ x.moves, t.byte m.dst = (r.moved x.chunk m).1) ∧
          (∀ x ∈ xs, ∀ m ∈ x.moves, ∀ a y, m.src = some a →
            r.cache.find? (fun z => z.chunk == x.chunk && z.block == a / 32) = some y →
            y.lost = false → r.moved x.chunk m = (y.bytes.getD (a % 32) 0, y.pois, if y.pois = .clean then 0 else 1)) ∧
          ∃ q, t.req? r.id = some q ∧ q.todo = (r.todo.filter fun x => x.block != b) ∧ r.st ≤ q.st) ∧
      (∀ b, act = some (.write b) → r.lostPorts = [] → s.linkLost (32 * b) = true →
        Answers (exec (.copyChunk e sb) s) fun t => t.mem = s.mem ∧
          ∃ q, t.req? r.id = some q ∧ q.todo = (r.todo.filter fun x => x.block != b) ∧ r.st ≤ q.st)) ∧
    (r.chunks ≤ r.prog → r.todo = [] → r.sb < 8 →
      Answers (exec (.copyComplete e sb) s) fun t => t.mem = s.mem ∧ Idle t r.elem r.sb r.got r.st) ∧
    (∀ k, cbNd r.blk = 1 → k < cbW r.blk 0 →
      let near : Int := cbEsz r.blk * k
      let far : Int := k * cbEsz r.blk * cbIv r.blk 0
      r.copyAddr k = (if cbDir r.blk = 0 then (((r.srcBase : Int) + far) % 2 ^ 64, (r.dstBase : Int) + near)
        else ((r.srcBase : Int) + near, ((r.dstBase : Int) + far) % 2 ^ 64)))) ∧
  (∀ (s : State) (id : Nat) (r : Req) (op : Nat) (p : Part), s.req? id = some r → r.op = .gsend op → r.parts = [p] → p.lane < 8 →
    Mem.wf s.mem = true → s.heldRuns [(p.addr, 4)] = false →
    let x := BitVec.ofNat 32 (s.peek p.addr 4)
    let y := r.data.get (Fin.ofNat 8 p.lane)
    Answers (exec (.rmwApply id) s) fun t => SameBytes s t p.addr 4 ∧ t.full = s.full ∧
      (op ≠ 1 → s.poisonOf p.addr 4 ≠ .clean → t.mem = s.mem) ∧
      (op = 1 → t.peek p.addr 4 = y.toNat) ∧
      (s.poisonOf p.addr 4 = .clean → ∀ z ∈ [(2, x + y), (4, if x.toInt ≤ y.toInt then x else y), (5, if x.toInt ≤ y.toInt then y else x),
          (6, if x.toNat ≤ y.toNat then x else y), (7, if x.toNat ≤ y.toNat then y else x), (8, x &&& y), (9, x ||| y), (10, x ^^^ y)],
        op = z.1 → t.peek p.addr 4 = z.2.toNat))

/-- The stream engines (R250, R253, R254), the copy engine (R255, R258 to R261) and routed updates (R263, R264). -/
def Obligations.StreamsAndCopies : Prop := StreamEngine ∧ CopyEngine

/-- The matrix elements and the threshold unit (R268 to R272, R309 to R311, R347). The intake takes tokens in order from its queues, a burst
ending with its tail or its E-th token; a burst with a poisoned token, or with another framing, leaves the accumulator poisoned (R270). When
all its tiles are taken it writes its accumulator in one step: `macl` the values of its 32 tokens, `mma`, `mmam` and `mmas` each entry with
the exact sums of its groups of products added one by one, a compressed A giving the products its indexes name, and the checksum vectors
with the sums of rows and columns; a scout the largest score of each key tile. A drain sends its array, pruned, in f32, in 16 bits or
compressed, and then its checksum vectors, and with its last token raises the flags of all its conversions (R163) and clears the
accumulator unless it keeps it; the threshold unit writes its
mask; a soft error flips bits. (That an infinite entry stays infinite, and a sum of both infinities in a checksum operand, are the model's
choices, log entries 49 and 47.) -/
def Sys2Proof.Claims.MatrixEngine : Prop :=
  (∀ (s : State) (e : ElemId) (i : Intake) (tok : Tok) (rest : List QEntry),
    let x := s.elem e
    let lastA := fun (k : Tok) => k.tail = true ∨ i.acur.length + 1 = sizeA i
    let lastB := fun (k : Tok) => k.tail = true ∨ i.bcur.length + 1 = sizeB i
    let takes := fun (p : State → Intake → Prop) => Answers (exec (.intakeBurst e) s) fun t => t.mem = s.mem ∧ (t.elem e).acs = x.acs ∧
      ∃ z, (t.elem e).intake = some z ∧ p t z
    x.intake = some i → i.todo ≠ [] → i.aq ≠ i.bq →
    (i.adone = false → x.inq i.aq = .tok tok :: rest → (i.kind = .macl ∨ i.bdone = true ∨ x.head i.bq = none) →
      takes fun t z => (t.elem e).inq i.aq = rest ∧ (t.elem e).inq i.bq = x.inq i.bq ∧
        (lastA tok ∧ (i.kind = .macl ∨ i.bdone = true) → Formed i (i.acur ++ [tok]) i.bcur z) ∧
        (¬(lastA tok ∧ (i.kind = .macl ∨ i.bdone = true)) →
          Under i (i.acur ++ [tok]) i.bcur (lastA tok) (i.bdone = true) z)) ∧
    (i.kind ≠ .macl → i.bdone = false → x.inq i.bq = .tok tok :: rest → (i.adone = true ∨ (x.head i.aq = none ∧ i.kind ≠ .scout)) →
      takes fun t z => (t.elem e).inq i.bq = rest ∧ (t.elem e).inq i.aq = x.inq i.aq ∧
        (lastB tok ∧ i.adone = true → Formed i i.acur (i.bcur ++ [tok]) z) ∧
        (¬(lastB tok ∧ i.adone = true) → Under i i.acur (i.bcur ++ [tok]) (i.adone = true) (lastB tok) z)) ∧
    (∀ tokb restb, i.kind ≠ .macl → i.adone = false → i.bdone = false → x.inq i.aq = .tok tok :: rest → x.inq i.bq = .tok tokb :: restb →
      (i.kind = .scout → lastA tok) →
      takes fun t z => (t.elem e).inq i.aq = rest ∧ (t.elem e).inq i.bq = restb ∧
        (lastA tok ∧ lastB tokb → Formed i (i.acur ++ [tok]) (i.bcur ++ [tokb]) z) ∧
        (¬(lastA tok ∧ lastB tokb) → Under i (i.acur ++ [tok]) (i.bcur ++ [tokb]) (lastA tok) (lastB tokb) z))) ∧
  (∀ (s : State) (e : ElemId) (i : Intake),
    let x := s.elem e
    let r := i.result (x.acc i.acc) s.fresh
    x.intake = some i → i.todo = [] → x.injw.getLsbD 0 = false →
    Answers (exec (.accumulatorWrite e) s) fun t => t.mem = s.mem ∧ (t.elem e).intake = none ∧ (t.elem e).acc i.acc = r.1 ∧
      (∀ n, n ≠ i.acc → (t.elem e).acc n = x.acc n) ∧ ((t.elem e).bank 0).flags = (x.bank 0).flags ||| r.2 ∧
      (∀ l b, i.kind = .macl → i.tiles = [(l, b)] → l.length = 32 → (x.acc i.acc).chk = false →
        ((t.elem e).acc i.acc).poison = i.bad ∧
        ∀ n, n < 256 → entry ((t.elem e).acc i.acc).ent n = (l.getD (n / 8) {}).data.get (Fin.ofNat 8 (n % 8))) ∧
      (i.kind = .macl → (x.acc i.acc).chk = true → ∀ n, n < 16 →
        let a := (t.elem e).acc i.acc
        let sum := fun (f : Nat → Nat) =>
          BitVec.ofNat 32 (rounded Fmt.f32 0 (sumX 0 ((List.range 16).map fun j => f32Of (entry a.ent (f j))))).1
        entry a.rc n = sum (fun j => 16 * j + n) ∧ entry a.cc n = sum fun j => 16 * n + j)) ∧
  (∀ (s : State) (e : ElemId) (i : Intake),
    let x := s.elem e
    let f := mfmt i.fmt
    let sparse := i.kind == .mmas
    let groups := i.tiles.length * (f.kt / f.g)
    x.intake = some i → i.todo = [] → x.injw.getLsbD 0 = false → i.upsets = [] →
    (∀ p ∈ i.tiles, p.1.length = (if f.scaled then 1 else 0) + (if sparse then f.info + f.data / 2 else f.data) ∧
      p.2.length = (if f.scaled then 1 else 0) + f.data) →
    Answers (exec (.accumulatorWrite e) s) fun t =>
      let a := (t.elem e).acc i.acc
      (i.kind = .mma ∨ i.kind = .mmam ∨ i.kind = .mmas →
        a.poison = (x.acc i.acc).poison.join i.bad ∧
        (∀ r n, r < 16 → n < 16 → Chain groups
          (groupOf i.fmt i.tiles fun p k => (valuesA i.fmt sparse p.1 r k).map fun v => product f v (valueB i.fmt p.2 k n))
          (entry (x.acc i.acc).ent (16 * r + n)) (entry a.ent (16 * r + n))) ∧
        ((x.acc i.acc).chk = true → ∀ n, n < 16 →
          Chain groups (groupOf i.fmt i.tiles fun p k =>
            let col := (List.range 16).flatMap fun r => valuesA i.fmt sparse p.1 r k
            if col = [] then [] else [product f (sumX 0 col).1 (valueB i.fmt p.2 k n)])
            (entry (x.acc i.acc).rc n) (entry a.rc n) ∧
          Chain groups (groupOf i.fmt i.tiles fun p k => (valuesA i.fmt sparse p.1 n k).map fun v =>
              product f v (sumX 0 ((List.range 16).map fun m => valueB i.fmt p.2 k m)).1)
            (entry (x.acc i.acc).cc n) (entry a.cc n))) ∧
      (i.kind = .scout → i.fmt = 10 → a.poison = i.bad ∧ a.chk = false ∧
        (∀ n p, i.tiles[n]? = some p → n < 256 → ∃ score : Nat → Word,
          (∀ y, y < 256 → Chain 16 (groupOf 10 [p] fun p k => (valuesA 10 false p.1 (y / 16) k).map fun v =>
            product f v (valueB 10 p.2 k (y % 16))) 0 (score y)) ∧
          entry a.ent n = (List.range 255).foldl
            (fun w y => BitVec.ofNat 32 (fminmax Fmt.f32 true w.toNat (score (y + 1)).toNat)) (score 0)) ∧
        ∀ n, i.tiles.length ≤ n → n < 256 → entry a.ent n = 0xFF800000)) ∧
  (∀ (s : State) (e : ElemId) (d : Drain) (q : Req),
    let x := s.elem e
    let a := x.acc d.acc
    let array := if d.fmt = 0 then 32 else if d.prune = 2 then 9 else 16
    let total := array + (if a.chk then 4 else 0)
    let fm := if d.fmt = 1 then Fmt.bf16 else Fmt.f16
    let kept := fun (r : Nat) => keptColumns d.prune.toNat fun n => entry a.ent (16 * r + n)
    let shown := fun (r n : Nat) => if n ∈ kept r then entry a.ent (16 * r + n) else 0
    let half := fun (w : Word) => roundTo fm (f32Of w) d.rm
    x.drain = some d → s.req? d.req = some q → d.sent < total →
    (s.route e.tile d.cls).v = true → (s.inClass e.tile d.cls).length < (s.route e.tile d.cls).win →
    Turn s e.tile d.cls (2 * e.pos + 1) →
    Answers (exec (.drainToken e) s) fun t => t.mem = s.mem ∧
      (∃ f, t.inClass e.tile d.cls = s.inClass e.tile d.cls ++ [f] ∧ f.src = e.tile ∧ f.sid = e.pos ∧ f.tok.tag = d.otag ∧
        f.tok.head = (d.sent == 0) ∧ f.tok.tail = (d.sent + 1 == total) ∧ f.tok.itertag = q.itertag ∧
        f.tok.reqtag = q.reqtag ∧ f.tok.ctxno = q.ctxno ∧ f.tok.poison = a.poison ∧
        let v := natOfVec f.tok.data
        (array ≤ d.sent → ∀ i : Fin 8, f.tok.data.get i =
          (if d.sent < array + 2 then entry a.rc (8 * (d.sent - array) + i.val) else entry a.cc (8 * (d.sent - array - 2) + i.val))) ∧
        (d.fmt = 0 → d.sent < 32 → ∀ i : Fin 8, f.tok.data.get i = shown (d.sent / 2) (8 * (d.sent % 2) + i.val)) ∧
        (d.fmt ≠ 0 → d.prune ≠ 2 → d.sent < 16 → ∀ n, n < 16 → field v (16 * n) 16 = (half (shown d.sent n)).1) ∧
        (d.fmt ≠ 0 → d.prune = 2 → d.sent = 0 → ∀ r n, r < 16 → n < 8 → field v (16 * r + 2 * n) 2 = (kept r).getD n 0 % 4) ∧
        (d.fmt ≠ 0 → d.prune = 2 → 0 < d.sent → d.sent < 9 → ∀ j n, j < 2 → n < 8 →
          let r := 2 * (d.sent - 1) + j
          field v (128 * j + 16 * n) 16 = (half (entry a.ent (16 * r + (kept r).getD n 0))).1)) ∧
      ∃ raised : Flags,
      (d.fmt = 0 ∨ array ≤ d.sent → raised = 0) ∧
      (d.fmt ≠ 0 → d.prune ≠ 2 → d.sent < 16 → raised = (List.range 16).foldr (fun n b => (half (shown d.sent n)).2 ||| b) 0) ∧
      (d.sent + 1 < total → (t.elem e).drain = some { d with sent := d.sent + 1, flags := d.flags ||| raised } ∧
        (t.elem e).acc d.acc = a ∧ ((t.elem e).bank 0).flags = (x.bank 0).flags) ∧
      (d.sent + 1 = total → (t.elem e).drain = none ∧ ((t.elem e).bank 0).flags = (x.bank 0).flags ||| (d.flags ||| raised) ∧
        (t.elem e).acc d.acc = if d.keep then a else { a with ent := [], poison := .clean, rc := [], cc := [] })) ∧
  (∀ (s : State) (e : ElemId) (r : Req) (top : Bool) (acc : Nat),
    s.reqs.find? (fun q => match q.op with
      | .thresh _ _ => q.elem.tile.block == e.tile.block
      | _ => false) = some r → r.elem = e → r.op = .thresh top acc →
    let m := fun (j : Nat) => BitVec.ofNat 32 (field r.blk (32 * j) 32)
    let kept := fun (j : Nat) =>
      if top then decide (((List.range r.prog).countP fun i => above (m i) (m j) || (!above (m j) (m i) && decide (i < j))) <
        min (r.off.toNat % 128) r.prog)
      else isNanW (m j) || isNanW r.off || decide (rankW r.off ≤ rankW (m j))
    Answers (exec (.thresholdMask e) s) fun t => t.mem = s.mem ∧ t.req? r.id = none ∧
      (r.st = 0 → ∀ j, j < 64 → (t.elem e).kmask.getLsbD j = (decide (j < r.prog) && kept j)) ∧
      (r.st ≠ 0 → (t.elem e).kmask = BitVec.allOnes 64)) ∧
  (∀ (s : State) (e : ElemId) (n i : Nat) (flip : BitVec 64), n < 2 →
    Answers (exec (.mElementSoftError e n i flip) s) fun t => t.mem = s.mem ∧
      entry ((t.elem e).acc n).ent i = entry ((s.elem e).acc n).ent i ^^^ flip.extractLsb' 0 32 ∧
      ((t.elem e).acc n).poison = ((s.elem e).acc n).poison ∧
      (∀ j, j ≠ i → entry ((t.elem e).acc n).ent j = entry ((s.elem e).acc n).ent j) ∧
      ∀ m, m ≠ n → (t.elem e).acc m = (s.elem e).acc m)

/-- Page selection (R349, R400, R401). The query is read first, as an access of the bank in its turn. A summary that is read clean adds its page with its exact score, rounded once; after the scoring
the list is written entry by entry, each entry in 2 bytes and no other byte; the starts go to the owned port one by one, each with the
staging descriptor moved to its page. A score is the exact sum of the products of e4m3 elements, rounded once; the pages are selected by
descending score, a NaN first and ties to the lower index (R349). -/
def Sys2Proof.Claims.PageEngine : Prop :=
  (∀ (n : Nat) (b : List Byte), pageScoreOf n b = BitVec.ofNat 32 (rounded Fmt.f32 0 (sumX 0 ((List.range (field n 88 7 + 1)).map fun j =>
    (mulX (Fmt.e4m3.value (b.getD j 0).toNat) (Fmt.e4m3.value (field n (512 + 8 * j) 8))).1))).1) ∧
  (∀ (l : List (Nat × Word × Nat)) (k : Nat), (l.map (·.1)).Pairwise (· < ·) →
    ∃ o : List (Nat × Word × Nat), o.Perm l ∧
      o.Pairwise (fun x y => above x.2.1 y.2.1 = true ∨ (above y.2.1 x.2.1 = false ∧ x.1 < y.1)) ∧
      selectPages l k = (o.take k).map fun p => (p.1, p.2.2)) ∧
  ∀ (s : State) (e : ElemId) (sb : BitVec 3) (r : Req), s.pageReq e sb.toNat = some r → s.req? r.id = some r → r.stage = .sent →
    (r.started = false → r.svc = .clear → r.prog < pdPages r.blk →
      let segs := s.localRuns r.elem.tile .x (pdQ r.blk) (pdLen r.blk)
      (∀ g ∈ segs, s.blocked r ⟨8, 0, g.1, g.2⟩ = false) → (s.engineRead segs).2 = .clean →
      exec (.pageScore e sb) s = .next (s.putReq
        { r with started := true, parts := [], blk := r.blk % 2 ^ 512 + numOf (s.engineRead segs).1 * 2 ^ 512 })) ∧
    (∀ segs, r.started = true → r.svc = .clear → r.prog < pdPages r.blk → (s.regionAt r.elem.tile).pure = false →
      (s.fillTlb r (pdBase r.blk + 256 * r.prog) 136).engineX (siteOf e.tile) (s.space r.ctxno) Need.read .clear
        (pdBase r.blk + 256 * r.prog) 136 = .ok segs → (s.engineRead segs).2 = .clean →
      Answers (exec (.pageScore e sb) s) fun t => t.mem = s.mem ∧ ∃ q, t.req? r.id = some q ∧ q.prog = r.prog + 1 ∧
        q.scores = r.scores ++ [(r.prog, pageScoreOf r.blk (s.engineRead segs).1,
          numOf ((s.engineRead segs).1.drop 128) % 2 ^ 57)]) ∧
    (∀ p a, r.started = true → pdPages r.blk ≤ r.prog → (selectPages r.scores (pdK r.blk))[r.addr.l0]? = some p →
      s.localRuns e.tile .x (pdL r.blk + 2 * r.addr.l0) 2 = [(a, 2)] → Mem.wf s.mem = true →
      Answers (exec (.pageListWrite e sb) s) fun t => SameBytes s t a 2 ∧ t.peek a 2 = p.1 % 65536 ∧
        ∃ q, t.req? r.id = some q ∧ q.addr.l0 = r.addr.l0 + 1 ∧ q.picks = selectPages r.scores (pdK r.blk)) ∧
    (∀ p, r.picks[r.addr.l1]? = some p → r.picks.length ≤ r.addr.l0 → r.stop = false →
      (s.port e.tile (pdPort r.blk)).waiting = none → r.id < s.nextId → (∀ q ∈ s.reqs, q.id < s.nextId) →
      Answers (exec (.pageStartHandover e sb) s) fun t => t.mem = s.mem ∧
        (t.port e.tile (pdPort r.blk)).waiting = some s.nextId ∧
        (∃ q, t.req? s.nextId = some q ∧ q.op = .stream (pdPort r.blk) ∧ q.parent = some r.id ∧
          q.blk = setBits (pdStaging r.blk) 32 57 (sdBase (pdStaging r.blk) + p.2)) ∧
        ∃ q, t.req? r.id = some q ∧ q.addr.l1 = r.addr.l1 + 1)

/-- The matrix elements and the threshold unit (R268 to R272, R309 to R311, R347), and page selection (R349, R400, R401). -/
def Obligations.MatrixAndPages : Prop := MatrixEngine ∧ PageEngine

/-! ## The fabric and the banks -/

/-- Tokens on the fabric (R65, R133, R286 to R290, R307, R383, R384). The head of an output queue moves to the paired queue of the
neighbour, which has room; the head of oq4 enters its route class when a window slot is free and it is its turn, behind the others:
in one cycle each source enters one token, elements and drains by position before ports by number before quarters (R286; of one element the
head of oq4 before its drain: log entry 52); an output of a router
sends on the flit of the next input after the last one granted that asks for it, unless it is memory traffic's turn (which memory traffic
waits is free, log entry 48); the first token
of a class that is held at its target goes in when its class is the next after the last one granted; one that meets a block of another owner is
dropped, logged and recorded as a fault of its iteration; a control token is counted, up to 15. -/
def Sys2Proof.Claims.Fabric : Prop :=
  (∀ (s : State) (e : ElemId) (d : BitVec 2) (tok : Tok) (rest : List QEntry), e.hasQueue d.toNat = true →
    let n := e.neighbour d.toNat
    let q := (d.toNat + 2) % 4
    (s.elem e).outq d.toNat = .tok tok :: rest → (s.elem n).inFree q = true →
    Answers (exec (.neighbourTransfer e d) s) fun t => t.mem = s.mem ∧ (t.elem e).outq d.toNat = rest ∧
      (t.elem n).inq q = (s.elem n).inq q ++ [.tok tok] ∧ (t.elem e).inq q = (s.elem e).inq q ∧ (t.elem e).banks = (s.elem e).banks ∧
      (∀ o : ElemId, o.key ≠ e.key → o.key ≠ n.key → t.elem o = s.elem o)) ∧
  (∀ (s : State) (e : ElemId) (tok : Tok) (rest : List QEntry) (c : Nat), (s.elem e).outq 4 = .tok tok :: rest →
    s.classOf e = some c → (s.route e.tile c).v = true →
    ((s.inClass e.tile c).length < (s.route e.tile c).win → Turn s e.tile c (2 * e.pos) →
      Answers (exec (.routeClassEntry e) s) fun t => t.mem = s.mem ∧ (t.elem e).outq 4 = rest ∧
        Table.find (t.tile e.tile).entered c = some ((s.regionAt e.tile).clock, 2 * e.pos) ∧
        t.inClass e.tile c = s.inClass e.tile c ++ [{ tok := tok, skind := 0, sid := e.pos, src := e.tile
                                                      arr := (s.router e.tile).count }]) ∧
    ((s.route e.tile c).win ≤ (s.inClass e.tile c).length → exec (.routeClassEntry e) s = .next s) ∧
    (¬Turn s e.tile c (2 * e.pos) → exec (.routeClassEntry e) s = .next s)) ∧
  (∀ (s : State) (t : TileId) (c : Nat),
    (∀ p, p < 128 →
      (s.placeEnters c t (2 * p) = true ↔ (∃ k, headTok ((s.elem ⟨t, p⟩).outq 4) = some k) ∧ s.classOf ⟨t, p⟩ = some c) ∧
      (s.placeEnters c t (2 * p + 1) = true ↔ ∃ d, (s.elem ⟨t, p⟩).drain = some d ∧ d.cls = c ∧ ∃ q, s.req? d.req = some q)) ∧
    ∀ p, p < 16 → (s.placeEnters c t (256 + p) = true ↔ ∃ n r a rest, (s.port t p).running = some n ∧ s.req? n = some r ∧
      bits r.blk 0 1 = 0 ∧ bits r.blk 21 1 = 1 ∧ bits r.blk 15 6 = c ∧ r.stage = .sent ∧ (s.regionAt t).hold = false ∧
      r.ahead = a :: rest ∧ a.parts = [])) ∧
  (∀ (s : State) (t : TileId) (out i : Nat) (m : Moving),
    nextAfter (Table.find (s.router t).grants out) ((s.asksFor t out).map (·.1)) = some i → (i, m) ∈ s.asksFor t out →
    (Config.memoryWaits s.fresh = true → Table.get (s.router t).memory out = true) →
    m.nth < (s.inClass m.tile m.cls).length →
    let z := s.grantOutput t out
    (z.inClass m.tile m.cls)[m.nth]? = some (if out = 4 then { m.flit with landed := true }
      else { m.flit with hop := m.flit.hop + 1, arr := (s.router t).count }) ∧
    (z.inClass m.tile m.cls).length = (s.inClass m.tile m.cls).length ∧ Table.find (z.router t).grants out = some i ∧ z.mem = s.mem ∧
      z.elems = s.elems) ∧
  (∀ (s : State) (tile : TileId) (cls : BitVec 6) (f : Flit) (rest : List Flit), s.inClass tile cls.toNat = f :: rest →
    (∀ o : ElemId, f.landed = true → s.targetAt tile cls.toNat = some (.queue o) →
      nextAfter (s.elem o).granted (s.contenders (.queue o)) = some (classRank tile cls.toNat) → (s.elem o).inFree 4 = true →
      Answers (exec (.tokenDelivery tile cls) s) fun t => t.mem = s.mem ∧ t.inClass tile cls.toNat = rest ∧
        (t.elem o).inq 4 = (s.elem o).inq 4 ++ [.tok f.tok] ∧ (t.elem o).granted = some (classRank tile cls.toNat)) ∧
    (∀ d p, f.landed = true → s.targetAt tile cls.toNat = some (.port d p) →
      nextAfter (s.port d p).granted (s.contenders (.port d p)) = some (classRank tile cls.toNat) →
      (s.portTakes d p = true →
        Answers (exec (.tokenDelivery tile cls) s) fun t => t.mem = s.mem ∧ t.inClass tile cls.toNat = rest ∧
          (t.port d p).inbox = [f.tok]) ∧
      (s.portTakes d p = false → exec (.tokenDelivery tile cls) s = .next s)) ∧
    (f.landed = false → exec (.tokenDelivery tile cls) s = .next s) ∧
    (∀ b, s.foreign tile cls.toNat f = some b →
      Answers (exec (.gatewayReject tile cls) s) fun t => t.inClass tile cls.toNat = rest ∧ t.elems = s.elems ∧
        (∃ g, t.faults = s.faults ++ [g] ∧ g.cause = 0x0A ∧ g.async = true ∧ g.itertag = f.tok.itertag ∧ g.reqtag = f.tok.reqtag ∧
          g.ctxno = f.tok.ctxno) ∧
        (s.ccb f.tok.ctxno 192 57 = 0 → t.mem = s.mem)) ∧
    (∀ d, s.targetOf tile cls.toNat = some d →
      let here := (hopTile f.src d f.hop).block
      let next := (hopTile f.src d (f.hop + 1)).block
      (s.foreign tile cls.toNat f = none ↔
        here = next ∨ s.blockOwner here = s.blockOwner next ∨ s.blockOwner next = some f.tok.ctxno)) ∧
    (s.foreign tile cls.toNat f = none → exec (.gatewayReject tile cls) s = .next s)) ∧
  (∀ (s : State) (e : ElemId) (c : BitVec 4), (e, c.toNat) ∈ s.ctlFlight →
    let n : Nat := Table.get (s.elem e).ctl c.toNat
    Answers (exec (.controlTokenArrival e c) s) fun t => t.mem = s.mem ∧ t.ctlFlight = s.ctlFlight.erase (e, c.toNat) ∧
      (n < 15 → Table.get (t.elem e).ctl c.toNat = n + 1 ∧ (t.elem e).ctlOver = (s.elem e).ctlOver) ∧
      (15 ≤ n → (t.elem e).ctl = (s.elem e).ctl ∧ (t.elem e).ctlOver = true))

/-- Memory-tile quarters (R201 to R203, R291). A FIFO takes the token of the class that its router grants and sends its tokens in order;
a line buffer sends the burst that is due, each when it is its turn at the class (R286); a tile store writes a whole burst into its next buffer, with its count, and fills the buffer
word, unless a request that waits for the word came before it; of a burst that does not fit it writes no token; once the next buffer's
word is full it sends its tokens one by one, and with the last, which has tail 1, it empties the word and goes on to the next buffer. -/
def Sys2Proof.Claims.Quarters : Prop :=
  ∀ (s : State) (tile : TileId) (q : BitVec 2),
    let k := s.quarter tile q.toNat
    let g := Target.quarter tile q.toNat
    (∀ src c f rest, nextAfter k.granted (s.contenders g) = some (classRank src c) → src.key < 6400 → TileId.ofKey src.key = src →
      s.inClass src c = f :: rest → f.landed = true → s.targetAt src c = some g → k.mode = 1 → k.held.length < k.depth →
      Answers (exec (.quarterAccept tile q) s) fun t => t.mem = s.mem ∧ (t.quarter tile q.toNat).held = k.held ++ [f.tok] ∧
        t.inClass src c = rest) ∧
    (∀ c, k.ev = true → (s.regionAt tile).hold = false → (s.regionAt tile).tileAt k.emitRow k.emitCol = some c →
      (s.route c k.emitClass).v = true → (s.inClass c k.emitClass).length < (s.route c k.emitClass).win →
      Turn s c k.emitClass 272 →
      let enters := fun (t : State) (tok : Tok) => t.inClass c k.emitClass = s.inClass c k.emitClass ++
        [{ tok := tok, skind := 3, sid := q.toNat, src := tile, arr := (s.router tile).count }]
      (∀ tok rest, k.mode = 1 → k.held = tok :: rest →
        Answers (exec (.fifoEmit tile q) s) fun t => t.mem = s.mem ∧ (t.quarter tile q.toNat).held = rest ∧ enters t tok) ∧
      (∀ places tok rest more, k.mode = 2 → k.bursts = (places, tok :: rest) :: more →
        Answers (exec (.lineBufferEmit tile q) s) fun t => t.mem = s.mem ∧ enters t tok ∧
          (t.quarter tile q.toNat).bursts = (if rest.isEmpty then more else (places, rest) :: more)) ∧
      (∀ j n, k.mode = 0 → k.sending = some (j, n) → j + 1 < n → 32 * (j + 1) ≤ k.bufSize →
        let a := k.bufAddr tile q.toNat k.nextR
        Answers (exec (.tileStoreRead tile q) s) fun t => t.mem = s.mem ∧ t.full = s.full ∧
          (t.quarter tile q.toNat).sending = some (j + 1, n) ∧
          ∃ tok, enters t tok ∧ tok.data = vecOfNat (s.peek (a + 32 * j) 32) ∧ tok.poison = s.poisonOf (a + 32 * j) 32 ∧
            tok.head = (j == 0) ∧ tok.tail = false) ∧
      (∀ j n, k.mode = 0 → k.sending = some (j, n) → n = j + 1 → 32 * (j + 1) ≤ k.bufSize → NoneWaits s →
        let a := k.bufAddr tile q.toNat k.nextR
        let w := k.bufWord tile q.toNat k.nextR
        Answers (exec (.tileStoreRead tile q) s) fun t => t.mem = s.mem ∧ t.full = s.full.filter (· != w) ∧
          (t.quarter tile q.toNat).sending = none ∧ (t.quarter tile q.toNat).nextR = (k.nextR + 1) % k.bufs ∧
          ∃ tok, enters t tok ∧ tok.data = vecOfNat (s.peek (a + 32 * j) 32) ∧ tok.poison = s.poisonOf (a + 32 * j) 32 ∧
            tok.head = (j == 0) ∧ tok.tail = true)) ∧
    (k.mode = 0 → k.whole = true → NoneWaits s → Mem.wf s.mem = true →
      let n := k.held.length
      let a := k.bufAddr tile q.toNat k.nextW
      let w := k.bufWord tile q.toNat k.nextW
      s.isFull w = false → s.waiterFirst w false k.placeW = false →
      Answers (exec (.tileStoreWrite tile q) s) fun t =>
        t.isFull w = true ∧ (t.quarter tile q.toNat).held = [] ∧ (t.quarter tile q.toNat).nextW = (k.nextW + 1) % k.bufs ∧
        (32 * n + 32 ≤ k.bufSize → t.peek w 4 = 1 ∧ t.peek (w + 4) 4 = n ∧
          (∀ j, j < n → t.peek (a + 32 * j) 32 = natOfVec (k.held.getD j {}).data) ∧
          (∀ b, (b < a ∨ a + 32 * n ≤ b) → (b < w ∨ w + 8 ≤ b) → t.byte b = s.byte b)) ∧
        (k.bufSize < 32 * n + 32 → t.peek w 4 = 0xFFFFFFFF ∧ SameBytes s t w 4)) ∧
    (k.mode = 0 → k.ev = true → k.sending = none →
      let w := k.bufWord tile q.toNat k.nextR
      (s.isFull w = false → exec (.tileStoreRead tile q) s = .next s) ∧
      (s.isFull w = true → s.waiterFirst w true k.placeR = false → 0 < s.peek (w + 4) 4 →
        Answers (exec (.tileStoreRead tile q) s) fun t => t.mem = s.mem ∧ t.full = s.full ∧
          (t.quarter tile q.toNat).sending = some (0, s.peek (w + 4) 4)))

/-- Tokens on the fabric (R65, R133, R286 to R290) and in the memory-tile quarters (R201 to R203, R291). (When memory traffic takes an
output of a router is free: log entry 48.) -/
def Obligations.FabricTokens : Prop := Fabric ∧ Quarters

/-- Spills and reinstatements (R131, R139, R141, R457). In a switch cycle the preferred bank becomes the firing bank of the lowest ready
slot. An S-element with no free record offers none, and its lowest free record goes to the first element that wants one. When a spill
ends the bank is free, with nothing valid, under a new allocation, and its image waits or is eligible at once; an eligible image returns
when its bank is free, and its bank then holds what the record held. -/
def Obligations.Spills : Prop :=
  ∀ (s : State) (e : ElemId),
    (s.cur.elem = e → Answers (exec (.switchCycle e) s) fun t => t.mem = s.mem ∧
      (t.elem e).pref = BitVec.ofNat 2 (s.fireAt s.cur).b ∧ (t.elem e).banks = (s.elem e).banks) ∧
    (e.kind = .s →
      let es := (servedBy e).filter fun y => (s.elem y).offer.isNone
      let free := (s.elem e).frame.freeSpills.filter fun n => !((servedBy e).filterMap fun y => (s.elem y).offer).contains n
      (free = [] → exec (.spillRecordOffer e) s = .next s) ∧
      (∀ before x behind n more, es = before ++ x :: behind → (∀ y ∈ before, s.wantsSpill y = false) → s.wantsSpill x = true →
        free = n :: more → Answers (exec (.spillRecordOffer e) s) fun t => t.mem = s.mem ∧ (t.elem x).offer = some n ∧
          ∀ y ∈ before, t.elem y = s.elem y)) ∧
    (∀ (b : BitVec 2) n, s.fillingRec e b.toNat = some n →
      let m := Table.get (s.elem (servingElem e)).frame.spill n
      Answers (exec (.spillEnd e b) s) fun t => t.mem = s.mem ∧ ((t.elem e).bank b.toNat).st = .free ∧
        (∀ v, (((t.elem e).bank b.toNat).reg v).valid = false) ∧ ((t.elem e).bank b.toNat).preds = [] ∧
        ((t.elem e).bank b.toNat).epoch = ((s.elem e).bank b.toNat).epoch + 1 ∧
        (s.condMet m = false → (Table.get (t.elem (servingElem e)).frame.spill n).st = .waiting) ∧
        (s.condMet m = true → m.elem = e → m.bank = b.toNat →
          (Table.get (t.elem (servingElem e)).frame.spill n).st = .eligible)) ∧
    (∀ n,
      let m : SpillRec := Table.get (s.elem (servingElem e)).frame.spill n
      (m.st = .eligible → m.elem = e → ((s.elem e).bank m.bank).st = .free →
        (∀ q ∈ s.imagesOf e m.bank, q.st = .eligible → m.order ≤ q.order) →
        Answers (exec (.reinstatementStart e n) s) fun t => t.mem = s.mem ∧ ((t.elem e).bank m.bank).st = .reinstating ∧
          (Table.get (t.elem (servingElem e)).frame.spill n).st = .reinstating) ∧
      (m.st = .reinstating → m.elem = e →
        Answers (exec (.reinstatementEnd e n) s) fun t =>
          SameBytes s t ((s.elem (servingElem e)).frame.spillAddr (servingElem e) n) 1024 ∧
          (t.elem e).bank m.bank = { m.image with st := .active, epoch := ((s.elem e).bank m.bank).epoch } ∧
          Table.get (t.elem (servingElem e)).frame.spill n = {}))

/-- The switch controller (R64, R301 to R304). Of the requests that reach it in one cycle it settles them in ascending row, column and
position, and before the region's own transitions of the cycle. A request for another loaded context of a running region makes a switch pending, and the
requester's predicate takes status 1; one for the active context is 1 and changes nothing, and one for a context that is not loaded, or
while a switch is pending, is 0. (That a request which arrives while the region is quiesced after an `hret` finds it in handler mode still
is log entry 52's choice.) A drained region is quiesced; after two cycles the target is active. A drain that takes longer than the
window keeps the context, and is stillness. A dry stage asks for the next context in cyclic order whose stage input holds a token. -/
def Obligations.Switches : Prop :=
  (∀ (s : State) (e : ElemId) (q : SwitchReq) (rest : List SwitchReq) (rid : Nat), s.switches = q :: rest → q.elem = e →
    q.status = none → s.regionOf e.tile = some rid → q.due ≤ (s.region rid).clock →
    (∀ p ∈ s.switches, p.status = none → (s.region rid).hasTile p.elem.tile = true → p.ahead q = false) →
    let r := s.region rid
    let settled := fun (t : State) (b : Bool) => t.mem = s.mem ∧ t.switches = { q with status := some b } :: rest
    let free := r.handler = false ∧ r.hphase = .off ∧ r.sw = .running ∧ r.loaded.getLsbD q.target.toNat = true
    (free → q.target ≠ r.active → Answers (exec (.switchRequestArrival e) s) fun t => settled t true ∧
      (t.region rid).sw = .draining ∧ (t.region rid).target = q.target ∧ (t.region rid).active = r.active) ∧
    (free → q.target = r.active → Answers (exec (.switchRequestArrival e) s) fun t => settled t true ∧ t.regions = s.regions) ∧
    (¬free → Answers (exec (.switchRequestArrival e) s) fun t => settled t false ∧ t.regions = s.regions)) ∧
  (∀ (s : State) (e : ElemId) (q : SwitchReq) (rest : List SwitchReq) (b : Bool), s.switches = q :: rest → q.elem = e →
    q.status = some b → q.image = none → ((s.elem e).bank q.bank).epoch = q.epoch → 22 ≤ q.dest.toNat → q.dest.toNat < 29 →
    Answers (exec (.switchStatusArrival e) s) fun t => t.mem = s.mem ∧ t.switches = rest ∧
      ((t.elem e).bank q.bank).pred (q.dest.toNat - 22) =
        (((s.elem e).bank q.bank).pred (q.dest.toNat - 22)).write q.guard (Lanes.fill (truth b)) ∧
      ((t.elem e).bank q.bank).regs = ((s.elem e).bank q.bank).regs) ∧
  (∀ (s : State) (n : Nat), (s.region n).live = true →
    let r := s.region n
    let none_due := ∀ q ∈ s.switches, q.status = none → r.hasTile q.elem.tile = true → r.clock < q.due
    (r.sw = .draining → s.drained r = true → none_due →
      exec (.regionDrained n) s = .next (s.modRegion n fun x => { x with sw := .settling, swAge := 0 })) ∧
    (¬none_due → ∀ ev ∈ [Instr.regionDrained n, .settlingEnd n, .switchDrainTimeout n, .stageDry n], exec ev s = .next s) ∧
    (r.sw = .settling → 2 ≤ r.swAge → none_due → Answers (exec (.settlingEnd n) s) fun t => t.mem = s.mem ∧ t.elems = s.elems ∧
      (t.region n).active = r.target ∧ (t.region n).sw = .running) ∧
    (r.sw = .settling → r.swAge < 2 → exec (.settlingEnd n) s = .next s) ∧
    (r.sw = .draining → s.drained r = true → exec (.switchDrainTimeout n) s = .next s) ∧
    (r.sw = .draining → s.drained r = false → none_due → 2 ^ (min 12 (s.ccb r.ctxno 22 4) + 8) ≤ r.swAge →
      Answers (exec (.switchDrainTimeout n) s) fun t => t.mem = s.mem ∧ (t.region n).active = r.active ∧ (t.region n).sw = .running ∧
        ∃ g, t.faults = s.faults ++ [g] ∧ g.cause = 0x0B ∧ g.itertag = r.head) ∧
    (∀ k, 64 ≤ r.dry → s.stageDry r = true → r.handler = false → r.hphase = .off → r.sw = .running →
      none_due → [1, 2, 3].find? (fun k => (s.stageInputs r ((r.active.toNat + k) % 4)).any (!·.held.isEmpty)) = some k →
      r.loaded.getLsbD ((r.active.toNat + k) % 4) = true →
      Answers (exec (.stageDry n) s) fun t => t.mem = s.mem ∧ (t.region n).sw = .draining ∧
        (t.region n).target = BitVec.ofNat 2 (r.active.toNat + k) ∧ (t.region n).active = r.active))

/-! ## Regions, faults and purges -/

namespace Sys2Proof.Claims

/-- The state in which the completion record of a launch is written by a unit of a die (R329), where its page can be written. -/
def recorded (s : State) (die recd st : Nat) (c : Cause) (var pos : Nat) (it : BitVec 16) (user : Word) : State :=
  (s.writeVirtual ⟨die, none⟩ (s.space (lrCtx recd)) (lrCrec recd)
    (bytesOf 64 (recordOf ⟨lrCtx recd, lrTag recd⟩ st c var pos it user))).getD s

/-- A stillness fault is recorded against the head of a region (R385), and nothing else of memory or elements changes. -/
def Still (s t : State) (n : Nat) : Prop :=
  t.mem = s.mem ∧ t.elems = s.elems ∧ (t.region n).still = 0 ∧
    ∃ g, t.faults = s.faults ++ [g] ∧ g.cause = 0x0B ∧ g.region = n ∧ g.itertag = (s.region n).head

/-- A launch that waits for nothing and has never run: not pure, not a next launch, and naming no completion record (Table 16.3). -/
def Plain (l : Launch) : Prop :=
  l.saved = none ∧ l.svc = .clear ∧ lrPure l.recd = false ∧ lrNext l.recd = false ∧ ∀ i, i < 4 → lrDep l.recd i = 0

/-- No hash row is open or being rolled back. -/
def RowsClosed (s : State) : Prop := ∀ x ∈ s.mtiles, ∀ q ∈ x.2.quarters, q.2.row = .closed

/-- Bytes outside some runs read as before. -/
def SameOutside (s t : State) (segs : List Seg) : Prop := ∀ a, (∀ g ∈ segs, a < g.1 ∨ g.1 + g.2 ≤ a) → t.byte a = s.byte a

end Sys2Proof.Claims

/-- The scheduler, loads and the end of a task (R42, R298, R299, R329, R335, R370, R371, R385). The candidate is ready and no ready
launch has a higher level. A launch that finds the package empty takes the first allowed variant at the first block of its own die, as a
region that loads, or is rejected where that variant's entry fails. A load takes effect with the contexts its image names, the lowest
active, and the head at 0; a rejected image ends the region with st 4, and a successor without a variant of the region's shape with st
5. A finished, idle region writes its record and is released, or passes to its successor, once no purge of its context is under way (log
entry 19); a record whose page cannot be written is left out (log entry 20). A load or a settling that outlasts the window,
and a stillness counter that reaches it outside a fold, is a fault of the head. -/
def Obligations.Scheduling : Prop :=
  (∀ (s : State) (l : Launch), s.candidate = some l →
    let placed := fun (k : Launch) => lrNext k.recd = false ∨ k.saved.isSome = true
    l ∈ s.queue ∧ placed l ∧ s.depsOf l = .met ∧
      ∀ k ∈ s.queue, placed k → s.depsOf k = .met → lrPrio k.recd ≤ lrPrio l.recd) ∧
  (∀ (s : State), s.queue = [] → exec .schedulerCycle s = .next s.takeUpAll) ∧
  (∀ (s : State) (l : Launch) (h n : Nat) (vs : List Variant) (v : Variant) (more : List (Nat × Variant)), s.queue = [l] →
    s.regions = [] → Plain l → s.ccb (lrCtx l.recd) 15 1 = 0 → s.imageTable l.die (s.launchSpace l) .clear (lrImg l.recd) = .ok (h, vs) →
    choices l vs = (n, v) :: more → v.rows ≤ 10 → v.cols ≤ 20 →
    (v.good h = false → Answers (exec .schedulerCycle s) fun t => t.queue = [] ∧ t.regions = [] ∧
      t.mem = (recorded s l.die l.recd 4 0x02 0 headerPos 0 0).mem) ∧
    (v.good h = true → Answers (exec .schedulerCycle s) fun t => t.queue = [] ∧ ∃ r, t.regions = [(s.nextId, r)] ∧ r.live = true ∧ r.life = .loading ∧
      r.ctxno = lrCtx l.recd ∧ r.reqtag = lrTag l.recd ∧ r.variant = n ∧ r.rows = v.rows ∧ r.cols = v.cols ∧
      r.origin = ⟨10 * (l.die / 4), 20 * (l.die % 4)⟩ ∧
      ∀ b ∈ r.blocks, (Table.get s.lastOwner (b.br * 80 + b.bc) : Option (BitVec 14)) ≠ some r.ctxno →
        ∀ tl ∈ blockTiles b, tl.isCompute = true → ∀ x, x < 0x20000 → t.byte (scratchAddr tl x) = 0)) ∧
  (∀ (s : State) (n : Nat), (s.region n).live = true →
    let r := s.region n
    (∀ k items, r.life = .loading → r.waits = false → r.svc = .clear → s.loadItems r = .ok (k, items) →
      Answers (exec (.loadTakesEffect n) s) fun t => t = s.applyLoad n k items ∧ (t.region n).life = .running ∧ (t.region n).head = 0 ∧
        (t.region n).variant = k ∧
        (t.region n).loaded = (r.loaded &&& ~~~(namedContexts items)) ||| namedContexts items ∧
        ∀ c, lowestContext (namedContexts items) = some c → (t.region n).active = BitVec.ofNat 2 c) ∧
    (∀ c p, r.life = .loading → r.waits = false → r.svc = .clear → r.twin = none → s.loadItems r = .reject c p → RowsClosed s →
      Answers (exec (.imageRejected n) s) fun t => (t.region n).live = false ∧
        t.mem = (recorded s (blockDie r.origin) r.task.recd 4 c (s.variantOf r) p 0 0).mem) ∧
    (r.life = .loading → r.waits = false → r.svc = .clear → r.twin = none → s.loadItems r = .noVariant →
      Answers (exec (.imageRejected n) s) fun t => (t.region n).live = false ∧
        t.mem = (recorded s (blockDie r.origin) r.task.recd 5 0 0 0 0 0).mem) ∧
    (r.life = .loading → r.waits = true → s.idle r = true →
      exec (.regionIdle n) s = .next (s.modRegion n fun x => { x with waits := false, age := 0 })) ∧
    (r.life = .loading → r.waits = true → s.idle r = false → s.window r ≤ r.age →
      Answers (exec (.loadWaitExpiry n) s) fun t => Still s t n ∧ (t.region n).life = .running ∧ (t.region n).active = r.active) ∧
    (r.life = .finishing → s.purging r.ctxno = true → exec (.regionIdle n) s = .next s) ∧
    (r.life = .finishing → s.purging r.ctxno = false → r.twin = none → s.idle r = true → r.pure = false → r.inserting = none →
      s.successor r = none →
      exec (.regionIdle n) s = .next ((recorded s (blockDie r.origin) r.task.recd 0 0 r.variant 0 0 (r.done.getD 0)).release n)) ∧
    (∀ l, r.life = .finishing → s.purging r.ctxno = false → r.twin = none → s.idle r = true → r.pure = false → r.inserting = none →
      s.successor r = some l →
      Answers (exec (.regionIdle n) s) fun t => t.queue = s.queue.filter (fun k => k.acc != l.acc) ∧
        t.mem = (recorded s (blockDie r.origin) r.task.recd 0 0 r.variant 0 0 (r.done.getD 0)).mem ∧
        let z := t.region n
        z.life = .loading ∧ z.waits = true ∧ z.passed = true ∧ z.task.recd = l.recd ∧ z.reqtag = lrTag l.recd ∧
          z.origin = r.origin ∧ z.rows = r.rows ∧ z.cols = r.cols) ∧
    (r.life = .finishing → s.idle r = false → s.window r ≤ r.age →
      Answers (exec (.tdoneSettlingExpiry n) s) fun t => Still s t n) ∧
    (r.life ≠ .folding → s.window r ≤ r.still → Answers (exec (.stillness n) s) fun t => Still s t n) ∧
    ((r.life = .folding ∨ r.still < s.window r) → exec (.stillness n) s = .next s))

/-- Reuse, folds, saves and restores (R377 to R382, R405 to R407, R411, R458). A hit whose pages are translated has the blocks of the
result range to write; each is written in a step of its own, with the stored bytes and no others; after the last its record takes st 1. It
is abandoned, to run, where a page is refused or holds a sealed byte, or a block is sealed or behind a lost link. An insertion copies the result bytes into the
store, and no other byte; a record whose page cannot be written is left out (log entry 20). A drained region takes its smaller variant; a fold that fails its checks, or whose drain outlasts the window,
becomes a save, at once where no switch and no trap is under way. A saved region leaves its blocks, no byte outside its save area
changes, and its task is queued again with what was saved; a restored one runs again with its head and active context. -/
def Obligations.ReuseAndSaves : Prop :=
  (∀ (s : State) (h : Hit), s.hit? h.launch.acc = some h → h.svc = .clear →
    let l := h.launch
    let va := abResBase l.args
    let gone := fun (t : State) => t.mem = s.mem ∧ t.hit? l.acc = none ∧ t.queue = { l with miss := true } :: s.queue
    (∀ segs, h.todo = none → s.stew l.die (s.launchSpace l) Need.write .clear va h.len = .ok segs →
      ((s.pagesSealed l.die (s.launchSpace l) va h.len = false ∧ s.lostIn segs = false) →
        Answers (exec (.reuseHit l.acc) s) fun t => t.mem = s.mem ∧ t.queue = s.queue ∧
          ∃ z todo, t.hit? l.acc = some z ∧ z.todo = some todo ∧ todo.length = (segBlocks segs).length ∧
            ∀ b, b ∈ todo ↔ b ∈ segBlocks segs) ∧
      ((s.pagesSealed l.die (s.launchSpace l) va h.len = true ∨ s.lostIn segs = true) → Answers (exec (.reuseHit l.acc) s) gone)) ∧
    (∀ c, h.todo = none → s.stew l.die (s.launchSpace l) Need.write .clear va h.len = .final c →
      Answers (exec (.reuseHit l.acc) s) gone) ∧
    (∀ b rest, h.todo = some (b :: rest) →
      ((s.sealHit (s.launchSpace l) va h.len = true ∨ s.lostIn [b.2] = true) → Answers (exec (.reuseHit l.acc) s) gone) ∧
      (s.sealHit (s.launchSpace l) va h.len = false → s.lostIn [b.2] = false → Mem.wf s.mem = true →
        Answers (exec (.reuseHit l.acc) s) fun t => t.queue = s.queue ∧ SameBytes s t b.2.1 b.2.2 ∧
          (∀ j, j < b.2.2 → t.byte (b.2.1 + j) = s.byte ((s.die h.die).rsBase + h.off + b.1 + j)) ∧
          ∃ z, t.hit? l.acc = some z ∧ z.todo = some rest)) ∧
    (h.todo = some [] →
      Answers (exec (.reuseHit l.acc) s) fun t => t.hit? l.acc = none ∧ t.queue = s.queue ∧
        t.mem = (recorded s h.die l.recd 1 0 0 0 0 0).mem)) ∧
  (∀ (s : State) (n k : Nat),
    let r := s.region n
    let d := s.die r.task.die
    let e : Reuse := Table.get d.reuse k
    ∀ segs, r.inserting = some k → e.st = .inserting → r.svc = .clear →
      s.stew r.task.die (s.launchSpace r.task) Need.read .clear r.resBase r.resLen = .ok segs →
      let b := s.engineRead segs
      Answers (exec (.reuseInsertion n) s) fun t => (t.region n).inserting = none ∧ (t.region n).offered = true ∧
        (b.2 = .clean → Mem.wf s.mem = true → (Table.get (t.die r.task.die).reuse k : Reuse).st = .live ∧
          SameBytes s t (d.rsBase + e.roff) b.1.length ∧ ∀ j, j < b.1.length → t.byte (d.rsBase + e.roff + j) = b.1.getD j 0) ∧
        (b.2 ≠ .clean → t.mem = s.mem ∧ (Table.get (t.die r.task.die).reuse k : Reuse).st = .free)) ∧
  (∀ (s : State) (n : Nat), (s.region n).live = true → (s.region n).twin = none →
    let r := s.region n
    (∀ k v h vs img old, r.life = .folding → r.svc.waits = false → r.fold = some k → s.runningImage r = .ok (h, vs, img, old) →
      vs[k]? = some v →
      (v.good h = true → s.foldValid r v img = true → s.foldReady r v = true →
        Answers (exec (.foldDrained n) s) fun t => (t.region n).life = .running ∧ (t.region n).rows = v.rows ∧
          (t.region n).cols = v.cols ∧ (t.region n).variant = k ∧ (t.region n).fold = none ∧ (t.region n).task = r.task) ∧
      ((v.good h = false ∨ s.foldValid r v img = false) →
        Answers (exec (.foldDrained n) s) fun t => t.mem = s.mem ∧ (t.region n).life = .running ∧ (t.region n).saveAsked = true ∧
          (t.region n).task.noFold = r.task.noFold ++ [k])) ∧
    (r.life = .folding → s.window r ≤ r.age →
      exec (.foldAbandon n) s = .next (s.modRegion n fun x => { x with
        life := if r.sw = .running ∧ r.hphase = .off then .saving else .running
        fold := none, saveAsked := true, age := 0, still := 0 })) ∧
    (r.life = .folding → r.age < s.window r → exec (.foldAbandon n) s = .next s) ∧
    (∀ segs, r.life = .saving → r.sw = .running → r.svc.waits = false → s.settled r = true →
      s.stew (blockDie r.origin) (s.launchSpace r.task) Need.write r.svc (s.ccb r.ctxno 320 57) r.saveLen = .ok segs →
      Answers (exec (.saveWritten n) s) fun t => SameOutside s t segs ∧ (t.region n).live = false ∧
        ∃ l, t.queue = l :: s.queue ∧ l.acc = r.task.acc ∧ l.recd = r.task.recd ∧ l.saved = some (s.savedOf n) ∧ l.saved1 = none) ∧
    (∀ v k items, r.life = .restoring → r.svc = .clear → r.task.saved = some v → s.loadItems r = .ok (k, items) →
      Answers (exec (.restoreWritten n) s) fun t => (t.region n).life = .running ∧ (t.region n).active = v.active ∧
        (t.region n).head = v.head ∧ (t.region n).task.saved = none ∧ (t.region n).minres = r.rage ∧ (t.region n).restored = true))

/-- Traps and their handlers (R419 to R424, R427, R428). The head moves to the nearest live iteration. With trap handling disabled a
fault is taken by purging its request or ending its task; with it enabled, and trap frame 0 writable, its record is written to the
frame and the region quiesces; two cycles later cc3 is active in handler mode, and ccb.hm is 1; two cycles after an `hret` the
interrupted context is active again, and the halted bank goes on or its request is purged, once the switch requests of the cycle are
settled (R303). A fault that is not due is not taken. -/
def Obligations.Handling : Prop :=
  ∀ (s : State) (n : Nat), (s.region n).live = true →
    let r := s.region n
    let l := s.liveTags n
    Answers (exec (.retireHead n) s) (fun t => t.mem = s.mem ∧ t.elems = s.elems ∧
      (r.head ∈ l → (t.region n).head = r.head) ∧
      (l = [] → (t.region n).head = r.head) ∧
      (l ≠ [] → (t.region n).head ∈ l ∧ ∀ x ∈ l, ((t.region n).head - r.head).toNat ≤ (x - r.head).toNat)) ∧
    (s.dueFault n = none → exec (.faultTaken n) s = .next s) ∧
    (∀ f, s.dueFault n = some f → r.life = .running → r.svc = .clear → r.twin = none → r.hphase = .off →
      s.purgeRoom (s.faultDie f) = true → f.region = n → (f.cause ≠ 0x0B → s.faultDie f = f.elem.tile.die) ∧
      (s.th f.ctxno = false → (∀ p ∈ s.purges, p.unmarked = true) →
        Answers (exec (.faultTaken n) s) fun t => t.faults = s.faults.erase f ∧ t.regions = s.regions ∧
          (∃ p ∈ t.purges, p.owner = (if byPurge f.cause then (⟨f.ctxno, f.reqtag⟩ : Owner) else r.task.owner)) ∧
          (s.ccb f.ctxno 192 57 = 0 → t.mem = s.mem)) ∧
      (∀ segs, s.th f.ctxno = true → r.sw ≠ .settling → s.tfa f.ctxno ≠ 0 → s.frameX r f (s.tfa f.ctxno) = .ok segs →
        Answers (exec (.faultTaken n) s) fun t => t.faults = s.faults.erase f ∧ (t.region n).hphase = .entering ∧
          (t.region n).hctx = r.active ∧ (t.region n).hfault = some f ∧ t.elems = s.elems ∧
          let z := s.engineWrite segs (bytesOf 128 (faultNum f r true (Table.get s.faultSeq f.ctxno.toNat))) .clean
          (z.ccb f.ctxno 192 57 = 0 → t.mem = z.mem))) ∧
    (r.hphase = .entering → 2 ≤ r.hage → r.twin = none → ∀ a, Table.find s.ctxs r.ctxno.toNat = some a → s.linkLost a = false →
      Mem.wf s.mem = true →
      Answers (exec (.handlerEntry n) s) fun t => SameBytes s t a 64 ∧ t.ccb r.ctxno 384 1 = 1 ∧ (t.region n).hphase = .on ∧
        (t.region n).handler = true ∧ (t.region n).active = 3) ∧
    (r.hphase = .entering → r.hage < 2 → exec (.handlerEntry n) s = .next s) ∧
    let none_due := ∀ q ∈ s.switches, q.status = none → r.hasTile q.elem.tile = true → r.clock < q.due
    (¬none_due → r.twin = none → exec (.handlerExit n) s = .next s) ∧
    (∀ f, r.hphase = .leaving → 2 ≤ r.hage → r.twin = none → r.hfault = some f → r.again = none → none_due →
      s.purgeRoom (s.faultDie f) = true → r.hform = 1 →
      Answers (exec (.handlerExit n) s) fun t => (t.region n).hphase = .off ∧ (t.region n).handler = false ∧
        (t.region n).active = r.hctx ∧ (t.region n).hfault = none ∧
        ∃ p ∈ t.purges, p.owner = ⟨f.ctxno, f.reqtag⟩) ∧
    (∀ f, r.hphase = .leaving → 2 ≤ r.hage → r.twin = none → r.hfault = some f → r.again = none → none_due → r.hform = 0 →
      resumesByDrop f.cause = false → f.async = false → f.cause ≠ 0x0B → f.req = none → f.bank < 4 →
      Answers (exec (.handlerExit n) s) fun t => (t.region n).hphase = .off ∧ (t.region n).handler = false ∧
        (t.region n).active = r.hctx ∧ t.purges = s.purges ∧ ((t.elem f.elem).bank f.bank).halted = false)

/-- Containment (R408, R429 to R436, R452). The marking makes every input token and unperformed access of the tag absent, in every element at
once, also in what is saved, and takes its launches from the queues, but for those that a region it ends has queued; the sweep undoes the rows of removed work
entry by entry and then makes the tokens of its commands idle with st 8; the recording ends the purge, and the next one of the die begins.
Agreeing exit entries of a twin pair become one, which is held while one of them is of a later iteration (R420), and disagreeing ones, or one without a
partner for a window, are a twin mismatch. A corrected error is counted, and latches at the threshold; an uncorrectable one ends every
context with an entry in its structure, by a purge for each of its tasks, writes the record of R434 into the context's log, and clears the
structure; a cleared descriptor frees the seals of its space. -/
def Obligations.Containment : Prop :=
  (∀ (s : State) (d : Nat) (p : Purge), s.purgeNow d = some p → p.die = d →
    (p.st = .marking → (∀ x ∈ s.regions, x.2.task.owner ≠ p.owner) →
      Answers (exec (.purgeMarking d) s) fun t =>
        (∀ e q k, QEntry.tok k ∈ (t.elem e).inq q → k.owner ≠ p.owner) ∧
        (∀ q ∈ t.reqs, (⟨q.ctxno, q.reqtag⟩ : Owner) = p.owner → q.performed = true) ∧
        (∀ l ∈ t.queue, l.owner = p.owner → ∃ e ∈ p.ends, l.queuedBy = some e.1 ∨ l.queuedBy = (s.region e.1).twin.map (·.1)) ∧ 
        (∀ l ∈ t.queue, lrCtx l.recd = p.owner.ctxno → ∀ v ∈ l.saves, ∀ q ∈ v.reqs, (⟨q.ctxno, q.reqtag⟩ : Owner) = p.owner →
          q.performed = true) ∧
        ∃ z, t.purgeNow d = some z ∧ z.st = .sweeping ∧ z.owner = p.owner) ∧
    (∀ q, p.st = .sweeping → s.strayRow = some q → exec (.purgeSweepDone d) s = .next (s.rollStep q.1 q.2)) ∧
    (p.st = .sweeping → s.strayRow = none → p.sbs = [] →
      Answers (exec (.purgeSweepDone d) s) fun t => t.mem = s.mem ∧ t.elems = s.elems ∧
        ∃ z, t.purgeNow d = some z ∧ z.st = .recording ∧ z.recs = p.recs) ∧
    (∀ e sb got, p.st = .sweeping → s.strayRow = none → p.sbs = [(e, sb, got)] → sb < 8 → (s.elem e).sbBusy.getLsbD sb = true →
      Answers (exec (.purgeSweepDone d) s) fun t => t.mem = s.mem ∧ Idle t e sb got 8) ∧
    (p.st = .recording → p.recs = [] → s.purges = [p] → s.ccb p.owner.ctxno 192 57 = 0 → p.cmds = [] →
      Answers (exec (.purgeRecording d) s) fun t => t.mem = s.mem ∧ t.purges = [])) ∧
  (∀ (s : State) (i j : Nat) (p q : Req) (n m : Nat), s.req? i = some p → s.req? j = some q → i ≠ j →
    s.copyOfTwin p = some (n, m, true) → s.copyOfTwin q = some (m, n, false) → p.stage = .twin → q.stage = .twin →
    p.started = q.started → p.mate = none → q.mate = none → s.sameElem n m p.elem q.elem = true → p.exitNo = q.exitNo →
    (s.isUnheld p = true ∨ s.isUnheld q = true → exec (.exitCompare i j) s = .next s) ∧
    (s.isUnheld p = false → s.isUnheld q = false → p.agrees q = true → p.isStream = false →
      (∀ m ∈ s.reqs, m.mate ≠ some i ∧ m.mate ≠ some j) →
      let pass := s.exitPasses p.elem.tile p.itertag p.inHandler = true ∧ s.exitPasses q.elem.tile q.itertag q.inHandler = true
      Answers (exec (.exitCompare i j) s) fun t => t.mem = s.mem ∧ t.faults = s.faults ∧
        (∃ a, t.req? i = some a ∧ a.mate = some j ∧ (pass → a.stage = if p.parts.isEmpty then .sent else .atHome) ∧
          (¬pass → a.stage = .exitHeld)) ∧ ∃ b, t.req? j = some b ∧ b.stage = .mate) ∧
    (s.isUnheld p = false → s.isUnheld q = false → p.agrees q = false →
      Answers (exec (.exitCompare i j) s) fun t => t.mem = s.mem ∧
        ∃ g, t.faults = s.faults ++ [g] ∧ g.cause = 0x09 ∧ g.itertag = p.itertag ∧ g.opa = p.data ∧ g.opb = q.data)) ∧
  (∀ (s : State) (i : Nat) (q : Req) (n m : Nat) (c : Bool), s.req? i = some q → s.copyOfTwin q = some (n, m, c) → q.stage = .twin →
    q.mate = none → (∀ p ∈ s.reqs, p.stage ≠ .twin ∨ (s.region m).hasTile p.elem.tile = false) →
    (s.window (s.region n) < q.age → Answers (exec (.twinPartnerTimeout i) s) fun t => t.mem = s.mem ∧
      ∃ g, t.faults = s.faults ++ [g] ∧ g.cause = 0x09 ∧ g.opb = Lanes.fill 0) ∧
    (q.age ≤ s.window (s.region n) → exec (.twinPartnerTimeout i) s = .next s)) ∧
  (∀ (s : State) (k : Nat),
    let i : Island := Table.get s.islands k
    Answers (exec (.correctedError k) s) fun t => t.mem = s.mem ∧
      (Table.get t.islands k : Island).count.toNat = min 0xFFFFFFFF (i.count.toNat + 1) ∧
      ((i.threshold = 0 ∨ i.latched = true ∨ i.count.toNat + 1 < i.threshold.toNat) → t.dies = s.dies) ∧
      (i.threshold ≠ 0 → i.latched = false → i.threshold.toNat ≤ min 0xFFFFFFFF (i.count.toNat + 1) →
        (t.die (k / 16)).isl.getLsbD (k % 16) = true ∧ (t.die (k / 16)).ntf.getLsbD 2 = true)) ∧
  (∀ (s : State) (e : ElemId) (q : Nat), (s.regionAt e.tile).live = false → q < 6 → entryCtxs ((s.elem e).inq q) = [] →
    Answers (exec (.structureError 0 e q) s) fun t => t.mem = s.mem ∧ (t.elem e).inq q = []) ∧
  (∀ (s : State) (code n : Nat) (e : ElemId) (c : BitVec 14), s.struckBy code e n = [c] → s.purges = [] →
    Answers (exec (.structureError code e n) s) fun t => t.regions = s.regions ∧
      (∀ l ∈ t.queue, lrCtx l.recd ≠ c) ∧
      (∀ x ∈ s.regions, x.2.live = true → x.2.ctxno = c →
        ∃ p ∈ t.purges, p.owner = (s.region x.1).task.owner ∧ (x.1, 2, 0x06, 0) ∈ p.ends) ∧
      ((∀ l ∈ s.queue, lrCtx l.recd ≠ c) → (∀ h ∈ s.hits, lrCtx h.launch.recd ≠ c) → (s.regionAt e.tile).live = true →
        let at_ := (s.regionAt e.tile).rel e.tile
        let rec_ := pack [(0, 6), (16, e.pos), (40, e.tile.die), (43, at_.1), (49, at_.2), (64, c.toNat), (160, code)]
        t.mem = ((s.logEntry c e.tile.die 4 (bytesOf 128 rec_)).setCcb c 385 1 1).mem)) ∧
  (∀ (s : State) (sp : BitVec 14), (∃ d ∈ s.dies, d.2.spaceBase.isSome = true) →
    (∀ d ∈ s.dies, ∀ b, d.2.spaceBase = some b → s.peek (b + 8 * sp.toNat) 8 % 2 = 0) →
    (∀ x ∈ s.seals, x.2.st ≠ .hashing) →
    Answers (exec (.spaceDescriptorCleared sp) s) fun t => t.mem = s.mem ∧
      (∀ x ∈ t.seals, x.2.st = .free ∨ x.2.space ≠ sp.toNat) ∧
      ∀ d ∈ t.dies, ∀ x ∈ d.2.reuse, x.2.st = .free ∨ x.2.st = .dead ∨ x.2.space ≠ sp.toNat)

/-! ## The device in its system -/

namespace Sys2Proof.Claims

/-- A die holds a command record with this op and no reserved bit, no command runs, and firmware is running (R441, R447). -/
def Ready (s : State) (die op n : Nat) : Prop :=
  (s.die die).crec.toNat = n ∧ cmdOp n = op ∧ cmdReserved n = false ∧ (s.die die).busy = false ∧ s.bst = 2

/-- A command has ended with a result and a value, which `COMMAND_DONE` will report. -/
def EndsWith (t : State) (die : Nat) (res : BitVec 3) (v : Word) : Prop := (t.die die).busy = true ∧ (t.die die).fin = some (res, v)

/-- A command starts and goes on. -/
def GoesOn (t : State) (die : Nat) : Prop := (t.die die).busy = true ∧ (t.die die).fin = none

/-- The commands of Table 23.3 with their ops, but for Boot. -/
def commands : List (Nat × (Nat → Instr)) :=
  [(1, .setPoint), (2, .invalidate), (3, .bindWindow), (4, .context), (5, .spaceTable), (6, .translationQueue), (7, .reuseStore),
    (8, .reuseQuota), (9, .reuseFlush), (10, .save), (11, .purge), (12, .inject), (13, .monitor), (14, .attest), (15, .identityKey),
    (16, .threshold), (17, .clearErrors), (18, .retrain), (19, .channelTable)]

/-- Every command: a start while one is running is an overrun and changes res alone; in another boot state than running it ends with
4, with a reserved bit set it ends with 2 (R441). -/
def CommandGate : Prop :=
  ∀ (s : State) (die : Nat), ∀ p ∈ commands, cmdOp (s.die die).crec.toNat = p.1 →
    ((s.die die).busy = true → exec (p.2 die) s = .next (s.modDie die fun d => { d with res := 3 })) ∧
    ((s.die die).busy = false → s.bst ≠ 2 →
      Answers (exec (p.2 die) s) fun t => EndsWith t die 4 0 ∧ t.mem = s.mem ∧ t.bst = s.bst ∧ t.regions = s.regions) ∧
    ((s.die die).busy = false → s.bst = 2 → cmdReserved (s.die die).crec.toNat = true →
      Answers (exec (p.2 die) s) fun t => EndsWith t die 2 0 ∧ t.mem = s.mem ∧ t.regions = s.regions)

/-- Commands on operating points, translations, windows, contexts and tables (R216, R219, R221, R442, R445, R446, R450). -/
def TableCommands : Prop :=
  ∀ (s : State) (die n : Nat),
    let p0 := cmdP n 0
    let p1 := cmdP n 1
    let p2 := cmdP n 2
    (Ready s die 1 n → p0 < 128 → p0 / 16 = die → p1 < 16 →
      let lo := (Config.lowPoint p0).toNat
      let hi := (Config.highPoint p0).toNat
      Answers (exec (.setPoint die) s) fun t =>
        if lo ≤ p1 ∧ p1 ≤ hi then EndsWith t die 0 0 ∧ t.pointOf p0 = BitVec.ofNat 4 p1 ∧ ∀ k, k ≠ p0 → t.pointOf k = s.pointOf k
        else EndsWith t die 1 0 ∧ t.islands = s.islands) ∧
    (Ready s die 2 n → bits p0 14 2 = 0 → p0 < 2 ^ 17 → (bits p0 16 1 = 1 ∨ p1 + p2 ≤ 2 ^ 57) →
      Answers (exec (.invalidate die) s) fun t => GoesOn t die ∧ t.mem = s.mem ∧
        let goes := fun (e : TlbEnt) => e.space = p0 % 2 ^ 14 ∧ (bits p0 16 1 = 1 ∨ overlap e.vbase e.size p1 p2 = true)
        (∀ tl e, e ∈ (t.tile tl).tlb ↔ e ∈ (s.tile tl).tlb ∧ ¬goes e) ∧ ∀ d e, e ∈ (t.die d).tlb ↔ e ∈ (s.die d).tlb ∧ ¬goes e) ∧
    (Ready s die 3 n → p0 < 64 → p1 < 12 → p2 < 2 ^ 32 →
      (p2 ≠ 0 → Answers (exec (.bindWindow die) s) fun t => EndsWith t die 0 0 ∧ Table.get t.peers p0 = some (p1, p2)) ∧
      (p2 = 0 → (∀ x ∈ s.tiles, ∀ e ∈ x.2.tlb, rangeOf e.frame ≠ some (.peer p0)) →
        (∀ x ∈ s.dies, ∀ e ∈ x.2.tlb, rangeOf e.frame ≠ some (.peer p0)) →
        Answers (exec (.bindWindow die) s) fun t => EndsWith t die 0 0 ∧ Table.get t.peers p0 = none) ∧
      (p2 = 0 → ((∃ x ∈ s.tiles, ∃ e ∈ x.2.tlb, rangeOf e.frame = some (.peer p0)) ∨
          ∃ x ∈ s.dies, ∃ e ∈ x.2.tlb, rangeOf e.frame = some (.peer p0)) →
        Answers (exec (.bindWindow die) s) fun t => EndsWith t die 4 0 ∧ t.peers = s.peers)) ∧
    (Ready s die 4 n → p0 < 16384 → p2 = 1 → p1 % 64 = 0 → inCompanion p1 64 = true →
      Answers (exec (.context die) s) fun t => EndsWith t die 0 0 ∧ Table.find t.ctxs p0 = some p1 ∧ t.mem = s.mem) ∧
    (Ready s die 4 n → p0 < 16384 → p2 = 0 → (∀ l ∈ s.queue, (lrCtx l.recd).toNat ≠ p0) → s.hits = [] → s.regions = [] →
      ∀ a, Table.find s.ctxs p0 = some a → s.linkLost a = false → Mem.wf s.mem = true →
      Answers (exec (.context die) s) fun t => EndsWith t die 0 0 ∧ SameBytes s t a 64 ∧ t.ccb (BitVec.ofNat 14 p0) 385 1 = 1) ∧
    (Ready s die 5 n → p0 % 0x20000 = 0 → inCompanion p0 0x20000 = true →
      Answers (exec (.spaceTable die) s) fun t => EndsWith t die 0 0 ∧ (t.die die).spaceBase = some p0 ∧
        ∀ k, k ≠ die → t.die k = s.die k) ∧
    (Ready s die 6 n → p0 % 4096 = 0 → (∃ k, k < 13 ∧ p1 = 16 * 2 ^ k) → inCompanion p0 (32 * p1) = true →
      Answers (exec (.translationQueue die) s) fun t => EndsWith t die 0 0 ∧ (t.die die).tqBase = p0 ∧ (t.die die).tqLen = p1) ∧
    (Ready s die 19 n → p0 % 0x8000 = 0 → inCompanion p0 0x8000 = true →
      Answers (exec (.channelTable die) s) fun t => EndsWith t die 0 0 ∧ (t.die die).chanBase = (s.die die).chanBase)

/-- Commands on the reuse table, saves, purges and injections (R312, R376, R402, R407, R408, R429). -/
def WorkCommands : Prop :=
  ∀ (s : State) (die n : Nat),
    let p0 := cmdP n 0
    let p1 := cmdP n 1
    (Ready s die 7 n → p0 % 0x200000 = 0 → p1 % 0x200000 = 0 → p0 / 2 ^ 36 = die → p0 % 2 ^ 36 + p1 ≤ 2 ^ 36 →
      Answers (exec (.reuseStore die) s) fun t => EndsWith t die 0 0 ∧ (t.die die).reuse = [] ∧ (t.die die).rsBase = p0 ∧
        (t.die die).rsLen = p1) ∧
    (Ready s die 8 n → p0 < 16384 → p1 ≤ 65536 →
      Answers (exec (.reuseQuota die) s) fun t => EndsWith t die 0 0 ∧ Table.get (t.die die).quota p0 = p1) ∧
    (Ready s die 9 n → bits p0 14 2 = 0 → p0 < 2 ^ 17 →
      Answers (exec (.reuseFlush die) s) fun t => EndsWith t die 0 0 ∧ t.mem = s.mem ∧
        ∀ x ∈ (t.die die).reuse, (x.2.st ≠ .live ∧ x.2.st ≠ .inserting) ∨ (bits p0 16 1 = 0 ∧ x.2.space ≠ p0 % 2 ^ 14)) ∧
    (Ready s die 10 n → p0 < 16384 →
      Answers (exec (.save die) s) fun t => GoesOn t die ∧ t.mem = s.mem ∧
        ∀ r, (s.region r).live = true → (s.region r).ctxno.toNat = p0 → (s.region r).done = none → (t.region r).saveAsked = true) ∧
    (Ready s die 11 n → p0 < 16384 → p1 < 65536 → s.purgeRoom die = true →
      Answers (exec (.purge die) s) fun t => GoesOn t die ∧ t.mem = s.mem ∧
        ∃ p ∈ t.purges, p.owner = ⟨BitVec.ofNat 14 p0, BitVec.ofNat 16 p1⟩ ∧ die ∈ p.cmds) ∧
    (Ready s die 12 n → cmdTileOk n die = true → 124 ≤ bits p0 11 7 → p0 < 2 ^ 18 → p1 < 2 ^ 16 →
      Answers (exec (.inject die) s) fun t => EndsWith t die 0 0 ∧
        (t.elem ⟨cmdTile n die, bits p0 11 7⟩).injw.toNat % 2 ^ 15 = p1 % 2 ^ 15 ∧
        (p1 % 2 = 1 → (t.elem ⟨cmdTile n die, bits p0 11 7⟩).injw.getLsbD 15 = false))

/-- Commands that write companion memory, and those on errors and links (R444, R449, R452, R454): each writes the bytes of its block, and
no other byte, where no link to it is lost. The report carries the body and the ML-DSA-44 signature of its hash, by the key of the fused
seed whose public part `IDENTITY_KEY` returns; the seed and the signature's random number are free (log entry 25), and so is whether a link
retrains (log entry 50). -/
def HostCommands : Prop :=
  ∀ (s : State) (die n : Nat),
    let p0 := cmdP n 0
    let p1 := cmdP n 1
    (Ready s die 13 n → cmdTileOk n die = true → p0 < 2 ^ 11 → inCompanion p1 80 = true → cmdP n 2 < 2 →
      s.lostIn [(p1, 80)] = false → Mem.wf s.mem = true →
      let m := (s.tile (cmdTile n die)).mon
      Answers (exec (.monitor die) s) fun t => EndsWith t die 0 0 ∧ SameBytes s t p1 80 ∧ t.peek p1 4 = m.cfg.toNat ∧
        t.peek (p1 + 4) 4 = m.base.toNat ∧ t.peek (p1 + 8) 4 = m.low.toNat ∧ t.peek (p1 + 12) 4 = m.high.toNat ∧
        (∀ k, k < 16 → t.peek (p1 + 16 + 4 * k) 4 = (Table.get m.bins k : Word).toNat) ∧
        (t.tile (cmdTile n die)).mon = (if cmdP n 2 = 1 then { cfg := m.cfg, base := m.base } else m)) ∧
    (Ready s die 14 n → inCompanion p0 32 = true → inCompanion p1 2548 = true → s.lostIn [(p0, 32)] = false →
      s.lostIn [(p1, 2548)] = false → Mem.wf s.mem = true →
      let body := s.attestBody (s.peek p0 32)
      let sig := dsaSign (identity Config.identitySeed) (bytesOf 32 (Config.signRandom s.fresh).toNat) (bytesOf 32 (sha3 body))
      Answers (exec (.attest die) s) fun t => EndsWith t die 0 0 ∧ SameBytes s t p1 2548 ∧ t.peek p1 32 = s.peek p0 32 ∧
        (s.fwdig < 2 ^ 256 → t.peek (p1 + 32) 32 = s.fwdig) ∧ (∀ j, j < 128 → t.byte (p1 + j) = body.getD j 0) ∧
        ∀ j, j < sig.length → t.byte (p1 + 128 + j) = sig.getD j 0) ∧
    (Ready s die 15 n → inCompanion p0 1312 = true → s.lostIn [(p0, 1312)] = false → Mem.wf s.mem = true →
      let key := (identity Config.identitySeed).pub
      Answers (exec (.identityKey die) s) fun t => EndsWith t die 0 0 ∧ SameBytes s t p0 1312 ∧
        ∀ j, j < key.length → t.byte (p0 + j) = key.getD j 0) ∧
    (Ready s die 16 n → p0 < 128 → p0 / 16 = die → p1 < 2 ^ 32 →
      Answers (exec (.threshold die) s) fun t => EndsWith t die 0 0 ∧ (Table.get t.islands p0 : Island).threshold = BitVec.ofNat 32 p1 ∧
        (Table.get t.islands p0 : Island).count = (Table.get s.islands p0 : Island).count) ∧
    (Ready s die 17 n → p0 < 128 → p0 / 16 = die →
      Answers (exec (.clearErrors die) s) fun t => EndsWith t die 0 0 ∧ (Table.get t.islands p0 : Island).count = 0 ∧
        (Table.get t.islands p0 : Island).latched = false) ∧
    (Ready s die 18 n → portOk p0 die = true →
      Answers (exec (.retrain die) s) fun t => (EndsWith t die 0 1 ∧ p0 ∉ t.lost ∧ (t.die die).ntf.getLsbD 4 = true) ∨
        (EndsWith t die 0 0 ∧ t.lost = s.lost)) ∧
    ((s.die die).crec.toNat = n → (s.die die).busy = false → s.bst = 2 → (0x13 < cmdOp n ∨ cmdReserved n = true) →
      Answers (exec (.unassignedCommand die) s) fun t => EndsWith t die 2 0 ∧ t.mem = s.mem ∧ t.regions = s.regions)

/-- Power-up and boot (R447, R448): power-up leaves companion memory and the memory of remote devices, and nothing of the package's own; Boot starts the ROM on an
image in companion memory, which it reads there and then, in boot states 0 and 3 and on d0 only; the body of an image that passes every
check of R448, made in its order, is loaded into all 32 stewards and runs, and every launch word is empty; of one that does not, bres
names the first check that fails. What the checks are is FIPS 202's and FIPS 204's (log entries
13 and 50); that every byte of HBM and second tier is 0 after power-up is the model's choice (log entry 2), and so are its bytes from 2^60
on, which are the remote devices' (log entry 41). -/
def BootSteps : Prop :=
  (∀ s : State, Answers (exec .powerUp s) fun t => t.bst = 0 ∧ t.regions = [] ∧ t.queue = [] ∧ t.ctxs = [] ∧ t.elems = [] ∧
    t.dies = [] ∧ t.islands = [] ∧
    ∀ a, t.byte a = if (0x1000000000000 ≤ a ∧ a < 2 ^ 52) ∨ 2 ^ 60 ≤ a then s.byte a else 0) ∧
  (∀ (s : State) (die n : Nat), (s.die die).crec.toNat = n → cmdOp n = 0 → cmdReserved n = false → (s.die die).busy = false →
    ((die ≠ 0 ∨ (s.bst ≠ 0 ∧ s.bst ≠ 3)) → Answers (exec (.boot die) s) fun t => EndsWith t die 4 0 ∧ t.bst = s.bst) ∧
    (die = 0 → (s.bst = 0 ∨ s.bst = 3) → inCompanion (cmdP n 0) (cmdP n 1) = true →
      Answers (exec (.boot die) s) fun t => GoesOn t die ∧ t.bst = 1 ∧ t.bres = 0 ∧
        t.fwImg = (s.engineRead [(cmdP n 0, cmdP n 1)]).1 ∧ t.fwPois = (s.engineRead [(cmdP n 0, cmdP n 1)]).2)) ∧
  (∀ s : State, s.bst = 1 →
    let c := bootCheck s.fwImg (s.fwPois == .clean)
    Answers (exec .bootVerifyEnd s) fun t => t.mem = s.mem ∧
      if c = 0 then t.bst = 2 ∧ t.fwdig = sha3 s.fwImg ∧ t.stewards = List.replicate 32 (s.fwImg.drop 3776) ∧
        ∀ k, k < 8 → (t.die k).lwFull = false
      else t.bst = 3 ∧ t.bres = c ∧ t.stewards = s.stewards) ∧
  (∀ (img : List Byte) (clean : Bool),
    let h := numOf (img.take 16)
    let blen := h / 2 ^ 64 % 2 ^ 32
    let formed := clean = true ∧ h % 2 ^ 32 = 0x53384657 ∧ h / 2 ^ 38 % 2 ^ 26 = 0 ∧ h / 2 ^ 96 % 2 ^ 32 = 0 ∧
      numOf ((img.drop 3748).take 28) = 0 ∧ blen % 64 = 0 ∧ 64 ≤ blen ∧ blen ≤ 67108864 ∧ img.length = 3776 + blen
    let digest := sha3 ((img.drop 16).take 1312) = Config.keyDigest.toNat
    let version := Config.minSvn.toNat ≤ h / 2 ^ 32 % 64
    let verifies := dsaVerify ((img.drop 16).take 1312) (bytesOf 32 (sha3 (img.drop 3776))) ((img.drop 1328).take 2420) = true
    (¬formed → bootCheck img clean = 4) ∧ (formed → ¬digest → bootCheck img clean = 1) ∧
      (formed → digest → ¬version → bootCheck img clean = 2) ∧ (formed → digest → version → ¬verifies → bootCheck img clean = 3) ∧
      (formed → digest → version → verifies → bootCheck img clean = 0))

/-- The window, the driver's answers and the capture of launches (R222, R328, R332, R333, R440, R441): a write of the command record
changes its byte; a finished command reports its result and is no longer busy; a written 1 clears its notification; a positive answer
lets the parked accesses of its page translate again, whichever record of that page they wait under (log entry 9), and a refusal makes its fault final and records it; a launch word takes a value when it
is empty; the queue captures a record, accepts it behind the others, refuses it with st 5, or drops and counts it; a read of the window
returns its fields, and zero for what is written only, reserved or beyond the two records (R2, R8). -/
def WindowSteps : Prop :=
  (∀ (s : State) (die off : Nat) (v : Byte),
    (128 ≤ off → off < 192 → Answers (exec (.managementWrite die off v) s) fun t => t.mem = s.mem ∧
      ∀ k, k < 64 → bits (t.die die).crec.toNat (8 * k) 8 = if k = off - 128 then v.toNat else bits (s.die die).crec.toNat (8 * k) 8) ∧
    ((off < 128 ∨ 192 ≤ off) → exec (.managementWrite die off v) s = .next s)) ∧
  (∀ (s : State) (die : Nat) (c : BitVec 512) (r : BitVec 3) (v : Word), (s.die die).run = some c → (s.die die).fin = some (r, v) →
    Answers (exec (.commandDone die) s) fun t => t.mem = s.mem ∧ (t.die die).res = r ∧ (t.die die).rval = v ∧
      (t.die die).busy = false ∧ (t.die die).run = none ∧ (t.die die).ntf.getLsbD 0 = true ∧
      (t.die die).chanBase = (if cmdOp c.toNat = 19 ∧ r = 0 then some (cmdP c.toNat 0) else (s.die die).chanBase)) ∧
  (∀ (s : State) (die : Nat) (a : BitVec 5) (b : BitVec 16), Answers (exec (.notificationClear die a b) s) fun t => t.mem = s.mem ∧
    (t.die die).ntf = (s.die die).ntf &&& ~~~a ∧ (t.die die).isl = (s.die die).isl &&& ~~~b) ∧
  (∀ (s : State) (die a : Nat) (u : TransRec), s.trans = [u] → u.die = die → u.place = some a → u.spent = false → s.linkLost a = false →
    let n := s.peek a 32
    bits n 128 32 = u.seq →
    (∀ id r p, s.req? id = some r → r.stage = .parked p → p.tr = some (u.die, u.seq) → p.final = false →
      (bits n 160 2 = 1 → Answers (exec (.translationDoorbell die) s) fun t => t.mem = s.mem ∧ t.trans = [] ∧
        ∃ q, t.req? id = some q ∧ q.stage = .sent) ∧
      (bits n 160 2 = 2 → Answers (exec (.translationDoorbell die) s) fun t => t.mem = s.mem ∧ t.trans = [] ∧
        (∃ q, t.req? id = some q ∧ q.stage = .parked { p with final := true }) ∧
        ∃ g ∈ t.faults, g.cause = 0x03 ∧ g.itertag = r.itertag ∧ g.addr = p.addr ∧ g.req = some id)) ∧
    (bits n 160 2 = 0 → exec (.translationDoorbell die) s = .next s)) ∧
  (∀ (s : State) (die a : Nat) (u w : TransRec), s.trans = [u, w] → u.die = die → w.die ≠ die → u.place = some a → u.spent = false →
    s.linkLost a = false → bits (s.peek a 32) 128 32 = u.seq → bits (s.peek a 32) 160 2 = 1 →
    u.space = w.space → u.va / 0x10000 = w.va / 0x10000 →
    ∀ id r p, s.req? id = some r → r.stage = .parked p → p.tr = some (w.die, w.seq) → p.final = false →
      Answers (exec (.translationDoorbell die) s) fun t => t.mem = s.mem ∧ ∃ q, t.req? id = some q ∧ q.stage = .sent) ∧
  (∀ (s : State) (die : Nat) (v : BitVec 64),
    ((s.die die).lwFull = false → (Config.windowPort die).toNat ∉ s.lost →
      exec (.launchWordStore die v) s = .next (s.modDie die fun d => { d with lw := v, lwFull := true })) ∧
    ((s.die die).lwFull = true → exec (.launchWordStore die v) s = .next s)) ∧
  (∀ (s : State) (die : Nat),
    let d := s.die die
    let z := s.modDie die fun x => { x with lwFull := false, lwSvc := .clear }
    let b := s.engineRead [(bits d.lw.toNat 6 46 * 64, 64)]
    let n := numOf b.1
    (1024 ≤ s.queued die → ∀ q, exec (.launchCapture die q) s = .next s) ∧
    (s.queued die < 1024 → s.bst = 2 → d.lwFull = true → d.cap = none → b.2 = .clean →
      (∀ m, z.capX die n none .clear = .accept m → Answers (exec (.launchCapture die none) s) fun t => t.mem = s.mem ∧
        (t.die die).lwFull = false ∧ t.queue = s.queue ++ [{ acc := s.accNo, die := die, recd := n, args := m }] ∧
        t.accNo = s.accNo + 1) ∧
      (∀ c, z.capX die n none .clear = .refuse c → Answers (exec (.launchCapture die none) s) fun t => t.queue = s.queue ∧
        (t.die die).lwFull = false ∧ t.mem = (recorded z die n 5 c 0 0 0 0).mem) ∧
      (z.capX die n none .clear = .drop → Answers (exec (.launchCapture die none) s) fun t => t.queue = s.queue ∧ t.mem = s.mem ∧
        (t.die die).refl = addTouch d.refl 1)) ∧
    (∀ id r va m, s.queued die < 1024 → s.req? id = some r → r.op = .launch va → r.elem.tile.die = die → r.stage = .sent →
      r.svc = .clear → r.started = true → s.capX die r.blk (some (s.space r.ctxno)) .clear = .accept m →
      Answers (exec (.launchCapture die (some id)) s) fun t => t.mem = s.mem ∧
        t.queue = s.queue ++ [{ acc := s.accNo, die := die, recd := r.blk, args := m, queuedBy := s.regionOf r.elem.tile }])) ∧
  (∀ (s : State) (die : Nat),
    let d := s.die die
    let read := fun (lo len : Nat) => numOf ((List.range len).map fun i => s.readWindow die (lo + i))
    read 0 8 = d.lw.toNat ∧ bits (read 16 4) 0 1 = (if d.busy then 1 else 0) ∧ bits (read 16 4) 1 3 = d.res.toNat ∧
      bits (read 16 4) 4 28 = 0 ∧ read 20 4 = d.rval.toNat ∧ read 24 2 = d.refl.toNat ∧ read 26 2 = d.lostl.toNat ∧
      bits (read 28 4) 0 3 = s.bst.toNat ∧ bits (read 28 4) 3 29 = s.bres.toNat ∧ bits (read 32 4) 0 8 = d.ntf.toNat ∧
      bits (read 32 4) 8 24 = d.isl.toNat ∧ read 128 1 = bits d.crec.toNat 0 8 ∧ read 136 24 = bits d.crec.toNat 64 192 ∧
      ∀ off, (8 ≤ off ∧ off < 16) ∨ (36 ≤ off ∧ off < 128) ∨ (129 ≤ off ∧ off < 136) ∨ 160 ≤ off → s.readWindow die off = 0)

/-- The I/O agent, links and monitors (R119, R212, R355, R444, R445): a message waits in its queue or goes to the `ioread` that waits for
it; an `ioread` with a malformed descriptor, an unbound channel or one of another space ends with its status; an `ioread` under way writes
its next block, zero where the channel data of its line carry an error, and no other byte; one whose link is lost ends with status 5; at the
end the completion word is filled, once it is empty (step 6 of R119); a lost port is noted; an occupancy is sampled into its bin. -/
def OutsideSteps : Prop :=
  (∀ (s : State) (q : Nat) (msg : List Byte), (∀ r ∈ s.reqs, r.op ≠ .ioread) →
    Answers (exec (.ioMessageAvailable q msg) s) fun t => t.mem = s.mem ∧
      (Table.get t.netq q : List (List Byte)) = (Table.get s.netq q : List (List Byte)) ++ [msg]) ∧
  (∀ (s : State) (id : Nat) (r : Req), s.req? id = some r → r.op = .ioread → r.stage = .sent → r.svc = .clear →
    let chan := s.channel r.elem.tile.die (ioChan (natOfVec r.data))
    let n := natOfVec r.data
    let ended := fun (st : Nat) => Answers (exec (.ioreadCompletion id) s) fun t => t.mem = s.mem ∧
      ∃ q, t.req? id = some q ∧ q.started = true ∧ q.stop = true ∧ q.st = st ∧ q.ioTotal = q.prog
    (r.started = false → r.ioEntry = 0 → ioBad n = true → ended 4) ∧
    (r.started = false → r.ioEntry = 0 → ioBad n = false → chan = none → ended 3) ∧
    (∀ c, r.started = false → r.ioEntry = 0 → ioBad n = false → chan = some c → bits c 2 1 = 0 → bits c 3 14 ≠ s.space r.ctxno →
      ended 2) ∧
    (r.started = false → r.ioEntry ≠ 0 →
      s.engineRange (siteOf r.elem.tile) (s.space r.ctxno) Need.write r.svc (ioDst n) (ioLen n) = .final → ended 2) ∧
    (∀ b rest, r.started = true → r.stop = true → r.picks = b :: rest → s.ioCut r = false → s.linkLost (r.ioAddr b.1) = false →
      r.ioNet = false → s.heldRuns [(r.ioAddr b.1, b.2)] = false → Mem.wf s.mem = true →
      let src := (Table.get s.spaces r.ioTarget : List Byte)
      let at0 := ioOff n + b.1
      let bad := Config.badLine (r.addr.l4 + ((ioDst n + b.1) / 64 - ioDst n / 64))
      at0 + b.2 ≤ src.length →
      Answers (exec (.ioreadCompletion id) s) fun t => SameBytes s t (r.ioAddr b.1) b.2 ∧
        (∀ j, j < b.2 → t.byte (r.ioAddr b.1 + j) = if bad then 0 else src.getD (at0 + j) 0) ∧
        ∃ q, t.req? id = some q ∧ q.picks = rest ∧ q.got = r.got + b.2 ∧ q.st = if bad then max r.st 1 else r.st) ∧
    (∀ b rest, r.started = true → r.stop = true → r.picks = b :: rest → (s.ioCut r = true ∨ s.linkLost (r.ioAddr b.1) = true) →
      Answers (exec (.ioreadCompletion id) s) fun t => ∃ q, t.req? id = some q ∧ q.st = 5 ∧ q.got = r.got ∧ q.picks = []) ∧
    (∀ w, r.started = true → r.stop = true → r.picks = [] → r.mate = none →
      s.localByte r.elem.tile r.space r.addr.l0 = some w → NoneWaits s → Mem.wf s.mem = true →
      (s.isFull w = false → s.generatorFirst w false s.nextId = false → s.locked id w 4 = false →
        Answers (exec (.ioreadCompletion id) s) fun t => SameBytes s t w 4 ∧ t.isFull w = true ∧
          (r.got < 2 ^ 28 → r.st < 16 → t.peek w 4 = r.got + 2 ^ 28 * r.st)) ∧
      (s.isFull w = true → Answers (exec (.ioreadCompletion id) s) fun t => t.mem = s.mem ∧ t.full = s.full ∧
        ∃ q, t.req? id = some q ∧ q.stage = .waiting s.nextId))) ∧
  (∀ (s : State) (port : Nat),
    (port ∈ s.lost → exec (.linkLost port) s = .next s) ∧
    (port ∉ s.lost → s.reqs = [] → Answers (exec (.linkLost port) s) fun t => t.mem = s.mem ∧ t.lost = s.lost ++ [port] ∧
      (t.die (dieOfPort port)).ntf.getLsbD 3 = true)) ∧
  (∀ (s : State) (tile : TileId),
    let m := (s.tile tile).mon
    let q := bits m.cfg.toNat 11 3
    let v := (((s.elem ⟨tile, bits m.cfg.toNat 4 7⟩).inq q).filter QEntry.isTok).length
    let k := if v < m.base.toNat then 0 else min 15 ((v - m.base.toNat) / 2 ^ min 20 (bits m.cfg.toNat 14 5))
    m.src = 3 → q < 6 → v < 2 ^ 32 →
    Answers (exec (.monitorOccupancySample tile) s) fun t => t.mem = s.mem ∧
      (t.tile tile).mon.low.toNat = min m.low.toNat v ∧ (t.tile tile).mon.high.toNat = max m.high.toNat v ∧
      (Table.get (t.tile tile).mon.bins k : Word).toNat = min 0xFFFFFFFF ((Table.get m.bins k : Word).toNat + 1) ∧
      ∀ j, j ≠ k → (Table.get (t.tile tile).mon.bins j : Word) = Table.get m.bins j)

end Sys2Proof.Claims

/-- The management commands, one by one, and what bars each of them (R441 and the rules of Table 23.3). -/
def Obligations.Commands : Prop := CommandGate ∧ TableCommands ∧ WorkCommands ∧ HostCommands

/-- Power-up, boot, the management window, the driver's answers and the capture of launches. (That power-up leaves every byte of HBM and of
the second tier at 0 and keeps those of remote devices, and what boot verifies with, are the model's choices: log entries 2, 41, 13, 50.) -/
def Obligations.SystemSteps : Prop := BootSteps ∧ WindowSteps

/-- The I/O agent, links and monitors. -/
def Obligations.OutsideEvents : Prop := OutsideSteps
end

