-- ==== Sys2Proof/Laws/State.lean ====
section
/-!
SUPPORT. What each update of the state leaves: one lemma per field per update, true by `rfl`, so that no proof unfolds a record
update.
-/

namespace Sys2Proof.Machine

/-! ## `setElem` -/

@[simp] theorem State.setElem_agenda (s : State) (e : ElemId) (x : Elem) : (s.setElem e x).agenda = s.agenda := rfl
@[simp] theorem State.setElem_tick (s : State) (e : ElemId) (x : Elem) : (s.setElem e x).tick = s.tick := rfl
@[simp] theorem State.setElem_cur (s : State) (e : ElemId) (x : Elem) : (s.setElem e x).cur = s.cur := rfl
@[simp] theorem State.setElem_mem (s : State) (e : ElemId) (x : Elem) : (s.setElem e x).mem = s.mem := rfl
@[simp] theorem State.setElem_full (s : State) (e : ElemId) (x : Elem) : (s.setElem e x).full = s.full := rfl
@[simp] theorem State.setElem_pois (s : State) (e : ElemId) (x : Elem) : (s.setElem e x).pois = s.pois := rfl
@[simp] theorem State.setElem_ctxs (s : State) (e : ElemId) (x : Elem) : (s.setElem e x).ctxs = s.ctxs := rfl
@[simp] theorem State.setElem_regions (s : State) (e : ElemId) (x : Elem) : (s.setElem e x).regions = s.regions := rfl
@[simp] theorem State.setElem_faults (s : State) (e : ElemId) (x : Elem) : (s.setElem e x).faults = s.faults := rfl
@[simp] theorem State.setElem_reqs (s : State) (e : ElemId) (x : Elem) : (s.setElem e x).reqs = s.reqs := rfl
@[simp] theorem State.setElem_switches (s : State) (e : ElemId) (x : Elem) : (s.setElem e x).switches = s.switches := rfl
@[simp] theorem State.setElem_ctlFlight (s : State) (e : ElemId) (x : Elem) : (s.setElem e x).ctlFlight = s.ctlFlight := rfl
@[simp] theorem State.setElem_nextId (s : State) (e : ElemId) (x : Elem) : (s.setElem e x).nextId = s.nextId := rfl
@[simp] theorem State.setElem_fresh (s : State) (e : ElemId) (x : Elem) : (s.setElem e x).fresh = s.fresh := rfl
@[simp] theorem State.setElem_tiles (s : State) (e : ElemId) (x : Elem) : (s.setElem e x).tiles = s.tiles := rfl
@[simp] theorem State.setElem_routers (s : State) (e : ElemId) (x : Elem) : (s.setElem e x).routers = s.routers := rfl
@[simp] theorem State.setElem_mtiles (s : State) (e : ElemId) (x : Elem) : (s.setElem e x).mtiles = s.mtiles := rfl
@[simp] theorem State.setElem_seals (s : State) (e : ElemId) (x : Elem) : (s.setElem e x).seals = s.seals := rfl
@[simp] theorem State.setElem_trans (s : State) (e : ElemId) (x : Elem) : (s.setElem e x).trans = s.trans := rfl
@[simp] theorem State.setElem_dies (s : State) (e : ElemId) (x : Elem) : (s.setElem e x).dies = s.dies := rfl
@[simp] theorem State.setElem_peers (s : State) (e : ElemId) (x : Elem) : (s.setElem e x).peers = s.peers := rfl
@[simp] theorem State.setElem_lost (s : State) (e : ElemId) (x : Elem) : (s.setElem e x).lost = s.lost := rfl
@[simp] theorem State.setElem_bst (s : State) (e : ElemId) (x : Elem) : (s.setElem e x).bst = s.bst := rfl
@[simp] theorem State.setElem_bres (s : State) (e : ElemId) (x : Elem) : (s.setElem e x).bres = s.bres := rfl
@[simp] theorem State.setElem_fwImg (s : State) (e : ElemId) (x : Elem) : (s.setElem e x).fwImg = s.fwImg := rfl
@[simp] theorem State.setElem_fwPois (s : State) (e : ElemId) (x : Elem) : (s.setElem e x).fwPois = s.fwPois := rfl
@[simp] theorem State.setElem_stewards (s : State) (e : ElemId) (x : Elem) : (s.setElem e x).stewards = s.stewards := rfl
@[simp] theorem State.setElem_fwdig (s : State) (e : ElemId) (x : Elem) : (s.setElem e x).fwdig = s.fwdig := rfl
@[simp] theorem State.setElem_svn (s : State) (e : ElemId) (x : Elem) : (s.setElem e x).svn = s.svn := rfl
@[simp] theorem State.setElem_queue (s : State) (e : ElemId) (x : Elem) : (s.setElem e x).queue = s.queue := rfl
@[simp] theorem State.setElem_lastOwner (s : State) (e : ElemId) (x : Elem) : (s.setElem e x).lastOwner = s.lastOwner := rfl
@[simp] theorem State.setElem_faultSeq (s : State) (e : ElemId) (x : Elem) : (s.setElem e x).faultSeq = s.faultSeq := rfl
@[simp] theorem State.setElem_accNo (s : State) (e : ElemId) (x : Elem) : (s.setElem e x).accNo = s.accNo := rfl
@[simp] theorem State.setElem_hits (s : State) (e : ElemId) (x : Elem) : (s.setElem e x).hits = s.hits := rfl
@[simp] theorem State.setElem_purges (s : State) (e : ElemId) (x : Elem) : (s.setElem e x).purges = s.purges := rfl
@[simp] theorem State.setElem_islands (s : State) (e : ElemId) (x : Elem) : (s.setElem e x).islands = s.islands := rfl
@[simp] theorem State.setElem_spaces (s : State) (e : ElemId) (x : Elem) : (s.setElem e x).spaces = s.spaces := rfl
@[simp] theorem State.setElem_netq (s : State) (e : ElemId) (x : Elem) : (s.setElem e x).netq = s.netq := rfl

/-! ## `modElem` -/

@[simp] theorem State.modElem_agenda (s : State) (e : ElemId) (f : Elem → Elem) : (s.modElem e f).agenda = s.agenda := rfl
@[simp] theorem State.modElem_tick (s : State) (e : ElemId) (f : Elem → Elem) : (s.modElem e f).tick = s.tick := rfl
@[simp] theorem State.modElem_cur (s : State) (e : ElemId) (f : Elem → Elem) : (s.modElem e f).cur = s.cur := rfl
@[simp] theorem State.modElem_mem (s : State) (e : ElemId) (f : Elem → Elem) : (s.modElem e f).mem = s.mem := rfl
@[simp] theorem State.modElem_full (s : State) (e : ElemId) (f : Elem → Elem) : (s.modElem e f).full = s.full := rfl
@[simp] theorem State.modElem_pois (s : State) (e : ElemId) (f : Elem → Elem) : (s.modElem e f).pois = s.pois := rfl
@[simp] theorem State.modElem_ctxs (s : State) (e : ElemId) (f : Elem → Elem) : (s.modElem e f).ctxs = s.ctxs := rfl
@[simp] theorem State.modElem_regions (s : State) (e : ElemId) (f : Elem → Elem) : (s.modElem e f).regions = s.regions := rfl
@[simp] theorem State.modElem_faults (s : State) (e : ElemId) (f : Elem → Elem) : (s.modElem e f).faults = s.faults := rfl
@[simp] theorem State.modElem_reqs (s : State) (e : ElemId) (f : Elem → Elem) : (s.modElem e f).reqs = s.reqs := rfl
@[simp] theorem State.modElem_switches (s : State) (e : ElemId) (f : Elem → Elem) : (s.modElem e f).switches = s.switches := rfl
@[simp] theorem State.modElem_ctlFlight (s : State) (e : ElemId) (f : Elem → Elem) : (s.modElem e f).ctlFlight = s.ctlFlight := rfl
@[simp] theorem State.modElem_nextId (s : State) (e : ElemId) (f : Elem → Elem) : (s.modElem e f).nextId = s.nextId := rfl
@[simp] theorem State.modElem_fresh (s : State) (e : ElemId) (f : Elem → Elem) : (s.modElem e f).fresh = s.fresh := rfl
@[simp] theorem State.modElem_tiles (s : State) (e : ElemId) (f : Elem → Elem) : (s.modElem e f).tiles = s.tiles := rfl
@[simp] theorem State.modElem_routers (s : State) (e : ElemId) (f : Elem → Elem) : (s.modElem e f).routers = s.routers := rfl
@[simp] theorem State.modElem_mtiles (s : State) (e : ElemId) (f : Elem → Elem) : (s.modElem e f).mtiles = s.mtiles := rfl
@[simp] theorem State.modElem_seals (s : State) (e : ElemId) (f : Elem → Elem) : (s.modElem e f).seals = s.seals := rfl
@[simp] theorem State.modElem_trans (s : State) (e : ElemId) (f : Elem → Elem) : (s.modElem e f).trans = s.trans := rfl
@[simp] theorem State.modElem_dies (s : State) (e : ElemId) (f : Elem → Elem) : (s.modElem e f).dies = s.dies := rfl
@[simp] theorem State.modElem_peers (s : State) (e : ElemId) (f : Elem → Elem) : (s.modElem e f).peers = s.peers := rfl
@[simp] theorem State.modElem_lost (s : State) (e : ElemId) (f : Elem → Elem) : (s.modElem e f).lost = s.lost := rfl
@[simp] theorem State.modElem_bst (s : State) (e : ElemId) (f : Elem → Elem) : (s.modElem e f).bst = s.bst := rfl
@[simp] theorem State.modElem_bres (s : State) (e : ElemId) (f : Elem → Elem) : (s.modElem e f).bres = s.bres := rfl
@[simp] theorem State.modElem_fwImg (s : State) (e : ElemId) (f : Elem → Elem) : (s.modElem e f).fwImg = s.fwImg := rfl
@[simp] theorem State.modElem_fwPois (s : State) (e : ElemId) (f : Elem → Elem) : (s.modElem e f).fwPois = s.fwPois := rfl
@[simp] theorem State.modElem_stewards (s : State) (e : ElemId) (f : Elem → Elem) : (s.modElem e f).stewards = s.stewards := rfl
@[simp] theorem State.modElem_fwdig (s : State) (e : ElemId) (f : Elem → Elem) : (s.modElem e f).fwdig = s.fwdig := rfl
@[simp] theorem State.modElem_svn (s : State) (e : ElemId) (f : Elem → Elem) : (s.modElem e f).svn = s.svn := rfl
@[simp] theorem State.modElem_queue (s : State) (e : ElemId) (f : Elem → Elem) : (s.modElem e f).queue = s.queue := rfl
@[simp] theorem State.modElem_lastOwner (s : State) (e : ElemId) (f : Elem → Elem) : (s.modElem e f).lastOwner = s.lastOwner := rfl
@[simp] theorem State.modElem_faultSeq (s : State) (e : ElemId) (f : Elem → Elem) : (s.modElem e f).faultSeq = s.faultSeq := rfl
@[simp] theorem State.modElem_accNo (s : State) (e : ElemId) (f : Elem → Elem) : (s.modElem e f).accNo = s.accNo := rfl
@[simp] theorem State.modElem_hits (s : State) (e : ElemId) (f : Elem → Elem) : (s.modElem e f).hits = s.hits := rfl
@[simp] theorem State.modElem_purges (s : State) (e : ElemId) (f : Elem → Elem) : (s.modElem e f).purges = s.purges := rfl
@[simp] theorem State.modElem_islands (s : State) (e : ElemId) (f : Elem → Elem) : (s.modElem e f).islands = s.islands := rfl
@[simp] theorem State.modElem_spaces (s : State) (e : ElemId) (f : Elem → Elem) : (s.modElem e f).spaces = s.spaces := rfl
@[simp] theorem State.modElem_netq (s : State) (e : ElemId) (f : Elem → Elem) : (s.modElem e f).netq = s.netq := rfl

/-! ## `modFrame` -/

@[simp] theorem State.modFrame_agenda (s : State) (e : ElemId) (f : FrameUnit → FrameUnit) : (s.modFrame e f).agenda = s.agenda := rfl
@[simp] theorem State.modFrame_tick (s : State) (e : ElemId) (f : FrameUnit → FrameUnit) : (s.modFrame e f).tick = s.tick := rfl
@[simp] theorem State.modFrame_cur (s : State) (e : ElemId) (f : FrameUnit → FrameUnit) : (s.modFrame e f).cur = s.cur := rfl
@[simp] theorem State.modFrame_mem (s : State) (e : ElemId) (f : FrameUnit → FrameUnit) : (s.modFrame e f).mem = s.mem := rfl
@[simp] theorem State.modFrame_full (s : State) (e : ElemId) (f : FrameUnit → FrameUnit) : (s.modFrame e f).full = s.full := rfl
@[simp] theorem State.modFrame_pois (s : State) (e : ElemId) (f : FrameUnit → FrameUnit) : (s.modFrame e f).pois = s.pois := rfl
@[simp] theorem State.modFrame_ctxs (s : State) (e : ElemId) (f : FrameUnit → FrameUnit) : (s.modFrame e f).ctxs = s.ctxs := rfl
@[simp] theorem State.modFrame_regions (s : State) (e : ElemId) (f : FrameUnit → FrameUnit) : (s.modFrame e f).regions = s.regions := rfl
@[simp] theorem State.modFrame_faults (s : State) (e : ElemId) (f : FrameUnit → FrameUnit) : (s.modFrame e f).faults = s.faults := rfl
@[simp] theorem State.modFrame_reqs (s : State) (e : ElemId) (f : FrameUnit → FrameUnit) : (s.modFrame e f).reqs = s.reqs := rfl
@[simp] theorem State.modFrame_switches (s : State) (e : ElemId) (f : FrameUnit → FrameUnit) : (s.modFrame e f).switches = s.switches := rfl
@[simp] theorem State.modFrame_ctlFlight (s : State) (e : ElemId) (f : FrameUnit → FrameUnit) : (s.modFrame e f).ctlFlight = s.ctlFlight := rfl
@[simp] theorem State.modFrame_nextId (s : State) (e : ElemId) (f : FrameUnit → FrameUnit) : (s.modFrame e f).nextId = s.nextId := rfl
@[simp] theorem State.modFrame_fresh (s : State) (e : ElemId) (f : FrameUnit → FrameUnit) : (s.modFrame e f).fresh = s.fresh := rfl
@[simp] theorem State.modFrame_tiles (s : State) (e : ElemId) (f : FrameUnit → FrameUnit) : (s.modFrame e f).tiles = s.tiles := rfl
@[simp] theorem State.modFrame_routers (s : State) (e : ElemId) (f : FrameUnit → FrameUnit) : (s.modFrame e f).routers = s.routers := rfl
@[simp] theorem State.modFrame_mtiles (s : State) (e : ElemId) (f : FrameUnit → FrameUnit) : (s.modFrame e f).mtiles = s.mtiles := rfl
@[simp] theorem State.modFrame_seals (s : State) (e : ElemId) (f : FrameUnit → FrameUnit) : (s.modFrame e f).seals = s.seals := rfl
@[simp] theorem State.modFrame_trans (s : State) (e : ElemId) (f : FrameUnit → FrameUnit) : (s.modFrame e f).trans = s.trans := rfl
@[simp] theorem State.modFrame_dies (s : State) (e : ElemId) (f : FrameUnit → FrameUnit) : (s.modFrame e f).dies = s.dies := rfl
@[simp] theorem State.modFrame_peers (s : State) (e : ElemId) (f : FrameUnit → FrameUnit) : (s.modFrame e f).peers = s.peers := rfl
@[simp] theorem State.modFrame_lost (s : State) (e : ElemId) (f : FrameUnit → FrameUnit) : (s.modFrame e f).lost = s.lost := rfl
@[simp] theorem State.modFrame_bst (s : State) (e : ElemId) (f : FrameUnit → FrameUnit) : (s.modFrame e f).bst = s.bst := rfl
@[simp] theorem State.modFrame_bres (s : State) (e : ElemId) (f : FrameUnit → FrameUnit) : (s.modFrame e f).bres = s.bres := rfl
@[simp] theorem State.modFrame_fwImg (s : State) (e : ElemId) (f : FrameUnit → FrameUnit) : (s.modFrame e f).fwImg = s.fwImg := rfl
@[simp] theorem State.modFrame_fwPois (s : State) (e : ElemId) (f : FrameUnit → FrameUnit) : (s.modFrame e f).fwPois = s.fwPois := rfl
@[simp] theorem State.modFrame_stewards (s : State) (e : ElemId) (f : FrameUnit → FrameUnit) : (s.modFrame e f).stewards = s.stewards := rfl
@[simp] theorem State.modFrame_fwdig (s : State) (e : ElemId) (f : FrameUnit → FrameUnit) : (s.modFrame e f).fwdig = s.fwdig := rfl
@[simp] theorem State.modFrame_svn (s : State) (e : ElemId) (f : FrameUnit → FrameUnit) : (s.modFrame e f).svn = s.svn := rfl
@[simp] theorem State.modFrame_queue (s : State) (e : ElemId) (f : FrameUnit → FrameUnit) : (s.modFrame e f).queue = s.queue := rfl
@[simp] theorem State.modFrame_lastOwner (s : State) (e : ElemId) (f : FrameUnit → FrameUnit) : (s.modFrame e f).lastOwner = s.lastOwner := rfl
@[simp] theorem State.modFrame_faultSeq (s : State) (e : ElemId) (f : FrameUnit → FrameUnit) : (s.modFrame e f).faultSeq = s.faultSeq := rfl
@[simp] theorem State.modFrame_accNo (s : State) (e : ElemId) (f : FrameUnit → FrameUnit) : (s.modFrame e f).accNo = s.accNo := rfl
@[simp] theorem State.modFrame_hits (s : State) (e : ElemId) (f : FrameUnit → FrameUnit) : (s.modFrame e f).hits = s.hits := rfl
@[simp] theorem State.modFrame_purges (s : State) (e : ElemId) (f : FrameUnit → FrameUnit) : (s.modFrame e f).purges = s.purges := rfl
@[simp] theorem State.modFrame_islands (s : State) (e : ElemId) (f : FrameUnit → FrameUnit) : (s.modFrame e f).islands = s.islands := rfl
@[simp] theorem State.modFrame_spaces (s : State) (e : ElemId) (f : FrameUnit → FrameUnit) : (s.modFrame e f).spaces = s.spaces := rfl
@[simp] theorem State.modFrame_netq (s : State) (e : ElemId) (f : FrameUnit → FrameUnit) : (s.modFrame e f).netq = s.netq := rfl

/-! ## `modSpill` -/

@[simp] theorem State.modSpill_agenda (s : State) (e : ElemId) (n : Nat) (f : SpillRec → SpillRec) : (s.modSpill e n f).agenda = s.agenda := rfl
@[simp] theorem State.modSpill_tick (s : State) (e : ElemId) (n : Nat) (f : SpillRec → SpillRec) : (s.modSpill e n f).tick = s.tick := rfl
@[simp] theorem State.modSpill_cur (s : State) (e : ElemId) (n : Nat) (f : SpillRec → SpillRec) : (s.modSpill e n f).cur = s.cur := rfl
@[simp] theorem State.modSpill_mem (s : State) (e : ElemId) (n : Nat) (f : SpillRec → SpillRec) : (s.modSpill e n f).mem = s.mem := rfl
@[simp] theorem State.modSpill_full (s : State) (e : ElemId) (n : Nat) (f : SpillRec → SpillRec) : (s.modSpill e n f).full = s.full := rfl
@[simp] theorem State.modSpill_pois (s : State) (e : ElemId) (n : Nat) (f : SpillRec → SpillRec) : (s.modSpill e n f).pois = s.pois := rfl
@[simp] theorem State.modSpill_ctxs (s : State) (e : ElemId) (n : Nat) (f : SpillRec → SpillRec) : (s.modSpill e n f).ctxs = s.ctxs := rfl
@[simp] theorem State.modSpill_regions (s : State) (e : ElemId) (n : Nat) (f : SpillRec → SpillRec) : (s.modSpill e n f).regions = s.regions := rfl
@[simp] theorem State.modSpill_faults (s : State) (e : ElemId) (n : Nat) (f : SpillRec → SpillRec) : (s.modSpill e n f).faults = s.faults := rfl
@[simp] theorem State.modSpill_reqs (s : State) (e : ElemId) (n : Nat) (f : SpillRec → SpillRec) : (s.modSpill e n f).reqs = s.reqs := rfl
@[simp] theorem State.modSpill_switches (s : State) (e : ElemId) (n : Nat) (f : SpillRec → SpillRec) : (s.modSpill e n f).switches = s.switches := rfl
@[simp] theorem State.modSpill_ctlFlight (s : State) (e : ElemId) (n : Nat) (f : SpillRec → SpillRec) : (s.modSpill e n f).ctlFlight = s.ctlFlight := rfl
@[simp] theorem State.modSpill_nextId (s : State) (e : ElemId) (n : Nat) (f : SpillRec → SpillRec) : (s.modSpill e n f).nextId = s.nextId := rfl
@[simp] theorem State.modSpill_fresh (s : State) (e : ElemId) (n : Nat) (f : SpillRec → SpillRec) : (s.modSpill e n f).fresh = s.fresh := rfl
@[simp] theorem State.modSpill_tiles (s : State) (e : ElemId) (n : Nat) (f : SpillRec → SpillRec) : (s.modSpill e n f).tiles = s.tiles := rfl
@[simp] theorem State.modSpill_routers (s : State) (e : ElemId) (n : Nat) (f : SpillRec → SpillRec) : (s.modSpill e n f).routers = s.routers := rfl
@[simp] theorem State.modSpill_mtiles (s : State) (e : ElemId) (n : Nat) (f : SpillRec → SpillRec) : (s.modSpill e n f).mtiles = s.mtiles := rfl
@[simp] theorem State.modSpill_seals (s : State) (e : ElemId) (n : Nat) (f : SpillRec → SpillRec) : (s.modSpill e n f).seals = s.seals := rfl
@[simp] theorem State.modSpill_trans (s : State) (e : ElemId) (n : Nat) (f : SpillRec → SpillRec) : (s.modSpill e n f).trans = s.trans := rfl
@[simp] theorem State.modSpill_dies (s : State) (e : ElemId) (n : Nat) (f : SpillRec → SpillRec) : (s.modSpill e n f).dies = s.dies := rfl
@[simp] theorem State.modSpill_peers (s : State) (e : ElemId) (n : Nat) (f : SpillRec → SpillRec) : (s.modSpill e n f).peers = s.peers := rfl
@[simp] theorem State.modSpill_lost (s : State) (e : ElemId) (n : Nat) (f : SpillRec → SpillRec) : (s.modSpill e n f).lost = s.lost := rfl
@[simp] theorem State.modSpill_bst (s : State) (e : ElemId) (n : Nat) (f : SpillRec → SpillRec) : (s.modSpill e n f).bst = s.bst := rfl
@[simp] theorem State.modSpill_bres (s : State) (e : ElemId) (n : Nat) (f : SpillRec → SpillRec) : (s.modSpill e n f).bres = s.bres := rfl
@[simp] theorem State.modSpill_fwImg (s : State) (e : ElemId) (n : Nat) (f : SpillRec → SpillRec) : (s.modSpill e n f).fwImg = s.fwImg := rfl
@[simp] theorem State.modSpill_fwPois (s : State) (e : ElemId) (n : Nat) (f : SpillRec → SpillRec) : (s.modSpill e n f).fwPois = s.fwPois := rfl
@[simp] theorem State.modSpill_stewards (s : State) (e : ElemId) (n : Nat) (f : SpillRec → SpillRec) : (s.modSpill e n f).stewards = s.stewards := rfl
@[simp] theorem State.modSpill_fwdig (s : State) (e : ElemId) (n : Nat) (f : SpillRec → SpillRec) : (s.modSpill e n f).fwdig = s.fwdig := rfl
@[simp] theorem State.modSpill_svn (s : State) (e : ElemId) (n : Nat) (f : SpillRec → SpillRec) : (s.modSpill e n f).svn = s.svn := rfl
@[simp] theorem State.modSpill_queue (s : State) (e : ElemId) (n : Nat) (f : SpillRec → SpillRec) : (s.modSpill e n f).queue = s.queue := rfl
@[simp] theorem State.modSpill_lastOwner (s : State) (e : ElemId) (n : Nat) (f : SpillRec → SpillRec) : (s.modSpill e n f).lastOwner = s.lastOwner := rfl
@[simp] theorem State.modSpill_faultSeq (s : State) (e : ElemId) (n : Nat) (f : SpillRec → SpillRec) : (s.modSpill e n f).faultSeq = s.faultSeq := rfl
@[simp] theorem State.modSpill_accNo (s : State) (e : ElemId) (n : Nat) (f : SpillRec → SpillRec) : (s.modSpill e n f).accNo = s.accNo := rfl
@[simp] theorem State.modSpill_hits (s : State) (e : ElemId) (n : Nat) (f : SpillRec → SpillRec) : (s.modSpill e n f).hits = s.hits := rfl
@[simp] theorem State.modSpill_purges (s : State) (e : ElemId) (n : Nat) (f : SpillRec → SpillRec) : (s.modSpill e n f).purges = s.purges := rfl
@[simp] theorem State.modSpill_islands (s : State) (e : ElemId) (n : Nat) (f : SpillRec → SpillRec) : (s.modSpill e n f).islands = s.islands := rfl
@[simp] theorem State.modSpill_spaces (s : State) (e : ElemId) (n : Nat) (f : SpillRec → SpillRec) : (s.modSpill e n f).spaces = s.spaces := rfl
@[simp] theorem State.modSpill_netq (s : State) (e : ElemId) (n : Nat) (f : SpillRec → SpillRec) : (s.modSpill e n f).netq = s.netq := rfl

/-! ## `modRegion` -/

@[simp] theorem State.modRegion_agenda (s : State) (r : Nat) (f : Region → Region) : (s.modRegion r f).agenda = s.agenda := rfl
@[simp] theorem State.modRegion_tick (s : State) (r : Nat) (f : Region → Region) : (s.modRegion r f).tick = s.tick := rfl
@[simp] theorem State.modRegion_cur (s : State) (r : Nat) (f : Region → Region) : (s.modRegion r f).cur = s.cur := rfl
@[simp] theorem State.modRegion_mem (s : State) (r : Nat) (f : Region → Region) : (s.modRegion r f).mem = s.mem := rfl
@[simp] theorem State.modRegion_full (s : State) (r : Nat) (f : Region → Region) : (s.modRegion r f).full = s.full := rfl
@[simp] theorem State.modRegion_pois (s : State) (r : Nat) (f : Region → Region) : (s.modRegion r f).pois = s.pois := rfl
@[simp] theorem State.modRegion_ctxs (s : State) (r : Nat) (f : Region → Region) : (s.modRegion r f).ctxs = s.ctxs := rfl
@[simp] theorem State.modRegion_elems (s : State) (r : Nat) (f : Region → Region) : (s.modRegion r f).elems = s.elems := rfl
@[simp] theorem State.modRegion_faults (s : State) (r : Nat) (f : Region → Region) : (s.modRegion r f).faults = s.faults := rfl
@[simp] theorem State.modRegion_reqs (s : State) (r : Nat) (f : Region → Region) : (s.modRegion r f).reqs = s.reqs := rfl
@[simp] theorem State.modRegion_switches (s : State) (r : Nat) (f : Region → Region) : (s.modRegion r f).switches = s.switches := rfl
@[simp] theorem State.modRegion_ctlFlight (s : State) (r : Nat) (f : Region → Region) : (s.modRegion r f).ctlFlight = s.ctlFlight := rfl
@[simp] theorem State.modRegion_nextId (s : State) (r : Nat) (f : Region → Region) : (s.modRegion r f).nextId = s.nextId := rfl
@[simp] theorem State.modRegion_fresh (s : State) (r : Nat) (f : Region → Region) : (s.modRegion r f).fresh = s.fresh := rfl
@[simp] theorem State.modRegion_tiles (s : State) (r : Nat) (f : Region → Region) : (s.modRegion r f).tiles = s.tiles := rfl
@[simp] theorem State.modRegion_routers (s : State) (r : Nat) (f : Region → Region) : (s.modRegion r f).routers = s.routers := rfl
@[simp] theorem State.modRegion_mtiles (s : State) (r : Nat) (f : Region → Region) : (s.modRegion r f).mtiles = s.mtiles := rfl
@[simp] theorem State.modRegion_seals (s : State) (r : Nat) (f : Region → Region) : (s.modRegion r f).seals = s.seals := rfl
@[simp] theorem State.modRegion_trans (s : State) (r : Nat) (f : Region → Region) : (s.modRegion r f).trans = s.trans := rfl
@[simp] theorem State.modRegion_dies (s : State) (r : Nat) (f : Region → Region) : (s.modRegion r f).dies = s.dies := rfl
@[simp] theorem State.modRegion_peers (s : State) (r : Nat) (f : Region → Region) : (s.modRegion r f).peers = s.peers := rfl
@[simp] theorem State.modRegion_lost (s : State) (r : Nat) (f : Region → Region) : (s.modRegion r f).lost = s.lost := rfl
@[simp] theorem State.modRegion_bst (s : State) (r : Nat) (f : Region → Region) : (s.modRegion r f).bst = s.bst := rfl
@[simp] theorem State.modRegion_bres (s : State) (r : Nat) (f : Region → Region) : (s.modRegion r f).bres = s.bres := rfl
@[simp] theorem State.modRegion_fwImg (s : State) (r : Nat) (f : Region → Region) : (s.modRegion r f).fwImg = s.fwImg := rfl
@[simp] theorem State.modRegion_fwPois (s : State) (r : Nat) (f : Region → Region) : (s.modRegion r f).fwPois = s.fwPois := rfl
@[simp] theorem State.modRegion_stewards (s : State) (r : Nat) (f : Region → Region) : (s.modRegion r f).stewards = s.stewards := rfl
@[simp] theorem State.modRegion_fwdig (s : State) (r : Nat) (f : Region → Region) : (s.modRegion r f).fwdig = s.fwdig := rfl
@[simp] theorem State.modRegion_svn (s : State) (r : Nat) (f : Region → Region) : (s.modRegion r f).svn = s.svn := rfl
@[simp] theorem State.modRegion_queue (s : State) (r : Nat) (f : Region → Region) : (s.modRegion r f).queue = s.queue := rfl
@[simp] theorem State.modRegion_lastOwner (s : State) (r : Nat) (f : Region → Region) : (s.modRegion r f).lastOwner = s.lastOwner := rfl
@[simp] theorem State.modRegion_faultSeq (s : State) (r : Nat) (f : Region → Region) : (s.modRegion r f).faultSeq = s.faultSeq := rfl
@[simp] theorem State.modRegion_accNo (s : State) (r : Nat) (f : Region → Region) : (s.modRegion r f).accNo = s.accNo := rfl
@[simp] theorem State.modRegion_hits (s : State) (r : Nat) (f : Region → Region) : (s.modRegion r f).hits = s.hits := rfl
@[simp] theorem State.modRegion_purges (s : State) (r : Nat) (f : Region → Region) : (s.modRegion r f).purges = s.purges := rfl
@[simp] theorem State.modRegion_islands (s : State) (r : Nat) (f : Region → Region) : (s.modRegion r f).islands = s.islands := rfl
@[simp] theorem State.modRegion_spaces (s : State) (r : Nat) (f : Region → Region) : (s.modRegion r f).spaces = s.spaces := rfl
@[simp] theorem State.modRegion_netq (s : State) (r : Nat) (f : Region → Region) : (s.modRegion r f).netq = s.netq := rfl

/-! ## `record` -/

@[simp] theorem State.record_agenda (s : State) (f : FaultRec) : (s.record f).agenda = s.agenda := rfl
@[simp] theorem State.record_tick (s : State) (f : FaultRec) : (s.record f).tick = s.tick := rfl
@[simp] theorem State.record_cur (s : State) (f : FaultRec) : (s.record f).cur = s.cur := rfl
@[simp] theorem State.record_mem (s : State) (f : FaultRec) : (s.record f).mem = s.mem := rfl
@[simp] theorem State.record_full (s : State) (f : FaultRec) : (s.record f).full = s.full := rfl
@[simp] theorem State.record_pois (s : State) (f : FaultRec) : (s.record f).pois = s.pois := rfl
@[simp] theorem State.record_ctxs (s : State) (f : FaultRec) : (s.record f).ctxs = s.ctxs := rfl
@[simp] theorem State.record_elems (s : State) (f : FaultRec) : (s.record f).elems = s.elems := rfl
@[simp] theorem State.record_regions (s : State) (f : FaultRec) : (s.record f).regions = s.regions := rfl
@[simp] theorem State.record_reqs (s : State) (f : FaultRec) : (s.record f).reqs = s.reqs := rfl
@[simp] theorem State.record_switches (s : State) (f : FaultRec) : (s.record f).switches = s.switches := rfl
@[simp] theorem State.record_ctlFlight (s : State) (f : FaultRec) : (s.record f).ctlFlight = s.ctlFlight := rfl
@[simp] theorem State.record_nextId (s : State) (f : FaultRec) : (s.record f).nextId = s.nextId := rfl
@[simp] theorem State.record_fresh (s : State) (f : FaultRec) : (s.record f).fresh = s.fresh := rfl
@[simp] theorem State.record_tiles (s : State) (f : FaultRec) : (s.record f).tiles = s.tiles := rfl
@[simp] theorem State.record_routers (s : State) (f : FaultRec) : (s.record f).routers = s.routers := rfl
@[simp] theorem State.record_mtiles (s : State) (f : FaultRec) : (s.record f).mtiles = s.mtiles := rfl
@[simp] theorem State.record_seals (s : State) (f : FaultRec) : (s.record f).seals = s.seals := rfl
@[simp] theorem State.record_trans (s : State) (f : FaultRec) : (s.record f).trans = s.trans := rfl
@[simp] theorem State.record_dies (s : State) (f : FaultRec) : (s.record f).dies = s.dies := rfl
@[simp] theorem State.record_peers (s : State) (f : FaultRec) : (s.record f).peers = s.peers := rfl
@[simp] theorem State.record_lost (s : State) (f : FaultRec) : (s.record f).lost = s.lost := rfl
@[simp] theorem State.record_bst (s : State) (f : FaultRec) : (s.record f).bst = s.bst := rfl
@[simp] theorem State.record_bres (s : State) (f : FaultRec) : (s.record f).bres = s.bres := rfl
@[simp] theorem State.record_fwImg (s : State) (f : FaultRec) : (s.record f).fwImg = s.fwImg := rfl
@[simp] theorem State.record_fwPois (s : State) (f : FaultRec) : (s.record f).fwPois = s.fwPois := rfl
@[simp] theorem State.record_stewards (s : State) (f : FaultRec) : (s.record f).stewards = s.stewards := rfl
@[simp] theorem State.record_fwdig (s : State) (f : FaultRec) : (s.record f).fwdig = s.fwdig := rfl
@[simp] theorem State.record_svn (s : State) (f : FaultRec) : (s.record f).svn = s.svn := rfl
@[simp] theorem State.record_queue (s : State) (f : FaultRec) : (s.record f).queue = s.queue := rfl
@[simp] theorem State.record_lastOwner (s : State) (f : FaultRec) : (s.record f).lastOwner = s.lastOwner := rfl
@[simp] theorem State.record_faultSeq (s : State) (f : FaultRec) : (s.record f).faultSeq = s.faultSeq := rfl
@[simp] theorem State.record_accNo (s : State) (f : FaultRec) : (s.record f).accNo = s.accNo := rfl
@[simp] theorem State.record_hits (s : State) (f : FaultRec) : (s.record f).hits = s.hits := rfl
@[simp] theorem State.record_purges (s : State) (f : FaultRec) : (s.record f).purges = s.purges := rfl
@[simp] theorem State.record_islands (s : State) (f : FaultRec) : (s.record f).islands = s.islands := rfl
@[simp] theorem State.record_spaces (s : State) (f : FaultRec) : (s.record f).spaces = s.spaces := rfl
@[simp] theorem State.record_netq (s : State) (f : FaultRec) : (s.record f).netq = s.netq := rfl

/-! ## `send` -/

@[simp] theorem State.send_agenda (s : State) (q : Req) : (s.send q).agenda = s.agenda := rfl
@[simp] theorem State.send_tick (s : State) (q : Req) : (s.send q).tick = s.tick := rfl
@[simp] theorem State.send_cur (s : State) (q : Req) : (s.send q).cur = s.cur := rfl
@[simp] theorem State.send_mem (s : State) (q : Req) : (s.send q).mem = s.mem := rfl
@[simp] theorem State.send_full (s : State) (q : Req) : (s.send q).full = s.full := rfl
@[simp] theorem State.send_pois (s : State) (q : Req) : (s.send q).pois = s.pois := rfl
@[simp] theorem State.send_ctxs (s : State) (q : Req) : (s.send q).ctxs = s.ctxs := rfl
@[simp] theorem State.send_elems (s : State) (q : Req) : (s.send q).elems = s.elems := rfl
@[simp] theorem State.send_regions (s : State) (q : Req) : (s.send q).regions = s.regions := rfl
@[simp] theorem State.send_faults (s : State) (q : Req) : (s.send q).faults = s.faults := rfl
@[simp] theorem State.send_switches (s : State) (q : Req) : (s.send q).switches = s.switches := rfl
@[simp] theorem State.send_ctlFlight (s : State) (q : Req) : (s.send q).ctlFlight = s.ctlFlight := rfl
@[simp] theorem State.send_fresh (s : State) (q : Req) : (s.send q).fresh = s.fresh := rfl
@[simp] theorem State.send_tiles (s : State) (q : Req) : (s.send q).tiles = s.tiles := rfl
@[simp] theorem State.send_routers (s : State) (q : Req) : (s.send q).routers = s.routers := rfl
@[simp] theorem State.send_mtiles (s : State) (q : Req) : (s.send q).mtiles = s.mtiles := rfl
@[simp] theorem State.send_seals (s : State) (q : Req) : (s.send q).seals = s.seals := rfl
@[simp] theorem State.send_trans (s : State) (q : Req) : (s.send q).trans = s.trans := rfl
@[simp] theorem State.send_dies (s : State) (q : Req) : (s.send q).dies = s.dies := rfl
@[simp] theorem State.send_peers (s : State) (q : Req) : (s.send q).peers = s.peers := rfl
@[simp] theorem State.send_lost (s : State) (q : Req) : (s.send q).lost = s.lost := rfl
@[simp] theorem State.send_bst (s : State) (q : Req) : (s.send q).bst = s.bst := rfl
@[simp] theorem State.send_bres (s : State) (q : Req) : (s.send q).bres = s.bres := rfl
@[simp] theorem State.send_fwImg (s : State) (q : Req) : (s.send q).fwImg = s.fwImg := rfl
@[simp] theorem State.send_fwPois (s : State) (q : Req) : (s.send q).fwPois = s.fwPois := rfl
@[simp] theorem State.send_stewards (s : State) (q : Req) : (s.send q).stewards = s.stewards := rfl
@[simp] theorem State.send_fwdig (s : State) (q : Req) : (s.send q).fwdig = s.fwdig := rfl
@[simp] theorem State.send_svn (s : State) (q : Req) : (s.send q).svn = s.svn := rfl
@[simp] theorem State.send_queue (s : State) (q : Req) : (s.send q).queue = s.queue := rfl
@[simp] theorem State.send_lastOwner (s : State) (q : Req) : (s.send q).lastOwner = s.lastOwner := rfl
@[simp] theorem State.send_faultSeq (s : State) (q : Req) : (s.send q).faultSeq = s.faultSeq := rfl
@[simp] theorem State.send_accNo (s : State) (q : Req) : (s.send q).accNo = s.accNo := rfl
@[simp] theorem State.send_hits (s : State) (q : Req) : (s.send q).hits = s.hits := rfl
@[simp] theorem State.send_purges (s : State) (q : Req) : (s.send q).purges = s.purges := rfl
@[simp] theorem State.send_islands (s : State) (q : Req) : (s.send q).islands = s.islands := rfl
@[simp] theorem State.send_spaces (s : State) (q : Req) : (s.send q).spaces = s.spaces := rfl
@[simp] theorem State.send_netq (s : State) (q : Req) : (s.send q).netq = s.netq := rfl

/-! ## `putReq` -/

@[simp] theorem State.putReq_agenda (s : State) (q : Req) : (s.putReq q).agenda = s.agenda := rfl
@[simp] theorem State.putReq_tick (s : State) (q : Req) : (s.putReq q).tick = s.tick := rfl
@[simp] theorem State.putReq_cur (s : State) (q : Req) : (s.putReq q).cur = s.cur := rfl
@[simp] theorem State.putReq_mem (s : State) (q : Req) : (s.putReq q).mem = s.mem := rfl
@[simp] theorem State.putReq_full (s : State) (q : Req) : (s.putReq q).full = s.full := rfl
@[simp] theorem State.putReq_pois (s : State) (q : Req) : (s.putReq q).pois = s.pois := rfl
@[simp] theorem State.putReq_ctxs (s : State) (q : Req) : (s.putReq q).ctxs = s.ctxs := rfl
@[simp] theorem State.putReq_elems (s : State) (q : Req) : (s.putReq q).elems = s.elems := rfl
@[simp] theorem State.putReq_regions (s : State) (q : Req) : (s.putReq q).regions = s.regions := rfl
@[simp] theorem State.putReq_faults (s : State) (q : Req) : (s.putReq q).faults = s.faults := rfl
@[simp] theorem State.putReq_switches (s : State) (q : Req) : (s.putReq q).switches = s.switches := rfl
@[simp] theorem State.putReq_ctlFlight (s : State) (q : Req) : (s.putReq q).ctlFlight = s.ctlFlight := rfl
@[simp] theorem State.putReq_nextId (s : State) (q : Req) : (s.putReq q).nextId = s.nextId := rfl
@[simp] theorem State.putReq_fresh (s : State) (q : Req) : (s.putReq q).fresh = s.fresh := rfl
@[simp] theorem State.putReq_tiles (s : State) (q : Req) : (s.putReq q).tiles = s.tiles := rfl
@[simp] theorem State.putReq_routers (s : State) (q : Req) : (s.putReq q).routers = s.routers := rfl
@[simp] theorem State.putReq_mtiles (s : State) (q : Req) : (s.putReq q).mtiles = s.mtiles := rfl
@[simp] theorem State.putReq_seals (s : State) (q : Req) : (s.putReq q).seals = s.seals := rfl
@[simp] theorem State.putReq_trans (s : State) (q : Req) : (s.putReq q).trans = s.trans := rfl
@[simp] theorem State.putReq_dies (s : State) (q : Req) : (s.putReq q).dies = s.dies := rfl
@[simp] theorem State.putReq_peers (s : State) (q : Req) : (s.putReq q).peers = s.peers := rfl
@[simp] theorem State.putReq_lost (s : State) (q : Req) : (s.putReq q).lost = s.lost := rfl
@[simp] theorem State.putReq_bst (s : State) (q : Req) : (s.putReq q).bst = s.bst := rfl
@[simp] theorem State.putReq_bres (s : State) (q : Req) : (s.putReq q).bres = s.bres := rfl
@[simp] theorem State.putReq_fwImg (s : State) (q : Req) : (s.putReq q).fwImg = s.fwImg := rfl
@[simp] theorem State.putReq_fwPois (s : State) (q : Req) : (s.putReq q).fwPois = s.fwPois := rfl
@[simp] theorem State.putReq_stewards (s : State) (q : Req) : (s.putReq q).stewards = s.stewards := rfl
@[simp] theorem State.putReq_fwdig (s : State) (q : Req) : (s.putReq q).fwdig = s.fwdig := rfl
@[simp] theorem State.putReq_svn (s : State) (q : Req) : (s.putReq q).svn = s.svn := rfl
@[simp] theorem State.putReq_queue (s : State) (q : Req) : (s.putReq q).queue = s.queue := rfl
@[simp] theorem State.putReq_lastOwner (s : State) (q : Req) : (s.putReq q).lastOwner = s.lastOwner := rfl
@[simp] theorem State.putReq_faultSeq (s : State) (q : Req) : (s.putReq q).faultSeq = s.faultSeq := rfl
@[simp] theorem State.putReq_accNo (s : State) (q : Req) : (s.putReq q).accNo = s.accNo := rfl
@[simp] theorem State.putReq_hits (s : State) (q : Req) : (s.putReq q).hits = s.hits := rfl
@[simp] theorem State.putReq_purges (s : State) (q : Req) : (s.putReq q).purges = s.purges := rfl
@[simp] theorem State.putReq_islands (s : State) (q : Req) : (s.putReq q).islands = s.islands := rfl
@[simp] theorem State.putReq_spaces (s : State) (q : Req) : (s.putReq q).spaces = s.spaces := rfl
@[simp] theorem State.putReq_netq (s : State) (q : Req) : (s.putReq q).netq = s.netq := rfl

/-! ## `dropReq` -/

@[simp] theorem State.dropReq_agenda (s : State) (n : Nat) : (s.dropReq n).agenda = s.agenda := rfl
@[simp] theorem State.dropReq_tick (s : State) (n : Nat) : (s.dropReq n).tick = s.tick := rfl
@[simp] theorem State.dropReq_cur (s : State) (n : Nat) : (s.dropReq n).cur = s.cur := rfl
@[simp] theorem State.dropReq_mem (s : State) (n : Nat) : (s.dropReq n).mem = s.mem := rfl
@[simp] theorem State.dropReq_full (s : State) (n : Nat) : (s.dropReq n).full = s.full := rfl
@[simp] theorem State.dropReq_pois (s : State) (n : Nat) : (s.dropReq n).pois = s.pois := rfl
@[simp] theorem State.dropReq_ctxs (s : State) (n : Nat) : (s.dropReq n).ctxs = s.ctxs := rfl
@[simp] theorem State.dropReq_elems (s : State) (n : Nat) : (s.dropReq n).elems = s.elems := rfl
@[simp] theorem State.dropReq_regions (s : State) (n : Nat) : (s.dropReq n).regions = s.regions := rfl
@[simp] theorem State.dropReq_faults (s : State) (n : Nat) : (s.dropReq n).faults = s.faults := rfl
@[simp] theorem State.dropReq_switches (s : State) (n : Nat) : (s.dropReq n).switches = s.switches := rfl
@[simp] theorem State.dropReq_ctlFlight (s : State) (n : Nat) : (s.dropReq n).ctlFlight = s.ctlFlight := rfl
@[simp] theorem State.dropReq_nextId (s : State) (n : Nat) : (s.dropReq n).nextId = s.nextId := rfl
@[simp] theorem State.dropReq_fresh (s : State) (n : Nat) : (s.dropReq n).fresh = s.fresh := rfl
@[simp] theorem State.dropReq_tiles (s : State) (n : Nat) : (s.dropReq n).tiles = s.tiles := rfl
@[simp] theorem State.dropReq_routers (s : State) (n : Nat) : (s.dropReq n).routers = s.routers := rfl
@[simp] theorem State.dropReq_mtiles (s : State) (n : Nat) : (s.dropReq n).mtiles = s.mtiles := rfl
@[simp] theorem State.dropReq_seals (s : State) (n : Nat) : (s.dropReq n).seals = s.seals := rfl
@[simp] theorem State.dropReq_trans (s : State) (n : Nat) : (s.dropReq n).trans = s.trans := rfl
@[simp] theorem State.dropReq_dies (s : State) (n : Nat) : (s.dropReq n).dies = s.dies := rfl
@[simp] theorem State.dropReq_peers (s : State) (n : Nat) : (s.dropReq n).peers = s.peers := rfl
@[simp] theorem State.dropReq_lost (s : State) (n : Nat) : (s.dropReq n).lost = s.lost := rfl
@[simp] theorem State.dropReq_bst (s : State) (n : Nat) : (s.dropReq n).bst = s.bst := rfl
@[simp] theorem State.dropReq_bres (s : State) (n : Nat) : (s.dropReq n).bres = s.bres := rfl
@[simp] theorem State.dropReq_fwImg (s : State) (n : Nat) : (s.dropReq n).fwImg = s.fwImg := rfl
@[simp] theorem State.dropReq_fwPois (s : State) (n : Nat) : (s.dropReq n).fwPois = s.fwPois := rfl
@[simp] theorem State.dropReq_stewards (s : State) (n : Nat) : (s.dropReq n).stewards = s.stewards := rfl
@[simp] theorem State.dropReq_fwdig (s : State) (n : Nat) : (s.dropReq n).fwdig = s.fwdig := rfl
@[simp] theorem State.dropReq_svn (s : State) (n : Nat) : (s.dropReq n).svn = s.svn := rfl
@[simp] theorem State.dropReq_queue (s : State) (n : Nat) : (s.dropReq n).queue = s.queue := rfl
@[simp] theorem State.dropReq_lastOwner (s : State) (n : Nat) : (s.dropReq n).lastOwner = s.lastOwner := rfl
@[simp] theorem State.dropReq_faultSeq (s : State) (n : Nat) : (s.dropReq n).faultSeq = s.faultSeq := rfl
@[simp] theorem State.dropReq_accNo (s : State) (n : Nat) : (s.dropReq n).accNo = s.accNo := rfl
@[simp] theorem State.dropReq_hits (s : State) (n : Nat) : (s.dropReq n).hits = s.hits := rfl
@[simp] theorem State.dropReq_purges (s : State) (n : Nat) : (s.dropReq n).purges = s.purges := rfl
@[simp] theorem State.dropReq_islands (s : State) (n : Nat) : (s.dropReq n).islands = s.islands := rfl
@[simp] theorem State.dropReq_spaces (s : State) (n : Nat) : (s.dropReq n).spaces = s.spaces := rfl
@[simp] theorem State.dropReq_netq (s : State) (n : Nat) : (s.dropReq n).netq = s.netq := rfl

/-! ## `modTile` -/

@[simp] theorem State.modTile_agenda (s : State) (t : TileId) (f : Tile → Tile) : (s.modTile t f).agenda = s.agenda := rfl
@[simp] theorem State.modTile_tick (s : State) (t : TileId) (f : Tile → Tile) : (s.modTile t f).tick = s.tick := rfl
@[simp] theorem State.modTile_cur (s : State) (t : TileId) (f : Tile → Tile) : (s.modTile t f).cur = s.cur := rfl
@[simp] theorem State.modTile_mem (s : State) (t : TileId) (f : Tile → Tile) : (s.modTile t f).mem = s.mem := rfl
@[simp] theorem State.modTile_full (s : State) (t : TileId) (f : Tile → Tile) : (s.modTile t f).full = s.full := rfl
@[simp] theorem State.modTile_pois (s : State) (t : TileId) (f : Tile → Tile) : (s.modTile t f).pois = s.pois := rfl
@[simp] theorem State.modTile_ctxs (s : State) (t : TileId) (f : Tile → Tile) : (s.modTile t f).ctxs = s.ctxs := rfl
@[simp] theorem State.modTile_elems (s : State) (t : TileId) (f : Tile → Tile) : (s.modTile t f).elems = s.elems := rfl
@[simp] theorem State.modTile_regions (s : State) (t : TileId) (f : Tile → Tile) : (s.modTile t f).regions = s.regions := rfl
@[simp] theorem State.modTile_faults (s : State) (t : TileId) (f : Tile → Tile) : (s.modTile t f).faults = s.faults := rfl
@[simp] theorem State.modTile_reqs (s : State) (t : TileId) (f : Tile → Tile) : (s.modTile t f).reqs = s.reqs := rfl
@[simp] theorem State.modTile_switches (s : State) (t : TileId) (f : Tile → Tile) : (s.modTile t f).switches = s.switches := rfl
@[simp] theorem State.modTile_ctlFlight (s : State) (t : TileId) (f : Tile → Tile) : (s.modTile t f).ctlFlight = s.ctlFlight := rfl
@[simp] theorem State.modTile_nextId (s : State) (t : TileId) (f : Tile → Tile) : (s.modTile t f).nextId = s.nextId := rfl
@[simp] theorem State.modTile_fresh (s : State) (t : TileId) (f : Tile → Tile) : (s.modTile t f).fresh = s.fresh := rfl
@[simp] theorem State.modTile_routers (s : State) (t : TileId) (f : Tile → Tile) : (s.modTile t f).routers = s.routers := rfl
@[simp] theorem State.modTile_mtiles (s : State) (t : TileId) (f : Tile → Tile) : (s.modTile t f).mtiles = s.mtiles := rfl
@[simp] theorem State.modTile_seals (s : State) (t : TileId) (f : Tile → Tile) : (s.modTile t f).seals = s.seals := rfl
@[simp] theorem State.modTile_trans (s : State) (t : TileId) (f : Tile → Tile) : (s.modTile t f).trans = s.trans := rfl
@[simp] theorem State.modTile_dies (s : State) (t : TileId) (f : Tile → Tile) : (s.modTile t f).dies = s.dies := rfl
@[simp] theorem State.modTile_peers (s : State) (t : TileId) (f : Tile → Tile) : (s.modTile t f).peers = s.peers := rfl
@[simp] theorem State.modTile_lost (s : State) (t : TileId) (f : Tile → Tile) : (s.modTile t f).lost = s.lost := rfl
@[simp] theorem State.modTile_bst (s : State) (t : TileId) (f : Tile → Tile) : (s.modTile t f).bst = s.bst := rfl
@[simp] theorem State.modTile_bres (s : State) (t : TileId) (f : Tile → Tile) : (s.modTile t f).bres = s.bres := rfl
@[simp] theorem State.modTile_fwImg (s : State) (t : TileId) (f : Tile → Tile) : (s.modTile t f).fwImg = s.fwImg := rfl
@[simp] theorem State.modTile_fwPois (s : State) (t : TileId) (f : Tile → Tile) : (s.modTile t f).fwPois = s.fwPois := rfl
@[simp] theorem State.modTile_stewards (s : State) (t : TileId) (f : Tile → Tile) : (s.modTile t f).stewards = s.stewards := rfl
@[simp] theorem State.modTile_fwdig (s : State) (t : TileId) (f : Tile → Tile) : (s.modTile t f).fwdig = s.fwdig := rfl
@[simp] theorem State.modTile_svn (s : State) (t : TileId) (f : Tile → Tile) : (s.modTile t f).svn = s.svn := rfl
@[simp] theorem State.modTile_queue (s : State) (t : TileId) (f : Tile → Tile) : (s.modTile t f).queue = s.queue := rfl
@[simp] theorem State.modTile_lastOwner (s : State) (t : TileId) (f : Tile → Tile) : (s.modTile t f).lastOwner = s.lastOwner := rfl
@[simp] theorem State.modTile_faultSeq (s : State) (t : TileId) (f : Tile → Tile) : (s.modTile t f).faultSeq = s.faultSeq := rfl
@[simp] theorem State.modTile_accNo (s : State) (t : TileId) (f : Tile → Tile) : (s.modTile t f).accNo = s.accNo := rfl
@[simp] theorem State.modTile_hits (s : State) (t : TileId) (f : Tile → Tile) : (s.modTile t f).hits = s.hits := rfl
@[simp] theorem State.modTile_purges (s : State) (t : TileId) (f : Tile → Tile) : (s.modTile t f).purges = s.purges := rfl
@[simp] theorem State.modTile_islands (s : State) (t : TileId) (f : Tile → Tile) : (s.modTile t f).islands = s.islands := rfl
@[simp] theorem State.modTile_spaces (s : State) (t : TileId) (f : Tile → Tile) : (s.modTile t f).spaces = s.spaces := rfl
@[simp] theorem State.modTile_netq (s : State) (t : TileId) (f : Tile → Tile) : (s.modTile t f).netq = s.netq := rfl

/-! ## `modPort` -/

@[simp] theorem State.modPort_agenda (s : State) (t : TileId) (p : Nat) (f : Port → Port) : (s.modPort t p f).agenda = s.agenda := rfl
@[simp] theorem State.modPort_tick (s : State) (t : TileId) (p : Nat) (f : Port → Port) : (s.modPort t p f).tick = s.tick := rfl
@[simp] theorem State.modPort_cur (s : State) (t : TileId) (p : Nat) (f : Port → Port) : (s.modPort t p f).cur = s.cur := rfl
@[simp] theorem State.modPort_mem (s : State) (t : TileId) (p : Nat) (f : Port → Port) : (s.modPort t p f).mem = s.mem := rfl
@[simp] theorem State.modPort_full (s : State) (t : TileId) (p : Nat) (f : Port → Port) : (s.modPort t p f).full = s.full := rfl
@[simp] theorem State.modPort_pois (s : State) (t : TileId) (p : Nat) (f : Port → Port) : (s.modPort t p f).pois = s.pois := rfl
@[simp] theorem State.modPort_ctxs (s : State) (t : TileId) (p : Nat) (f : Port → Port) : (s.modPort t p f).ctxs = s.ctxs := rfl
@[simp] theorem State.modPort_elems (s : State) (t : TileId) (p : Nat) (f : Port → Port) : (s.modPort t p f).elems = s.elems := rfl
@[simp] theorem State.modPort_regions (s : State) (t : TileId) (p : Nat) (f : Port → Port) : (s.modPort t p f).regions = s.regions := rfl
@[simp] theorem State.modPort_faults (s : State) (t : TileId) (p : Nat) (f : Port → Port) : (s.modPort t p f).faults = s.faults := rfl
@[simp] theorem State.modPort_reqs (s : State) (t : TileId) (p : Nat) (f : Port → Port) : (s.modPort t p f).reqs = s.reqs := rfl
@[simp] theorem State.modPort_switches (s : State) (t : TileId) (p : Nat) (f : Port → Port) : (s.modPort t p f).switches = s.switches := rfl
@[simp] theorem State.modPort_ctlFlight (s : State) (t : TileId) (p : Nat) (f : Port → Port) : (s.modPort t p f).ctlFlight = s.ctlFlight := rfl
@[simp] theorem State.modPort_nextId (s : State) (t : TileId) (p : Nat) (f : Port → Port) : (s.modPort t p f).nextId = s.nextId := rfl
@[simp] theorem State.modPort_fresh (s : State) (t : TileId) (p : Nat) (f : Port → Port) : (s.modPort t p f).fresh = s.fresh := rfl
@[simp] theorem State.modPort_routers (s : State) (t : TileId) (p : Nat) (f : Port → Port) : (s.modPort t p f).routers = s.routers := rfl
@[simp] theorem State.modPort_mtiles (s : State) (t : TileId) (p : Nat) (f : Port → Port) : (s.modPort t p f).mtiles = s.mtiles := rfl
@[simp] theorem State.modPort_seals (s : State) (t : TileId) (p : Nat) (f : Port → Port) : (s.modPort t p f).seals = s.seals := rfl
@[simp] theorem State.modPort_trans (s : State) (t : TileId) (p : Nat) (f : Port → Port) : (s.modPort t p f).trans = s.trans := rfl
@[simp] theorem State.modPort_dies (s : State) (t : TileId) (p : Nat) (f : Port → Port) : (s.modPort t p f).dies = s.dies := rfl
@[simp] theorem State.modPort_peers (s : State) (t : TileId) (p : Nat) (f : Port → Port) : (s.modPort t p f).peers = s.peers := rfl
@[simp] theorem State.modPort_lost (s : State) (t : TileId) (p : Nat) (f : Port → Port) : (s.modPort t p f).lost = s.lost := rfl
@[simp] theorem State.modPort_bst (s : State) (t : TileId) (p : Nat) (f : Port → Port) : (s.modPort t p f).bst = s.bst := rfl
@[simp] theorem State.modPort_bres (s : State) (t : TileId) (p : Nat) (f : Port → Port) : (s.modPort t p f).bres = s.bres := rfl
@[simp] theorem State.modPort_fwImg (s : State) (t : TileId) (p : Nat) (f : Port → Port) : (s.modPort t p f).fwImg = s.fwImg := rfl
@[simp] theorem State.modPort_fwPois (s : State) (t : TileId) (p : Nat) (f : Port → Port) : (s.modPort t p f).fwPois = s.fwPois := rfl
@[simp] theorem State.modPort_stewards (s : State) (t : TileId) (p : Nat) (f : Port → Port) : (s.modPort t p f).stewards = s.stewards := rfl
@[simp] theorem State.modPort_fwdig (s : State) (t : TileId) (p : Nat) (f : Port → Port) : (s.modPort t p f).fwdig = s.fwdig := rfl
@[simp] theorem State.modPort_svn (s : State) (t : TileId) (p : Nat) (f : Port → Port) : (s.modPort t p f).svn = s.svn := rfl
@[simp] theorem State.modPort_queue (s : State) (t : TileId) (p : Nat) (f : Port → Port) : (s.modPort t p f).queue = s.queue := rfl
@[simp] theorem State.modPort_lastOwner (s : State) (t : TileId) (p : Nat) (f : Port → Port) : (s.modPort t p f).lastOwner = s.lastOwner := rfl
@[simp] theorem State.modPort_faultSeq (s : State) (t : TileId) (p : Nat) (f : Port → Port) : (s.modPort t p f).faultSeq = s.faultSeq := rfl
@[simp] theorem State.modPort_accNo (s : State) (t : TileId) (p : Nat) (f : Port → Port) : (s.modPort t p f).accNo = s.accNo := rfl
@[simp] theorem State.modPort_hits (s : State) (t : TileId) (p : Nat) (f : Port → Port) : (s.modPort t p f).hits = s.hits := rfl
@[simp] theorem State.modPort_purges (s : State) (t : TileId) (p : Nat) (f : Port → Port) : (s.modPort t p f).purges = s.purges := rfl
@[simp] theorem State.modPort_islands (s : State) (t : TileId) (p : Nat) (f : Port → Port) : (s.modPort t p f).islands = s.islands := rfl
@[simp] theorem State.modPort_spaces (s : State) (t : TileId) (p : Nat) (f : Port → Port) : (s.modPort t p f).spaces = s.spaces := rfl
@[simp] theorem State.modPort_netq (s : State) (t : TileId) (p : Nat) (f : Port → Port) : (s.modPort t p f).netq = s.netq := rfl

/-! ## `modRouter` -/

@[simp] theorem State.modRouter_agenda (s : State) (t : TileId) (f : Router → Router) : (s.modRouter t f).agenda = s.agenda := rfl
@[simp] theorem State.modRouter_tick (s : State) (t : TileId) (f : Router → Router) : (s.modRouter t f).tick = s.tick := rfl
@[simp] theorem State.modRouter_cur (s : State) (t : TileId) (f : Router → Router) : (s.modRouter t f).cur = s.cur := rfl
@[simp] theorem State.modRouter_mem (s : State) (t : TileId) (f : Router → Router) : (s.modRouter t f).mem = s.mem := rfl
@[simp] theorem State.modRouter_full (s : State) (t : TileId) (f : Router → Router) : (s.modRouter t f).full = s.full := rfl
@[simp] theorem State.modRouter_pois (s : State) (t : TileId) (f : Router → Router) : (s.modRouter t f).pois = s.pois := rfl
@[simp] theorem State.modRouter_ctxs (s : State) (t : TileId) (f : Router → Router) : (s.modRouter t f).ctxs = s.ctxs := rfl
@[simp] theorem State.modRouter_elems (s : State) (t : TileId) (f : Router → Router) : (s.modRouter t f).elems = s.elems := rfl
@[simp] theorem State.modRouter_regions (s : State) (t : TileId) (f : Router → Router) : (s.modRouter t f).regions = s.regions := rfl
@[simp] theorem State.modRouter_faults (s : State) (t : TileId) (f : Router → Router) : (s.modRouter t f).faults = s.faults := rfl
@[simp] theorem State.modRouter_reqs (s : State) (t : TileId) (f : Router → Router) : (s.modRouter t f).reqs = s.reqs := rfl
@[simp] theorem State.modRouter_switches (s : State) (t : TileId) (f : Router → Router) : (s.modRouter t f).switches = s.switches := rfl
@[simp] theorem State.modRouter_ctlFlight (s : State) (t : TileId) (f : Router → Router) : (s.modRouter t f).ctlFlight = s.ctlFlight := rfl
@[simp] theorem State.modRouter_nextId (s : State) (t : TileId) (f : Router → Router) : (s.modRouter t f).nextId = s.nextId := rfl
@[simp] theorem State.modRouter_fresh (s : State) (t : TileId) (f : Router → Router) : (s.modRouter t f).fresh = s.fresh := rfl
@[simp] theorem State.modRouter_tiles (s : State) (t : TileId) (f : Router → Router) : (s.modRouter t f).tiles = s.tiles := rfl
@[simp] theorem State.modRouter_mtiles (s : State) (t : TileId) (f : Router → Router) : (s.modRouter t f).mtiles = s.mtiles := rfl
@[simp] theorem State.modRouter_seals (s : State) (t : TileId) (f : Router → Router) : (s.modRouter t f).seals = s.seals := rfl
@[simp] theorem State.modRouter_trans (s : State) (t : TileId) (f : Router → Router) : (s.modRouter t f).trans = s.trans := rfl
@[simp] theorem State.modRouter_dies (s : State) (t : TileId) (f : Router → Router) : (s.modRouter t f).dies = s.dies := rfl
@[simp] theorem State.modRouter_peers (s : State) (t : TileId) (f : Router → Router) : (s.modRouter t f).peers = s.peers := rfl
@[simp] theorem State.modRouter_lost (s : State) (t : TileId) (f : Router → Router) : (s.modRouter t f).lost = s.lost := rfl
@[simp] theorem State.modRouter_bst (s : State) (t : TileId) (f : Router → Router) : (s.modRouter t f).bst = s.bst := rfl
@[simp] theorem State.modRouter_bres (s : State) (t : TileId) (f : Router → Router) : (s.modRouter t f).bres = s.bres := rfl
@[simp] theorem State.modRouter_fwImg (s : State) (t : TileId) (f : Router → Router) : (s.modRouter t f).fwImg = s.fwImg := rfl
@[simp] theorem State.modRouter_fwPois (s : State) (t : TileId) (f : Router → Router) : (s.modRouter t f).fwPois = s.fwPois := rfl
@[simp] theorem State.modRouter_stewards (s : State) (t : TileId) (f : Router → Router) : (s.modRouter t f).stewards = s.stewards := rfl
@[simp] theorem State.modRouter_fwdig (s : State) (t : TileId) (f : Router → Router) : (s.modRouter t f).fwdig = s.fwdig := rfl
@[simp] theorem State.modRouter_svn (s : State) (t : TileId) (f : Router → Router) : (s.modRouter t f).svn = s.svn := rfl
@[simp] theorem State.modRouter_queue (s : State) (t : TileId) (f : Router → Router) : (s.modRouter t f).queue = s.queue := rfl
@[simp] theorem State.modRouter_lastOwner (s : State) (t : TileId) (f : Router → Router) : (s.modRouter t f).lastOwner = s.lastOwner := rfl
@[simp] theorem State.modRouter_faultSeq (s : State) (t : TileId) (f : Router → Router) : (s.modRouter t f).faultSeq = s.faultSeq := rfl
@[simp] theorem State.modRouter_accNo (s : State) (t : TileId) (f : Router → Router) : (s.modRouter t f).accNo = s.accNo := rfl
@[simp] theorem State.modRouter_hits (s : State) (t : TileId) (f : Router → Router) : (s.modRouter t f).hits = s.hits := rfl
@[simp] theorem State.modRouter_purges (s : State) (t : TileId) (f : Router → Router) : (s.modRouter t f).purges = s.purges := rfl
@[simp] theorem State.modRouter_islands (s : State) (t : TileId) (f : Router → Router) : (s.modRouter t f).islands = s.islands := rfl
@[simp] theorem State.modRouter_spaces (s : State) (t : TileId) (f : Router → Router) : (s.modRouter t f).spaces = s.spaces := rfl
@[simp] theorem State.modRouter_netq (s : State) (t : TileId) (f : Router → Router) : (s.modRouter t f).netq = s.netq := rfl

/-! ## `modHit` -/

@[simp] theorem State.modHit_agenda (s : State) (n : Nat) (f : Hit → Hit) : (s.modHit n f).agenda = s.agenda := rfl
@[simp] theorem State.modHit_tick (s : State) (n : Nat) (f : Hit → Hit) : (s.modHit n f).tick = s.tick := rfl
@[simp] theorem State.modHit_cur (s : State) (n : Nat) (f : Hit → Hit) : (s.modHit n f).cur = s.cur := rfl
@[simp] theorem State.modHit_mem (s : State) (n : Nat) (f : Hit → Hit) : (s.modHit n f).mem = s.mem := rfl
@[simp] theorem State.modHit_full (s : State) (n : Nat) (f : Hit → Hit) : (s.modHit n f).full = s.full := rfl
@[simp] theorem State.modHit_pois (s : State) (n : Nat) (f : Hit → Hit) : (s.modHit n f).pois = s.pois := rfl
@[simp] theorem State.modHit_ctxs (s : State) (n : Nat) (f : Hit → Hit) : (s.modHit n f).ctxs = s.ctxs := rfl
@[simp] theorem State.modHit_elems (s : State) (n : Nat) (f : Hit → Hit) : (s.modHit n f).elems = s.elems := rfl
@[simp] theorem State.modHit_regions (s : State) (n : Nat) (f : Hit → Hit) : (s.modHit n f).regions = s.regions := rfl
@[simp] theorem State.modHit_faults (s : State) (n : Nat) (f : Hit → Hit) : (s.modHit n f).faults = s.faults := rfl
@[simp] theorem State.modHit_reqs (s : State) (n : Nat) (f : Hit → Hit) : (s.modHit n f).reqs = s.reqs := rfl
@[simp] theorem State.modHit_switches (s : State) (n : Nat) (f : Hit → Hit) : (s.modHit n f).switches = s.switches := rfl
@[simp] theorem State.modHit_ctlFlight (s : State) (n : Nat) (f : Hit → Hit) : (s.modHit n f).ctlFlight = s.ctlFlight := rfl
@[simp] theorem State.modHit_nextId (s : State) (n : Nat) (f : Hit → Hit) : (s.modHit n f).nextId = s.nextId := rfl
@[simp] theorem State.modHit_fresh (s : State) (n : Nat) (f : Hit → Hit) : (s.modHit n f).fresh = s.fresh := rfl
@[simp] theorem State.modHit_tiles (s : State) (n : Nat) (f : Hit → Hit) : (s.modHit n f).tiles = s.tiles := rfl
@[simp] theorem State.modHit_routers (s : State) (n : Nat) (f : Hit → Hit) : (s.modHit n f).routers = s.routers := rfl
@[simp] theorem State.modHit_mtiles (s : State) (n : Nat) (f : Hit → Hit) : (s.modHit n f).mtiles = s.mtiles := rfl
@[simp] theorem State.modHit_seals (s : State) (n : Nat) (f : Hit → Hit) : (s.modHit n f).seals = s.seals := rfl
@[simp] theorem State.modHit_trans (s : State) (n : Nat) (f : Hit → Hit) : (s.modHit n f).trans = s.trans := rfl
@[simp] theorem State.modHit_dies (s : State) (n : Nat) (f : Hit → Hit) : (s.modHit n f).dies = s.dies := rfl
@[simp] theorem State.modHit_peers (s : State) (n : Nat) (f : Hit → Hit) : (s.modHit n f).peers = s.peers := rfl
@[simp] theorem State.modHit_lost (s : State) (n : Nat) (f : Hit → Hit) : (s.modHit n f).lost = s.lost := rfl
@[simp] theorem State.modHit_bst (s : State) (n : Nat) (f : Hit → Hit) : (s.modHit n f).bst = s.bst := rfl
@[simp] theorem State.modHit_bres (s : State) (n : Nat) (f : Hit → Hit) : (s.modHit n f).bres = s.bres := rfl
@[simp] theorem State.modHit_fwImg (s : State) (n : Nat) (f : Hit → Hit) : (s.modHit n f).fwImg = s.fwImg := rfl
@[simp] theorem State.modHit_fwPois (s : State) (n : Nat) (f : Hit → Hit) : (s.modHit n f).fwPois = s.fwPois := rfl
@[simp] theorem State.modHit_stewards (s : State) (n : Nat) (f : Hit → Hit) : (s.modHit n f).stewards = s.stewards := rfl
@[simp] theorem State.modHit_fwdig (s : State) (n : Nat) (f : Hit → Hit) : (s.modHit n f).fwdig = s.fwdig := rfl
@[simp] theorem State.modHit_svn (s : State) (n : Nat) (f : Hit → Hit) : (s.modHit n f).svn = s.svn := rfl
@[simp] theorem State.modHit_queue (s : State) (n : Nat) (f : Hit → Hit) : (s.modHit n f).queue = s.queue := rfl
@[simp] theorem State.modHit_lastOwner (s : State) (n : Nat) (f : Hit → Hit) : (s.modHit n f).lastOwner = s.lastOwner := rfl
@[simp] theorem State.modHit_faultSeq (s : State) (n : Nat) (f : Hit → Hit) : (s.modHit n f).faultSeq = s.faultSeq := rfl
@[simp] theorem State.modHit_accNo (s : State) (n : Nat) (f : Hit → Hit) : (s.modHit n f).accNo = s.accNo := rfl
@[simp] theorem State.modHit_purges (s : State) (n : Nat) (f : Hit → Hit) : (s.modHit n f).purges = s.purges := rfl
@[simp] theorem State.modHit_islands (s : State) (n : Nat) (f : Hit → Hit) : (s.modHit n f).islands = s.islands := rfl
@[simp] theorem State.modHit_spaces (s : State) (n : Nat) (f : Hit → Hit) : (s.modHit n f).spaces = s.spaces := rfl
@[simp] theorem State.modHit_netq (s : State) (n : Nat) (f : Hit → Hit) : (s.modHit n f).netq = s.netq := rfl

/-! ## `modQuarter` -/

@[simp] theorem State.modQuarter_agenda (s : State) (t : TileId) (q : Nat) (f : Quarter → Quarter) : (s.modQuarter t q f).agenda = s.agenda := rfl
@[simp] theorem State.modQuarter_tick (s : State) (t : TileId) (q : Nat) (f : Quarter → Quarter) : (s.modQuarter t q f).tick = s.tick := rfl
@[simp] theorem State.modQuarter_cur (s : State) (t : TileId) (q : Nat) (f : Quarter → Quarter) : (s.modQuarter t q f).cur = s.cur := rfl
@[simp] theorem State.modQuarter_mem (s : State) (t : TileId) (q : Nat) (f : Quarter → Quarter) : (s.modQuarter t q f).mem = s.mem := rfl
@[simp] theorem State.modQuarter_full (s : State) (t : TileId) (q : Nat) (f : Quarter → Quarter) : (s.modQuarter t q f).full = s.full := rfl
@[simp] theorem State.modQuarter_pois (s : State) (t : TileId) (q : Nat) (f : Quarter → Quarter) : (s.modQuarter t q f).pois = s.pois := rfl
@[simp] theorem State.modQuarter_ctxs (s : State) (t : TileId) (q : Nat) (f : Quarter → Quarter) : (s.modQuarter t q f).ctxs = s.ctxs := rfl
@[simp] theorem State.modQuarter_elems (s : State) (t : TileId) (q : Nat) (f : Quarter → Quarter) : (s.modQuarter t q f).elems = s.elems := rfl
@[simp] theorem State.modQuarter_regions (s : State) (t : TileId) (q : Nat) (f : Quarter → Quarter) : (s.modQuarter t q f).regions = s.regions := rfl
@[simp] theorem State.modQuarter_faults (s : State) (t : TileId) (q : Nat) (f : Quarter → Quarter) : (s.modQuarter t q f).faults = s.faults := rfl
@[simp] theorem State.modQuarter_reqs (s : State) (t : TileId) (q : Nat) (f : Quarter → Quarter) : (s.modQuarter t q f).reqs = s.reqs := rfl
@[simp] theorem State.modQuarter_switches (s : State) (t : TileId) (q : Nat) (f : Quarter → Quarter) : (s.modQuarter t q f).switches = s.switches := rfl
@[simp] theorem State.modQuarter_ctlFlight (s : State) (t : TileId) (q : Nat) (f : Quarter → Quarter) : (s.modQuarter t q f).ctlFlight = s.ctlFlight := rfl
@[simp] theorem State.modQuarter_nextId (s : State) (t : TileId) (q : Nat) (f : Quarter → Quarter) : (s.modQuarter t q f).nextId = s.nextId := rfl
@[simp] theorem State.modQuarter_fresh (s : State) (t : TileId) (q : Nat) (f : Quarter → Quarter) : (s.modQuarter t q f).fresh = s.fresh := rfl
@[simp] theorem State.modQuarter_tiles (s : State) (t : TileId) (q : Nat) (f : Quarter → Quarter) : (s.modQuarter t q f).tiles = s.tiles := rfl
@[simp] theorem State.modQuarter_routers (s : State) (t : TileId) (q : Nat) (f : Quarter → Quarter) : (s.modQuarter t q f).routers = s.routers := rfl
@[simp] theorem State.modQuarter_seals (s : State) (t : TileId) (q : Nat) (f : Quarter → Quarter) : (s.modQuarter t q f).seals = s.seals := rfl
@[simp] theorem State.modQuarter_trans (s : State) (t : TileId) (q : Nat) (f : Quarter → Quarter) : (s.modQuarter t q f).trans = s.trans := rfl
@[simp] theorem State.modQuarter_dies (s : State) (t : TileId) (q : Nat) (f : Quarter → Quarter) : (s.modQuarter t q f).dies = s.dies := rfl
@[simp] theorem State.modQuarter_peers (s : State) (t : TileId) (q : Nat) (f : Quarter → Quarter) : (s.modQuarter t q f).peers = s.peers := rfl
@[simp] theorem State.modQuarter_lost (s : State) (t : TileId) (q : Nat) (f : Quarter → Quarter) : (s.modQuarter t q f).lost = s.lost := rfl
@[simp] theorem State.modQuarter_bst (s : State) (t : TileId) (q : Nat) (f : Quarter → Quarter) : (s.modQuarter t q f).bst = s.bst := rfl
@[simp] theorem State.modQuarter_bres (s : State) (t : TileId) (q : Nat) (f : Quarter → Quarter) : (s.modQuarter t q f).bres = s.bres := rfl
@[simp] theorem State.modQuarter_fwImg (s : State) (t : TileId) (q : Nat) (f : Quarter → Quarter) : (s.modQuarter t q f).fwImg = s.fwImg := rfl
@[simp] theorem State.modQuarter_fwPois (s : State) (t : TileId) (q : Nat) (f : Quarter → Quarter) : (s.modQuarter t q f).fwPois = s.fwPois := rfl
@[simp] theorem State.modQuarter_stewards (s : State) (t : TileId) (q : Nat) (f : Quarter → Quarter) : (s.modQuarter t q f).stewards = s.stewards := rfl
@[simp] theorem State.modQuarter_fwdig (s : State) (t : TileId) (q : Nat) (f : Quarter → Quarter) : (s.modQuarter t q f).fwdig = s.fwdig := rfl
@[simp] theorem State.modQuarter_svn (s : State) (t : TileId) (q : Nat) (f : Quarter → Quarter) : (s.modQuarter t q f).svn = s.svn := rfl
@[simp] theorem State.modQuarter_queue (s : State) (t : TileId) (q : Nat) (f : Quarter → Quarter) : (s.modQuarter t q f).queue = s.queue := rfl
@[simp] theorem State.modQuarter_lastOwner (s : State) (t : TileId) (q : Nat) (f : Quarter → Quarter) : (s.modQuarter t q f).lastOwner = s.lastOwner := rfl
@[simp] theorem State.modQuarter_faultSeq (s : State) (t : TileId) (q : Nat) (f : Quarter → Quarter) : (s.modQuarter t q f).faultSeq = s.faultSeq := rfl
@[simp] theorem State.modQuarter_accNo (s : State) (t : TileId) (q : Nat) (f : Quarter → Quarter) : (s.modQuarter t q f).accNo = s.accNo := rfl
@[simp] theorem State.modQuarter_hits (s : State) (t : TileId) (q : Nat) (f : Quarter → Quarter) : (s.modQuarter t q f).hits = s.hits := rfl
@[simp] theorem State.modQuarter_purges (s : State) (t : TileId) (q : Nat) (f : Quarter → Quarter) : (s.modQuarter t q f).purges = s.purges := rfl
@[simp] theorem State.modQuarter_islands (s : State) (t : TileId) (q : Nat) (f : Quarter → Quarter) : (s.modQuarter t q f).islands = s.islands := rfl
@[simp] theorem State.modQuarter_spaces (s : State) (t : TileId) (q : Nat) (f : Quarter → Quarter) : (s.modQuarter t q f).spaces = s.spaces := rfl
@[simp] theorem State.modQuarter_netq (s : State) (t : TileId) (q : Nat) (f : Quarter → Quarter) : (s.modQuarter t q f).netq = s.netq := rfl

/-! ## `modDie` -/

@[simp] theorem State.modDie_agenda (s : State) (d : Nat) (f : Die → Die) : (s.modDie d f).agenda = s.agenda := rfl
@[simp] theorem State.modDie_tick (s : State) (d : Nat) (f : Die → Die) : (s.modDie d f).tick = s.tick := rfl
@[simp] theorem State.modDie_cur (s : State) (d : Nat) (f : Die → Die) : (s.modDie d f).cur = s.cur := rfl
@[simp] theorem State.modDie_mem (s : State) (d : Nat) (f : Die → Die) : (s.modDie d f).mem = s.mem := rfl
@[simp] theorem State.modDie_full (s : State) (d : Nat) (f : Die → Die) : (s.modDie d f).full = s.full := rfl
@[simp] theorem State.modDie_pois (s : State) (d : Nat) (f : Die → Die) : (s.modDie d f).pois = s.pois := rfl
@[simp] theorem State.modDie_ctxs (s : State) (d : Nat) (f : Die → Die) : (s.modDie d f).ctxs = s.ctxs := rfl
@[simp] theorem State.modDie_elems (s : State) (d : Nat) (f : Die → Die) : (s.modDie d f).elems = s.elems := rfl
@[simp] theorem State.modDie_regions (s : State) (d : Nat) (f : Die → Die) : (s.modDie d f).regions = s.regions := rfl
@[simp] theorem State.modDie_faults (s : State) (d : Nat) (f : Die → Die) : (s.modDie d f).faults = s.faults := rfl
@[simp] theorem State.modDie_reqs (s : State) (d : Nat) (f : Die → Die) : (s.modDie d f).reqs = s.reqs := rfl
@[simp] theorem State.modDie_switches (s : State) (d : Nat) (f : Die → Die) : (s.modDie d f).switches = s.switches := rfl
@[simp] theorem State.modDie_ctlFlight (s : State) (d : Nat) (f : Die → Die) : (s.modDie d f).ctlFlight = s.ctlFlight := rfl
@[simp] theorem State.modDie_nextId (s : State) (d : Nat) (f : Die → Die) : (s.modDie d f).nextId = s.nextId := rfl
@[simp] theorem State.modDie_fresh (s : State) (d : Nat) (f : Die → Die) : (s.modDie d f).fresh = s.fresh := rfl
@[simp] theorem State.modDie_tiles (s : State) (d : Nat) (f : Die → Die) : (s.modDie d f).tiles = s.tiles := rfl
@[simp] theorem State.modDie_routers (s : State) (d : Nat) (f : Die → Die) : (s.modDie d f).routers = s.routers := rfl
@[simp] theorem State.modDie_mtiles (s : State) (d : Nat) (f : Die → Die) : (s.modDie d f).mtiles = s.mtiles := rfl
@[simp] theorem State.modDie_seals (s : State) (d : Nat) (f : Die → Die) : (s.modDie d f).seals = s.seals := rfl
@[simp] theorem State.modDie_trans (s : State) (d : Nat) (f : Die → Die) : (s.modDie d f).trans = s.trans := rfl
@[simp] theorem State.modDie_peers (s : State) (d : Nat) (f : Die → Die) : (s.modDie d f).peers = s.peers := rfl
@[simp] theorem State.modDie_lost (s : State) (d : Nat) (f : Die → Die) : (s.modDie d f).lost = s.lost := rfl
@[simp] theorem State.modDie_bst (s : State) (d : Nat) (f : Die → Die) : (s.modDie d f).bst = s.bst := rfl
@[simp] theorem State.modDie_bres (s : State) (d : Nat) (f : Die → Die) : (s.modDie d f).bres = s.bres := rfl
@[simp] theorem State.modDie_fwImg (s : State) (d : Nat) (f : Die → Die) : (s.modDie d f).fwImg = s.fwImg := rfl
@[simp] theorem State.modDie_fwPois (s : State) (d : Nat) (f : Die → Die) : (s.modDie d f).fwPois = s.fwPois := rfl
@[simp] theorem State.modDie_stewards (s : State) (d : Nat) (f : Die → Die) : (s.modDie d f).stewards = s.stewards := rfl
@[simp] theorem State.modDie_fwdig (s : State) (d : Nat) (f : Die → Die) : (s.modDie d f).fwdig = s.fwdig := rfl
@[simp] theorem State.modDie_svn (s : State) (d : Nat) (f : Die → Die) : (s.modDie d f).svn = s.svn := rfl
@[simp] theorem State.modDie_queue (s : State) (d : Nat) (f : Die → Die) : (s.modDie d f).queue = s.queue := rfl
@[simp] theorem State.modDie_lastOwner (s : State) (d : Nat) (f : Die → Die) : (s.modDie d f).lastOwner = s.lastOwner := rfl
@[simp] theorem State.modDie_faultSeq (s : State) (d : Nat) (f : Die → Die) : (s.modDie d f).faultSeq = s.faultSeq := rfl
@[simp] theorem State.modDie_accNo (s : State) (d : Nat) (f : Die → Die) : (s.modDie d f).accNo = s.accNo := rfl
@[simp] theorem State.modDie_hits (s : State) (d : Nat) (f : Die → Die) : (s.modDie d f).hits = s.hits := rfl
@[simp] theorem State.modDie_purges (s : State) (d : Nat) (f : Die → Die) : (s.modDie d f).purges = s.purges := rfl
@[simp] theorem State.modDie_islands (s : State) (d : Nat) (f : Die → Die) : (s.modDie d f).islands = s.islands := rfl
@[simp] theorem State.modDie_spaces (s : State) (d : Nat) (f : Die → Die) : (s.modDie d f).spaces = s.spaces := rfl
@[simp] theorem State.modDie_netq (s : State) (d : Nat) (f : Die → Die) : (s.modDie d f).netq = s.netq := rfl

/-! ## `poke` -/

@[simp] theorem State.poke_agenda (s : State) (a n v : Nat) : (s.poke a n v).agenda = s.agenda := rfl
@[simp] theorem State.poke_tick (s : State) (a n v : Nat) : (s.poke a n v).tick = s.tick := rfl
@[simp] theorem State.poke_cur (s : State) (a n v : Nat) : (s.poke a n v).cur = s.cur := rfl
@[simp] theorem State.poke_full (s : State) (a n v : Nat) : (s.poke a n v).full = s.full := rfl
@[simp] theorem State.poke_pois (s : State) (a n v : Nat) : (s.poke a n v).pois = s.pois := rfl
@[simp] theorem State.poke_ctxs (s : State) (a n v : Nat) : (s.poke a n v).ctxs = s.ctxs := rfl
@[simp] theorem State.poke_elems (s : State) (a n v : Nat) : (s.poke a n v).elems = s.elems := rfl
@[simp] theorem State.poke_regions (s : State) (a n v : Nat) : (s.poke a n v).regions = s.regions := rfl
@[simp] theorem State.poke_faults (s : State) (a n v : Nat) : (s.poke a n v).faults = s.faults := rfl
@[simp] theorem State.poke_reqs (s : State) (a n v : Nat) : (s.poke a n v).reqs = s.reqs := rfl
@[simp] theorem State.poke_switches (s : State) (a n v : Nat) : (s.poke a n v).switches = s.switches := rfl
@[simp] theorem State.poke_ctlFlight (s : State) (a n v : Nat) : (s.poke a n v).ctlFlight = s.ctlFlight := rfl
@[simp] theorem State.poke_nextId (s : State) (a n v : Nat) : (s.poke a n v).nextId = s.nextId := rfl
@[simp] theorem State.poke_fresh (s : State) (a n v : Nat) : (s.poke a n v).fresh = s.fresh := rfl
@[simp] theorem State.poke_tiles (s : State) (a n v : Nat) : (s.poke a n v).tiles = s.tiles := rfl
@[simp] theorem State.poke_routers (s : State) (a n v : Nat) : (s.poke a n v).routers = s.routers := rfl
@[simp] theorem State.poke_mtiles (s : State) (a n v : Nat) : (s.poke a n v).mtiles = s.mtiles := rfl
@[simp] theorem State.poke_seals (s : State) (a n v : Nat) : (s.poke a n v).seals = s.seals := rfl
@[simp] theorem State.poke_trans (s : State) (a n v : Nat) : (s.poke a n v).trans = s.trans := rfl
@[simp] theorem State.poke_dies (s : State) (a n v : Nat) : (s.poke a n v).dies = s.dies := rfl
@[simp] theorem State.poke_peers (s : State) (a n v : Nat) : (s.poke a n v).peers = s.peers := rfl
@[simp] theorem State.poke_lost (s : State) (a n v : Nat) : (s.poke a n v).lost = s.lost := rfl
@[simp] theorem State.poke_bst (s : State) (a n v : Nat) : (s.poke a n v).bst = s.bst := rfl
@[simp] theorem State.poke_bres (s : State) (a n v : Nat) : (s.poke a n v).bres = s.bres := rfl
@[simp] theorem State.poke_fwImg (s : State) (a n v : Nat) : (s.poke a n v).fwImg = s.fwImg := rfl
@[simp] theorem State.poke_fwPois (s : State) (a n v : Nat) : (s.poke a n v).fwPois = s.fwPois := rfl
@[simp] theorem State.poke_stewards (s : State) (a n v : Nat) : (s.poke a n v).stewards = s.stewards := rfl
@[simp] theorem State.poke_fwdig (s : State) (a n v : Nat) : (s.poke a n v).fwdig = s.fwdig := rfl
@[simp] theorem State.poke_svn (s : State) (a n v : Nat) : (s.poke a n v).svn = s.svn := rfl
@[simp] theorem State.poke_queue (s : State) (a n v : Nat) : (s.poke a n v).queue = s.queue := rfl
@[simp] theorem State.poke_lastOwner (s : State) (a n v : Nat) : (s.poke a n v).lastOwner = s.lastOwner := rfl
@[simp] theorem State.poke_faultSeq (s : State) (a n v : Nat) : (s.poke a n v).faultSeq = s.faultSeq := rfl
@[simp] theorem State.poke_accNo (s : State) (a n v : Nat) : (s.poke a n v).accNo = s.accNo := rfl
@[simp] theorem State.poke_hits (s : State) (a n v : Nat) : (s.poke a n v).hits = s.hits := rfl
@[simp] theorem State.poke_purges (s : State) (a n v : Nat) : (s.poke a n v).purges = s.purges := rfl
@[simp] theorem State.poke_islands (s : State) (a n v : Nat) : (s.poke a n v).islands = s.islands := rfl
@[simp] theorem State.poke_spaces (s : State) (a n v : Nat) : (s.poke a n v).spaces = s.spaces := rfl
@[simp] theorem State.poke_netq (s : State) (a n v : Nat) : (s.poke a n v).netq = s.netq := rfl

/-! ## `pokeBytes` -/

@[simp] theorem State.pokeBytes_agenda (s : State) (a : Nat) (bs : List Byte) : (s.pokeBytes a bs).agenda = s.agenda := rfl
@[simp] theorem State.pokeBytes_tick (s : State) (a : Nat) (bs : List Byte) : (s.pokeBytes a bs).tick = s.tick := rfl
@[simp] theorem State.pokeBytes_cur (s : State) (a : Nat) (bs : List Byte) : (s.pokeBytes a bs).cur = s.cur := rfl
@[simp] theorem State.pokeBytes_full (s : State) (a : Nat) (bs : List Byte) : (s.pokeBytes a bs).full = s.full := rfl
@[simp] theorem State.pokeBytes_pois (s : State) (a : Nat) (bs : List Byte) : (s.pokeBytes a bs).pois = s.pois := rfl
@[simp] theorem State.pokeBytes_ctxs (s : State) (a : Nat) (bs : List Byte) : (s.pokeBytes a bs).ctxs = s.ctxs := rfl
@[simp] theorem State.pokeBytes_elems (s : State) (a : Nat) (bs : List Byte) : (s.pokeBytes a bs).elems = s.elems := rfl
@[simp] theorem State.pokeBytes_regions (s : State) (a : Nat) (bs : List Byte) : (s.pokeBytes a bs).regions = s.regions := rfl
@[simp] theorem State.pokeBytes_faults (s : State) (a : Nat) (bs : List Byte) : (s.pokeBytes a bs).faults = s.faults := rfl
@[simp] theorem State.pokeBytes_reqs (s : State) (a : Nat) (bs : List Byte) : (s.pokeBytes a bs).reqs = s.reqs := rfl
@[simp] theorem State.pokeBytes_switches (s : State) (a : Nat) (bs : List Byte) : (s.pokeBytes a bs).switches = s.switches := rfl
@[simp] theorem State.pokeBytes_ctlFlight (s : State) (a : Nat) (bs : List Byte) : (s.pokeBytes a bs).ctlFlight = s.ctlFlight := rfl
@[simp] theorem State.pokeBytes_nextId (s : State) (a : Nat) (bs : List Byte) : (s.pokeBytes a bs).nextId = s.nextId := rfl
@[simp] theorem State.pokeBytes_fresh (s : State) (a : Nat) (bs : List Byte) : (s.pokeBytes a bs).fresh = s.fresh := rfl
@[simp] theorem State.pokeBytes_tiles (s : State) (a : Nat) (bs : List Byte) : (s.pokeBytes a bs).tiles = s.tiles := rfl
@[simp] theorem State.pokeBytes_routers (s : State) (a : Nat) (bs : List Byte) : (s.pokeBytes a bs).routers = s.routers := rfl
@[simp] theorem State.pokeBytes_mtiles (s : State) (a : Nat) (bs : List Byte) : (s.pokeBytes a bs).mtiles = s.mtiles := rfl
@[simp] theorem State.pokeBytes_seals (s : State) (a : Nat) (bs : List Byte) : (s.pokeBytes a bs).seals = s.seals := rfl
@[simp] theorem State.pokeBytes_trans (s : State) (a : Nat) (bs : List Byte) : (s.pokeBytes a bs).trans = s.trans := rfl
@[simp] theorem State.pokeBytes_dies (s : State) (a : Nat) (bs : List Byte) : (s.pokeBytes a bs).dies = s.dies := rfl
@[simp] theorem State.pokeBytes_peers (s : State) (a : Nat) (bs : List Byte) : (s.pokeBytes a bs).peers = s.peers := rfl
@[simp] theorem State.pokeBytes_lost (s : State) (a : Nat) (bs : List Byte) : (s.pokeBytes a bs).lost = s.lost := rfl
@[simp] theorem State.pokeBytes_bst (s : State) (a : Nat) (bs : List Byte) : (s.pokeBytes a bs).bst = s.bst := rfl
@[simp] theorem State.pokeBytes_bres (s : State) (a : Nat) (bs : List Byte) : (s.pokeBytes a bs).bres = s.bres := rfl
@[simp] theorem State.pokeBytes_fwImg (s : State) (a : Nat) (bs : List Byte) : (s.pokeBytes a bs).fwImg = s.fwImg := rfl
@[simp] theorem State.pokeBytes_fwPois (s : State) (a : Nat) (bs : List Byte) : (s.pokeBytes a bs).fwPois = s.fwPois := rfl
@[simp] theorem State.pokeBytes_stewards (s : State) (a : Nat) (bs : List Byte) : (s.pokeBytes a bs).stewards = s.stewards := rfl
@[simp] theorem State.pokeBytes_fwdig (s : State) (a : Nat) (bs : List Byte) : (s.pokeBytes a bs).fwdig = s.fwdig := rfl
@[simp] theorem State.pokeBytes_svn (s : State) (a : Nat) (bs : List Byte) : (s.pokeBytes a bs).svn = s.svn := rfl
@[simp] theorem State.pokeBytes_queue (s : State) (a : Nat) (bs : List Byte) : (s.pokeBytes a bs).queue = s.queue := rfl
@[simp] theorem State.pokeBytes_lastOwner (s : State) (a : Nat) (bs : List Byte) : (s.pokeBytes a bs).lastOwner = s.lastOwner := rfl
@[simp] theorem State.pokeBytes_faultSeq (s : State) (a : Nat) (bs : List Byte) : (s.pokeBytes a bs).faultSeq = s.faultSeq := rfl
@[simp] theorem State.pokeBytes_accNo (s : State) (a : Nat) (bs : List Byte) : (s.pokeBytes a bs).accNo = s.accNo := rfl
@[simp] theorem State.pokeBytes_hits (s : State) (a : Nat) (bs : List Byte) : (s.pokeBytes a bs).hits = s.hits := rfl
@[simp] theorem State.pokeBytes_purges (s : State) (a : Nat) (bs : List Byte) : (s.pokeBytes a bs).purges = s.purges := rfl
@[simp] theorem State.pokeBytes_islands (s : State) (a : Nat) (bs : List Byte) : (s.pokeBytes a bs).islands = s.islands := rfl
@[simp] theorem State.pokeBytes_spaces (s : State) (a : Nat) (bs : List Byte) : (s.pokeBytes a bs).spaces = s.spaces := rfl
@[simp] theorem State.pokeBytes_netq (s : State) (a : Nat) (bs : List Byte) : (s.pokeBytes a bs).netq = s.netq := rfl

/-! ## `setPoison` -/

@[simp] theorem State.setPoison_agenda (s : State) (a : Nat) (p : Poison) : (s.setPoison a p).agenda = s.agenda := rfl
@[simp] theorem State.setPoison_tick (s : State) (a : Nat) (p : Poison) : (s.setPoison a p).tick = s.tick := rfl
@[simp] theorem State.setPoison_cur (s : State) (a : Nat) (p : Poison) : (s.setPoison a p).cur = s.cur := rfl
@[simp] theorem State.setPoison_mem (s : State) (a : Nat) (p : Poison) : (s.setPoison a p).mem = s.mem := rfl
@[simp] theorem State.setPoison_full (s : State) (a : Nat) (p : Poison) : (s.setPoison a p).full = s.full := rfl
@[simp] theorem State.setPoison_ctxs (s : State) (a : Nat) (p : Poison) : (s.setPoison a p).ctxs = s.ctxs := rfl
@[simp] theorem State.setPoison_elems (s : State) (a : Nat) (p : Poison) : (s.setPoison a p).elems = s.elems := rfl
@[simp] theorem State.setPoison_regions (s : State) (a : Nat) (p : Poison) : (s.setPoison a p).regions = s.regions := rfl
@[simp] theorem State.setPoison_faults (s : State) (a : Nat) (p : Poison) : (s.setPoison a p).faults = s.faults := rfl
@[simp] theorem State.setPoison_reqs (s : State) (a : Nat) (p : Poison) : (s.setPoison a p).reqs = s.reqs := rfl
@[simp] theorem State.setPoison_switches (s : State) (a : Nat) (p : Poison) : (s.setPoison a p).switches = s.switches := rfl
@[simp] theorem State.setPoison_ctlFlight (s : State) (a : Nat) (p : Poison) : (s.setPoison a p).ctlFlight = s.ctlFlight := rfl
@[simp] theorem State.setPoison_nextId (s : State) (a : Nat) (p : Poison) : (s.setPoison a p).nextId = s.nextId := rfl
@[simp] theorem State.setPoison_fresh (s : State) (a : Nat) (p : Poison) : (s.setPoison a p).fresh = s.fresh := rfl
@[simp] theorem State.setPoison_tiles (s : State) (a : Nat) (p : Poison) : (s.setPoison a p).tiles = s.tiles := rfl
@[simp] theorem State.setPoison_routers (s : State) (a : Nat) (p : Poison) : (s.setPoison a p).routers = s.routers := rfl
@[simp] theorem State.setPoison_mtiles (s : State) (a : Nat) (p : Poison) : (s.setPoison a p).mtiles = s.mtiles := rfl
@[simp] theorem State.setPoison_seals (s : State) (a : Nat) (p : Poison) : (s.setPoison a p).seals = s.seals := rfl
@[simp] theorem State.setPoison_trans (s : State) (a : Nat) (p : Poison) : (s.setPoison a p).trans = s.trans := rfl
@[simp] theorem State.setPoison_dies (s : State) (a : Nat) (p : Poison) : (s.setPoison a p).dies = s.dies := rfl
@[simp] theorem State.setPoison_peers (s : State) (a : Nat) (p : Poison) : (s.setPoison a p).peers = s.peers := rfl
@[simp] theorem State.setPoison_lost (s : State) (a : Nat) (p : Poison) : (s.setPoison a p).lost = s.lost := rfl
@[simp] theorem State.setPoison_bst (s : State) (a : Nat) (p : Poison) : (s.setPoison a p).bst = s.bst := rfl
@[simp] theorem State.setPoison_bres (s : State) (a : Nat) (p : Poison) : (s.setPoison a p).bres = s.bres := rfl
@[simp] theorem State.setPoison_fwImg (s : State) (a : Nat) (p : Poison) : (s.setPoison a p).fwImg = s.fwImg := rfl
@[simp] theorem State.setPoison_fwPois (s : State) (a : Nat) (p : Poison) : (s.setPoison a p).fwPois = s.fwPois := rfl
@[simp] theorem State.setPoison_stewards (s : State) (a : Nat) (p : Poison) : (s.setPoison a p).stewards = s.stewards := rfl
@[simp] theorem State.setPoison_fwdig (s : State) (a : Nat) (p : Poison) : (s.setPoison a p).fwdig = s.fwdig := rfl
@[simp] theorem State.setPoison_svn (s : State) (a : Nat) (p : Poison) : (s.setPoison a p).svn = s.svn := rfl
@[simp] theorem State.setPoison_queue (s : State) (a : Nat) (p : Poison) : (s.setPoison a p).queue = s.queue := rfl
@[simp] theorem State.setPoison_lastOwner (s : State) (a : Nat) (p : Poison) : (s.setPoison a p).lastOwner = s.lastOwner := rfl
@[simp] theorem State.setPoison_faultSeq (s : State) (a : Nat) (p : Poison) : (s.setPoison a p).faultSeq = s.faultSeq := rfl
@[simp] theorem State.setPoison_accNo (s : State) (a : Nat) (p : Poison) : (s.setPoison a p).accNo = s.accNo := rfl
@[simp] theorem State.setPoison_hits (s : State) (a : Nat) (p : Poison) : (s.setPoison a p).hits = s.hits := rfl
@[simp] theorem State.setPoison_purges (s : State) (a : Nat) (p : Poison) : (s.setPoison a p).purges = s.purges := rfl
@[simp] theorem State.setPoison_islands (s : State) (a : Nat) (p : Poison) : (s.setPoison a p).islands = s.islands := rfl
@[simp] theorem State.setPoison_spaces (s : State) (a : Nat) (p : Poison) : (s.setPoison a p).spaces = s.spaces := rfl
@[simp] theorem State.setPoison_netq (s : State) (a : Nat) (p : Poison) : (s.setPoison a p).netq = s.netq := rfl

/-! ## `at` -/

@[simp] theorem State.at_agenda (s : State) (c : Cur) : (s.at c).agenda = s.agenda := rfl
@[simp] theorem State.at_tick (s : State) (c : Cur) : (s.at c).tick = s.tick := rfl
@[simp] theorem State.at_mem (s : State) (c : Cur) : (s.at c).mem = s.mem := rfl
@[simp] theorem State.at_full (s : State) (c : Cur) : (s.at c).full = s.full := rfl
@[simp] theorem State.at_pois (s : State) (c : Cur) : (s.at c).pois = s.pois := rfl
@[simp] theorem State.at_ctxs (s : State) (c : Cur) : (s.at c).ctxs = s.ctxs := rfl
@[simp] theorem State.at_elems (s : State) (c : Cur) : (s.at c).elems = s.elems := rfl
@[simp] theorem State.at_regions (s : State) (c : Cur) : (s.at c).regions = s.regions := rfl
@[simp] theorem State.at_faults (s : State) (c : Cur) : (s.at c).faults = s.faults := rfl
@[simp] theorem State.at_reqs (s : State) (c : Cur) : (s.at c).reqs = s.reqs := rfl
@[simp] theorem State.at_switches (s : State) (c : Cur) : (s.at c).switches = s.switches := rfl
@[simp] theorem State.at_ctlFlight (s : State) (c : Cur) : (s.at c).ctlFlight = s.ctlFlight := rfl
@[simp] theorem State.at_nextId (s : State) (c : Cur) : (s.at c).nextId = s.nextId := rfl
@[simp] theorem State.at_fresh (s : State) (c : Cur) : (s.at c).fresh = s.fresh := rfl
@[simp] theorem State.at_tiles (s : State) (c : Cur) : (s.at c).tiles = s.tiles := rfl
@[simp] theorem State.at_routers (s : State) (c : Cur) : (s.at c).routers = s.routers := rfl
@[simp] theorem State.at_mtiles (s : State) (c : Cur) : (s.at c).mtiles = s.mtiles := rfl
@[simp] theorem State.at_seals (s : State) (c : Cur) : (s.at c).seals = s.seals := rfl
@[simp] theorem State.at_trans (s : State) (c : Cur) : (s.at c).trans = s.trans := rfl
@[simp] theorem State.at_dies (s : State) (c : Cur) : (s.at c).dies = s.dies := rfl
@[simp] theorem State.at_peers (s : State) (c : Cur) : (s.at c).peers = s.peers := rfl
@[simp] theorem State.at_lost (s : State) (c : Cur) : (s.at c).lost = s.lost := rfl
@[simp] theorem State.at_bst (s : State) (c : Cur) : (s.at c).bst = s.bst := rfl
@[simp] theorem State.at_bres (s : State) (c : Cur) : (s.at c).bres = s.bres := rfl
@[simp] theorem State.at_fwImg (s : State) (c : Cur) : (s.at c).fwImg = s.fwImg := rfl
@[simp] theorem State.at_fwPois (s : State) (c : Cur) : (s.at c).fwPois = s.fwPois := rfl
@[simp] theorem State.at_stewards (s : State) (c : Cur) : (s.at c).stewards = s.stewards := rfl
@[simp] theorem State.at_fwdig (s : State) (c : Cur) : (s.at c).fwdig = s.fwdig := rfl
@[simp] theorem State.at_svn (s : State) (c : Cur) : (s.at c).svn = s.svn := rfl
@[simp] theorem State.at_queue (s : State) (c : Cur) : (s.at c).queue = s.queue := rfl
@[simp] theorem State.at_lastOwner (s : State) (c : Cur) : (s.at c).lastOwner = s.lastOwner := rfl
@[simp] theorem State.at_faultSeq (s : State) (c : Cur) : (s.at c).faultSeq = s.faultSeq := rfl
@[simp] theorem State.at_accNo (s : State) (c : Cur) : (s.at c).accNo = s.accNo := rfl
@[simp] theorem State.at_hits (s : State) (c : Cur) : (s.at c).hits = s.hits := rfl
@[simp] theorem State.at_purges (s : State) (c : Cur) : (s.at c).purges = s.purges := rfl
@[simp] theorem State.at_islands (s : State) (c : Cur) : (s.at c).islands = s.islands := rfl
@[simp] theorem State.at_spaces (s : State) (c : Cur) : (s.at c).spaces = s.spaces := rfl
@[simp] theorem State.at_netq (s : State) (c : Cur) : (s.at c).netq = s.netq := rfl

/-! ## `spend` -/

@[simp] theorem State.spend_agenda (s : State) (t : State) : (s.spend t).agenda = s.agenda := rfl
@[simp] theorem State.spend_tick (s : State) (t : State) : (s.spend t).tick = s.tick := rfl
@[simp] theorem State.spend_cur (s : State) (t : State) : (s.spend t).cur = s.cur := rfl
@[simp] theorem State.spend_mem (s : State) (t : State) : (s.spend t).mem = s.mem := rfl
@[simp] theorem State.spend_full (s : State) (t : State) : (s.spend t).full = s.full := rfl
@[simp] theorem State.spend_pois (s : State) (t : State) : (s.spend t).pois = s.pois := rfl
@[simp] theorem State.spend_ctxs (s : State) (t : State) : (s.spend t).ctxs = s.ctxs := rfl
@[simp] theorem State.spend_elems (s : State) (t : State) : (s.spend t).elems = s.elems := rfl
@[simp] theorem State.spend_regions (s : State) (t : State) : (s.spend t).regions = s.regions := rfl
@[simp] theorem State.spend_faults (s : State) (t : State) : (s.spend t).faults = s.faults := rfl
@[simp] theorem State.spend_reqs (s : State) (t : State) : (s.spend t).reqs = s.reqs := rfl
@[simp] theorem State.spend_switches (s : State) (t : State) : (s.spend t).switches = s.switches := rfl
@[simp] theorem State.spend_ctlFlight (s : State) (t : State) : (s.spend t).ctlFlight = s.ctlFlight := rfl
@[simp] theorem State.spend_nextId (s : State) (t : State) : (s.spend t).nextId = s.nextId := rfl
@[simp] theorem State.spend_fresh (s : State) (t : State) : (s.spend t).fresh = s.fresh := rfl
@[simp] theorem State.spend_tiles (s : State) (t : State) : (s.spend t).tiles = s.tiles := rfl
@[simp] theorem State.spend_routers (s : State) (t : State) : (s.spend t).routers = s.routers := rfl
@[simp] theorem State.spend_mtiles (s : State) (t : State) : (s.spend t).mtiles = s.mtiles := rfl
@[simp] theorem State.spend_seals (s : State) (t : State) : (s.spend t).seals = s.seals := rfl
@[simp] theorem State.spend_dies (s : State) (t : State) : (s.spend t).dies = s.dies := rfl
@[simp] theorem State.spend_peers (s : State) (t : State) : (s.spend t).peers = s.peers := rfl
@[simp] theorem State.spend_lost (s : State) (t : State) : (s.spend t).lost = s.lost := rfl
@[simp] theorem State.spend_bst (s : State) (t : State) : (s.spend t).bst = s.bst := rfl
@[simp] theorem State.spend_bres (s : State) (t : State) : (s.spend t).bres = s.bres := rfl
@[simp] theorem State.spend_fwImg (s : State) (t : State) : (s.spend t).fwImg = s.fwImg := rfl
@[simp] theorem State.spend_fwPois (s : State) (t : State) : (s.spend t).fwPois = s.fwPois := rfl
@[simp] theorem State.spend_stewards (s : State) (t : State) : (s.spend t).stewards = s.stewards := rfl
@[simp] theorem State.spend_fwdig (s : State) (t : State) : (s.spend t).fwdig = s.fwdig := rfl
@[simp] theorem State.spend_svn (s : State) (t : State) : (s.spend t).svn = s.svn := rfl
@[simp] theorem State.spend_queue (s : State) (t : State) : (s.spend t).queue = s.queue := rfl
@[simp] theorem State.spend_lastOwner (s : State) (t : State) : (s.spend t).lastOwner = s.lastOwner := rfl
@[simp] theorem State.spend_faultSeq (s : State) (t : State) : (s.spend t).faultSeq = s.faultSeq := rfl
@[simp] theorem State.spend_accNo (s : State) (t : State) : (s.spend t).accNo = s.accNo := rfl
@[simp] theorem State.spend_hits (s : State) (t : State) : (s.spend t).hits = s.hits := rfl
@[simp] theorem State.spend_purges (s : State) (t : State) : (s.spend t).purges = s.purges := rfl
@[simp] theorem State.spend_islands (s : State) (t : State) : (s.spend t).islands = s.islands := rfl
@[simp] theorem State.spend_spaces (s : State) (t : State) : (s.spend t).spaces = s.spaces := rfl
@[simp] theorem State.spend_netq (s : State) (t : State) : (s.spend t).netq = s.netq := rfl

/-! ## `turn` -/

@[simp] theorem State.turn_cur (s : State) : (s.turn).cur = s.cur := rfl
@[simp] theorem State.turn_mem (s : State) : (s.turn).mem = s.mem := rfl
@[simp] theorem State.turn_full (s : State) : (s.turn).full = s.full := rfl
@[simp] theorem State.turn_pois (s : State) : (s.turn).pois = s.pois := rfl
@[simp] theorem State.turn_ctxs (s : State) : (s.turn).ctxs = s.ctxs := rfl
@[simp] theorem State.turn_elems (s : State) : (s.turn).elems = s.elems := rfl
@[simp] theorem State.turn_regions (s : State) : (s.turn).regions = s.regions := rfl
@[simp] theorem State.turn_faults (s : State) : (s.turn).faults = s.faults := rfl
@[simp] theorem State.turn_reqs (s : State) : (s.turn).reqs = s.reqs := rfl
@[simp] theorem State.turn_switches (s : State) : (s.turn).switches = s.switches := rfl
@[simp] theorem State.turn_ctlFlight (s : State) : (s.turn).ctlFlight = s.ctlFlight := rfl
@[simp] theorem State.turn_nextId (s : State) : (s.turn).nextId = s.nextId := rfl
@[simp] theorem State.turn_fresh (s : State) : (s.turn).fresh = s.fresh := rfl
@[simp] theorem State.turn_tiles (s : State) : (s.turn).tiles = s.tiles := rfl
@[simp] theorem State.turn_routers (s : State) : (s.turn).routers = s.routers := rfl
@[simp] theorem State.turn_mtiles (s : State) : (s.turn).mtiles = s.mtiles := rfl
@[simp] theorem State.turn_seals (s : State) : (s.turn).seals = s.seals := rfl
@[simp] theorem State.turn_trans (s : State) : (s.turn).trans = s.trans := rfl
@[simp] theorem State.turn_dies (s : State) : (s.turn).dies = s.dies := rfl
@[simp] theorem State.turn_peers (s : State) : (s.turn).peers = s.peers := rfl
@[simp] theorem State.turn_lost (s : State) : (s.turn).lost = s.lost := rfl
@[simp] theorem State.turn_bst (s : State) : (s.turn).bst = s.bst := rfl
@[simp] theorem State.turn_bres (s : State) : (s.turn).bres = s.bres := rfl
@[simp] theorem State.turn_fwImg (s : State) : (s.turn).fwImg = s.fwImg := rfl
@[simp] theorem State.turn_fwPois (s : State) : (s.turn).fwPois = s.fwPois := rfl
@[simp] theorem State.turn_stewards (s : State) : (s.turn).stewards = s.stewards := rfl
@[simp] theorem State.turn_fwdig (s : State) : (s.turn).fwdig = s.fwdig := rfl
@[simp] theorem State.turn_svn (s : State) : (s.turn).svn = s.svn := rfl
@[simp] theorem State.turn_queue (s : State) : (s.turn).queue = s.queue := rfl
@[simp] theorem State.turn_lastOwner (s : State) : (s.turn).lastOwner = s.lastOwner := rfl
@[simp] theorem State.turn_faultSeq (s : State) : (s.turn).faultSeq = s.faultSeq := rfl
@[simp] theorem State.turn_accNo (s : State) : (s.turn).accNo = s.accNo := rfl
@[simp] theorem State.turn_hits (s : State) : (s.turn).hits = s.hits := rfl
@[simp] theorem State.turn_purges (s : State) : (s.turn).purges = s.purges := rfl
@[simp] theorem State.turn_islands (s : State) : (s.turn).islands = s.islands := rfl
@[simp] theorem State.turn_spaces (s : State) : (s.turn).spaces = s.spaces := rfl
@[simp] theorem State.turn_netq (s : State) : (s.turn).netq = s.netq := rfl

/-! ## `modPair` and `markImpure` -/

/-- A change of a region and of its partner changes the regions alone. -/
theorem State.modPair_rest (s : State) (r : Nat) (f : Region → Region) :
    s.modPair r f = { s with regions := (s.modPair r f).regions } := by
  have H : ∀ (l : List Nat) (t : State), l.foldl (fun z n => z.modRegion n f) t =
      { t with regions := (l.foldl (fun z n => z.modRegion n f) t).regions } := by
    intro l
    induction l with
    | nil => intro t; rfl
    | cons n l ih => intro t; rw [List.foldl_cons, ih]; rfl
  exact H _ s

/-- A purity violation changes the regions alone. -/
theorem State.markImpure_rest (s : State) (r : Nat) (c : Cause) :
    s.markImpure r c = { s with regions := (s.markImpure r c).regions } := by
  unfold State.markImpure; split
  · exact State.modPair_rest ..
  · rfl

@[simp] theorem State.modPair_agenda (s : State) (r : Nat) (f : Region → Region) : (s.modPair r f).agenda = s.agenda :=
  (congrArg State.agenda (State.modPair_rest s r f) :)
@[simp] theorem State.modPair_tick (s : State) (r : Nat) (f : Region → Region) : (s.modPair r f).tick = s.tick :=
  (congrArg State.tick (State.modPair_rest s r f) :)
@[simp] theorem State.modPair_cur (s : State) (r : Nat) (f : Region → Region) : (s.modPair r f).cur = s.cur :=
  (congrArg State.cur (State.modPair_rest s r f) :)
@[simp] theorem State.modPair_mem (s : State) (r : Nat) (f : Region → Region) : (s.modPair r f).mem = s.mem :=
  (congrArg State.mem (State.modPair_rest s r f) :)
@[simp] theorem State.modPair_full (s : State) (r : Nat) (f : Region → Region) : (s.modPair r f).full = s.full :=
  (congrArg State.full (State.modPair_rest s r f) :)
@[simp] theorem State.modPair_pois (s : State) (r : Nat) (f : Region → Region) : (s.modPair r f).pois = s.pois :=
  (congrArg State.pois (State.modPair_rest s r f) :)
@[simp] theorem State.modPair_ctxs (s : State) (r : Nat) (f : Region → Region) : (s.modPair r f).ctxs = s.ctxs :=
  (congrArg State.ctxs (State.modPair_rest s r f) :)
@[simp] theorem State.modPair_elems (s : State) (r : Nat) (f : Region → Region) : (s.modPair r f).elems = s.elems :=
  (congrArg State.elems (State.modPair_rest s r f) :)
@[simp] theorem State.modPair_faults (s : State) (r : Nat) (f : Region → Region) : (s.modPair r f).faults = s.faults :=
  (congrArg State.faults (State.modPair_rest s r f) :)
@[simp] theorem State.modPair_reqs (s : State) (r : Nat) (f : Region → Region) : (s.modPair r f).reqs = s.reqs :=
  (congrArg State.reqs (State.modPair_rest s r f) :)
@[simp] theorem State.modPair_switches (s : State) (r : Nat) (f : Region → Region) : (s.modPair r f).switches = s.switches :=
  (congrArg State.switches (State.modPair_rest s r f) :)
@[simp] theorem State.modPair_ctlFlight (s : State) (r : Nat) (f : Region → Region) : (s.modPair r f).ctlFlight = s.ctlFlight :=
  (congrArg State.ctlFlight (State.modPair_rest s r f) :)
@[simp] theorem State.modPair_nextId (s : State) (r : Nat) (f : Region → Region) : (s.modPair r f).nextId = s.nextId :=
  (congrArg State.nextId (State.modPair_rest s r f) :)
@[simp] theorem State.modPair_fresh (s : State) (r : Nat) (f : Region → Region) : (s.modPair r f).fresh = s.fresh :=
  (congrArg State.fresh (State.modPair_rest s r f) :)
@[simp] theorem State.modPair_tiles (s : State) (r : Nat) (f : Region → Region) : (s.modPair r f).tiles = s.tiles :=
  (congrArg State.tiles (State.modPair_rest s r f) :)
@[simp] theorem State.modPair_routers (s : State) (r : Nat) (f : Region → Region) : (s.modPair r f).routers = s.routers :=
  (congrArg State.routers (State.modPair_rest s r f) :)
@[simp] theorem State.modPair_mtiles (s : State) (r : Nat) (f : Region → Region) : (s.modPair r f).mtiles = s.mtiles :=
  (congrArg State.mtiles (State.modPair_rest s r f) :)
@[simp] theorem State.modPair_seals (s : State) (r : Nat) (f : Region → Region) : (s.modPair r f).seals = s.seals :=
  (congrArg State.seals (State.modPair_rest s r f) :)
@[simp] theorem State.modPair_trans (s : State) (r : Nat) (f : Region → Region) : (s.modPair r f).trans = s.trans :=
  (congrArg State.trans (State.modPair_rest s r f) :)
@[simp] theorem State.modPair_dies (s : State) (r : Nat) (f : Region → Region) : (s.modPair r f).dies = s.dies :=
  (congrArg State.dies (State.modPair_rest s r f) :)
@[simp] theorem State.modPair_peers (s : State) (r : Nat) (f : Region → Region) : (s.modPair r f).peers = s.peers :=
  (congrArg State.peers (State.modPair_rest s r f) :)
@[simp] theorem State.modPair_lost (s : State) (r : Nat) (f : Region → Region) : (s.modPair r f).lost = s.lost :=
  (congrArg State.lost (State.modPair_rest s r f) :)
@[simp] theorem State.modPair_bst (s : State) (r : Nat) (f : Region → Region) : (s.modPair r f).bst = s.bst :=
  (congrArg State.bst (State.modPair_rest s r f) :)
@[simp] theorem State.modPair_bres (s : State) (r : Nat) (f : Region → Region) : (s.modPair r f).bres = s.bres :=
  (congrArg State.bres (State.modPair_rest s r f) :)
@[simp] theorem State.modPair_fwImg (s : State) (r : Nat) (f : Region → Region) : (s.modPair r f).fwImg = s.fwImg :=
  (congrArg State.fwImg (State.modPair_rest s r f) :)
@[simp] theorem State.modPair_fwPois (s : State) (r : Nat) (f : Region → Region) : (s.modPair r f).fwPois = s.fwPois :=
  (congrArg State.fwPois (State.modPair_rest s r f) :)
@[simp] theorem State.modPair_stewards (s : State) (r : Nat) (f : Region → Region) : (s.modPair r f).stewards = s.stewards :=
  (congrArg State.stewards (State.modPair_rest s r f) :)
@[simp] theorem State.modPair_fwdig (s : State) (r : Nat) (f : Region → Region) : (s.modPair r f).fwdig = s.fwdig :=
  (congrArg State.fwdig (State.modPair_rest s r f) :)
@[simp] theorem State.modPair_svn (s : State) (r : Nat) (f : Region → Region) : (s.modPair r f).svn = s.svn :=
  (congrArg State.svn (State.modPair_rest s r f) :)
@[simp] theorem State.modPair_queue (s : State) (r : Nat) (f : Region → Region) : (s.modPair r f).queue = s.queue :=
  (congrArg State.queue (State.modPair_rest s r f) :)
@[simp] theorem State.modPair_lastOwner (s : State) (r : Nat) (f : Region → Region) : (s.modPair r f).lastOwner = s.lastOwner :=
  (congrArg State.lastOwner (State.modPair_rest s r f) :)
@[simp] theorem State.modPair_faultSeq (s : State) (r : Nat) (f : Region → Region) : (s.modPair r f).faultSeq = s.faultSeq :=
  (congrArg State.faultSeq (State.modPair_rest s r f) :)
@[simp] theorem State.modPair_accNo (s : State) (r : Nat) (f : Region → Region) : (s.modPair r f).accNo = s.accNo :=
  (congrArg State.accNo (State.modPair_rest s r f) :)
@[simp] theorem State.modPair_hits (s : State) (r : Nat) (f : Region → Region) : (s.modPair r f).hits = s.hits :=
  (congrArg State.hits (State.modPair_rest s r f) :)
@[simp] theorem State.modPair_purges (s : State) (r : Nat) (f : Region → Region) : (s.modPair r f).purges = s.purges :=
  (congrArg State.purges (State.modPair_rest s r f) :)
@[simp] theorem State.modPair_islands (s : State) (r : Nat) (f : Region → Region) : (s.modPair r f).islands = s.islands :=
  (congrArg State.islands (State.modPair_rest s r f) :)
@[simp] theorem State.modPair_spaces (s : State) (r : Nat) (f : Region → Region) : (s.modPair r f).spaces = s.spaces :=
  (congrArg State.spaces (State.modPair_rest s r f) :)
@[simp] theorem State.modPair_netq (s : State) (r : Nat) (f : Region → Region) : (s.modPair r f).netq = s.netq :=
  (congrArg State.netq (State.modPair_rest s r f) :)
@[simp] theorem State.markImpure_agenda (s : State) (r : Nat) (c : Cause) : (s.markImpure r c).agenda = s.agenda :=
  (congrArg State.agenda (State.markImpure_rest s r c) :)
@[simp] theorem State.markImpure_tick (s : State) (r : Nat) (c : Cause) : (s.markImpure r c).tick = s.tick :=
  (congrArg State.tick (State.markImpure_rest s r c) :)
@[simp] theorem State.markImpure_cur (s : State) (r : Nat) (c : Cause) : (s.markImpure r c).cur = s.cur :=
  (congrArg State.cur (State.markImpure_rest s r c) :)
@[simp] theorem State.markImpure_mem (s : State) (r : Nat) (c : Cause) : (s.markImpure r c).mem = s.mem :=
  (congrArg State.mem (State.markImpure_rest s r c) :)
@[simp] theorem State.markImpure_full (s : State) (r : Nat) (c : Cause) : (s.markImpure r c).full = s.full :=
  (congrArg State.full (State.markImpure_rest s r c) :)
@[simp] theorem State.markImpure_pois (s : State) (r : Nat) (c : Cause) : (s.markImpure r c).pois = s.pois :=
  (congrArg State.pois (State.markImpure_rest s r c) :)
@[simp] theorem State.markImpure_ctxs (s : State) (r : Nat) (c : Cause) : (s.markImpure r c).ctxs = s.ctxs :=
  (congrArg State.ctxs (State.markImpure_rest s r c) :)
@[simp] theorem State.markImpure_elems (s : State) (r : Nat) (c : Cause) : (s.markImpure r c).elems = s.elems :=
  (congrArg State.elems (State.markImpure_rest s r c) :)
@[simp] theorem State.markImpure_faults (s : State) (r : Nat) (c : Cause) : (s.markImpure r c).faults = s.faults :=
  (congrArg State.faults (State.markImpure_rest s r c) :)
@[simp] theorem State.markImpure_reqs (s : State) (r : Nat) (c : Cause) : (s.markImpure r c).reqs = s.reqs :=
  (congrArg State.reqs (State.markImpure_rest s r c) :)
@[simp] theorem State.markImpure_switches (s : State) (r : Nat) (c : Cause) : (s.markImpure r c).switches = s.switches :=
  (congrArg State.switches (State.markImpure_rest s r c) :)
@[simp] theorem State.markImpure_ctlFlight (s : State) (r : Nat) (c : Cause) : (s.markImpure r c).ctlFlight = s.ctlFlight :=
  (congrArg State.ctlFlight (State.markImpure_rest s r c) :)
@[simp] theorem State.markImpure_nextId (s : State) (r : Nat) (c : Cause) : (s.markImpure r c).nextId = s.nextId :=
  (congrArg State.nextId (State.markImpure_rest s r c) :)
@[simp] theorem State.markImpure_fresh (s : State) (r : Nat) (c : Cause) : (s.markImpure r c).fresh = s.fresh :=
  (congrArg State.fresh (State.markImpure_rest s r c) :)
@[simp] theorem State.markImpure_tiles (s : State) (r : Nat) (c : Cause) : (s.markImpure r c).tiles = s.tiles :=
  (congrArg State.tiles (State.markImpure_rest s r c) :)
@[simp] theorem State.markImpure_routers (s : State) (r : Nat) (c : Cause) : (s.markImpure r c).routers = s.routers :=
  (congrArg State.routers (State.markImpure_rest s r c) :)
@[simp] theorem State.markImpure_mtiles (s : State) (r : Nat) (c : Cause) : (s.markImpure r c).mtiles = s.mtiles :=
  (congrArg State.mtiles (State.markImpure_rest s r c) :)
@[simp] theorem State.markImpure_seals (s : State) (r : Nat) (c : Cause) : (s.markImpure r c).seals = s.seals :=
  (congrArg State.seals (State.markImpure_rest s r c) :)
@[simp] theorem State.markImpure_trans (s : State) (r : Nat) (c : Cause) : (s.markImpure r c).trans = s.trans :=
  (congrArg State.trans (State.markImpure_rest s r c) :)
@[simp] theorem State.markImpure_dies (s : State) (r : Nat) (c : Cause) : (s.markImpure r c).dies = s.dies :=
  (congrArg State.dies (State.markImpure_rest s r c) :)
@[simp] theorem State.markImpure_peers (s : State) (r : Nat) (c : Cause) : (s.markImpure r c).peers = s.peers :=
  (congrArg State.peers (State.markImpure_rest s r c) :)
@[simp] theorem State.markImpure_lost (s : State) (r : Nat) (c : Cause) : (s.markImpure r c).lost = s.lost :=
  (congrArg State.lost (State.markImpure_rest s r c) :)
@[simp] theorem State.markImpure_bst (s : State) (r : Nat) (c : Cause) : (s.markImpure r c).bst = s.bst :=
  (congrArg State.bst (State.markImpure_rest s r c) :)
@[simp] theorem State.markImpure_bres (s : State) (r : Nat) (c : Cause) : (s.markImpure r c).bres = s.bres :=
  (congrArg State.bres (State.markImpure_rest s r c) :)
@[simp] theorem State.markImpure_fwImg (s : State) (r : Nat) (c : Cause) : (s.markImpure r c).fwImg = s.fwImg :=
  (congrArg State.fwImg (State.markImpure_rest s r c) :)
@[simp] theorem State.markImpure_fwPois (s : State) (r : Nat) (c : Cause) : (s.markImpure r c).fwPois = s.fwPois :=
  (congrArg State.fwPois (State.markImpure_rest s r c) :)
@[simp] theorem State.markImpure_stewards (s : State) (r : Nat) (c : Cause) : (s.markImpure r c).stewards = s.stewards :=
  (congrArg State.stewards (State.markImpure_rest s r c) :)
@[simp] theorem State.markImpure_fwdig (s : State) (r : Nat) (c : Cause) : (s.markImpure r c).fwdig = s.fwdig :=
  (congrArg State.fwdig (State.markImpure_rest s r c) :)
@[simp] theorem State.markImpure_svn (s : State) (r : Nat) (c : Cause) : (s.markImpure r c).svn = s.svn :=
  (congrArg State.svn (State.markImpure_rest s r c) :)
@[simp] theorem State.markImpure_queue (s : State) (r : Nat) (c : Cause) : (s.markImpure r c).queue = s.queue :=
  (congrArg State.queue (State.markImpure_rest s r c) :)
@[simp] theorem State.markImpure_lastOwner (s : State) (r : Nat) (c : Cause) : (s.markImpure r c).lastOwner = s.lastOwner :=
  (congrArg State.lastOwner (State.markImpure_rest s r c) :)
@[simp] theorem State.markImpure_faultSeq (s : State) (r : Nat) (c : Cause) : (s.markImpure r c).faultSeq = s.faultSeq :=
  (congrArg State.faultSeq (State.markImpure_rest s r c) :)
@[simp] theorem State.markImpure_accNo (s : State) (r : Nat) (c : Cause) : (s.markImpure r c).accNo = s.accNo :=
  (congrArg State.accNo (State.markImpure_rest s r c) :)
@[simp] theorem State.markImpure_hits (s : State) (r : Nat) (c : Cause) : (s.markImpure r c).hits = s.hits :=
  (congrArg State.hits (State.markImpure_rest s r c) :)
@[simp] theorem State.markImpure_purges (s : State) (r : Nat) (c : Cause) : (s.markImpure r c).purges = s.purges :=
  (congrArg State.purges (State.markImpure_rest s r c) :)
@[simp] theorem State.markImpure_islands (s : State) (r : Nat) (c : Cause) : (s.markImpure r c).islands = s.islands :=
  (congrArg State.islands (State.markImpure_rest s r c) :)
@[simp] theorem State.markImpure_spaces (s : State) (r : Nat) (c : Cause) : (s.markImpure r c).spaces = s.spaces :=
  (congrArg State.spaces (State.markImpure_rest s r c) :)
@[simp] theorem State.markImpure_netq (s : State) (r : Nat) (c : Cause) : (s.markImpure r c).netq = s.netq :=
  (congrArg State.netq (State.markImpure_rest s r c) :)

/-! ## What the updates write -/

@[simp] theorem State.setElem_elems (s : State) (e : ElemId) (x : Elem) : (s.setElem e x).elems = Table.set s.elems e.key x := rfl
@[simp] theorem State.record_faults (s : State) (f : FaultRec) : (s.record f).faults = 
    s.faults ++ [{ f with time := (s.region f.region).clock }] := rfl
@[simp] theorem State.send_reqs (s : State) (q : Req) : (s.send q).reqs = s.reqs ++ [q] := rfl
@[simp] theorem State.send_nextId (s : State) (q : Req) : (s.send q).nextId = s.nextId + 1 := rfl
@[simp] theorem State.dropReq_reqs (s : State) (n : Nat) : (s.dropReq n).reqs = s.reqs.filter fun r => r.id != n := rfl
@[simp] theorem State.poke_mem (s : State) (a n v : Nat) : (s.poke a n v).mem = Mem.writeBytes s.mem a (bytesOf n v) := rfl
@[simp] theorem State.pokeBytes_mem (s : State) (a : Nat) (bs : List Byte) : (s.pokeBytes a bs).mem = Mem.writeBytes s.mem a bs := rfl
@[simp] theorem State.at_cur (s : State) (c : Cur) : (s.at c).cur = c := rfl
@[simp] theorem State.turn_tick (s : State) : s.turn.tick = s.tick + 1 := rfl
@[simp] theorem State.turn_agenda (s : State) : s.turn.agenda = s.agenda.tail := rfl

end Sys2Proof.Machine
end

