-- ==== Sys2Proof/Laws/Memory.lean ====
section
/-!
SUPPORT. Laws of tables and of byte memory: reading after writing, and that every operation on memory keeps its canonical form.
-/

namespace Sys2Proof.Machine

/-! ## Tables -/

/-- A table reads at a number what was put there. -/
@[simp] theorem Table.get_set_same {α : Type} [Inhabited α] (t : Table α) (k : Nat) (x : α) : (Table.set t k x).get k = x := by
  induction t with
  | nil => simp [Table.set, Table.get]
  | cons p r ih =>
    obtain ⟨j, y⟩ := p
    unfold Table.set
    split
    · simp [Table.get]
    · split
      · simp [Table.get]
      · simp [Table.get, *]

/-- Putting a thing at one number leaves every other number. -/
theorem Table.get_set_other {α : Type} [Inhabited α] (t : Table α) (k j : Nat) (x : α) (h : j ≠ k) :
    (Table.set t k x).get j = t.get j := by
  induction t with
  | nil => simp [Table.set, Table.get, Ne.symm h]
  | cons p r ih =>
    obtain ⟨i, y⟩ := p
    unfold Table.set
    split
    · simp [Table.get, Ne.symm h]
    · split
      · rename_i _ e; subst e; simp [Table.get, Ne.symm h]
      · simp only [Table.get]; split
        · rfl
        · exact ih

/-- The element at a place after it is replaced. -/
@[simp] theorem State.elem_setElem_same (s : State) (e : ElemId) (x : Elem) : (s.setElem e x).elem e = x := by
  simp [State.elem, State.setElem]

/-- Every element at another number stays when one is replaced. -/
theorem State.elem_setElem_other (s : State) (e o : ElemId) (x : Elem) (h : o.key ≠ e.key) : (s.setElem e x).elem o = s.elem o := by
  simp [State.elem, State.setElem, Table.get_set_other _ _ _ _ h]

/-- The element at a place after it is changed. -/
@[simp] theorem State.elem_modElem_same (s : State) (e : ElemId) (f : Elem → Elem) : (s.modElem e f).elem e = f (s.elem e) := by
  simp [State.modElem]

/-- Every element at another number stays when one is changed. -/
theorem State.elem_modElem_other (s : State) (e o : ElemId) (f : Elem → Elem) (h : o.key ≠ e.key) :
    (s.modElem e f).elem o = s.elem o := by
  simp [State.modElem, State.elem_setElem_other _ _ _ _ h]

/-- The region at a number after it is changed. -/
@[simp] theorem State.region_modRegion_same (s : State) (r : Nat) (f : Region → Region) :
    (s.modRegion r f).region r = f (s.region r) := by
  simp [State.region, State.modRegion, Table.modify]

/-- Every other region stays when one is changed. -/
theorem State.region_modRegion_other (s : State) (r n : Nat) (f : Region → Region) (h : n ≠ r) :
    (s.modRegion r f).region n = s.region n := by
  simp [State.region, State.modRegion, Table.modify, Table.get_set_other _ _ _ _ h]

/-- A bank after it is replaced. -/
@[simp] theorem Elem.bank_setBank_same (x : Elem) (b : Nat) (k : Bank) : (x.setBank b k).bank b = k := by
  simp [Elem.bank, Elem.setBank]

/-- Every other bank stays when one is replaced. -/
theorem Elem.bank_setBank_other (x : Elem) (b c : Nat) (k : Bank) (h : c ≠ b) : (x.setBank b k).bank c = x.bank c := by
  simp [Elem.bank, Elem.setBank, Table.get_set_other _ _ _ _ h]

/-- A register after it is replaced. -/
@[simp] theorem Bank.reg_setReg_same (k : Bank) (n : Nat) (r : Reg) : (k.setReg n r).reg n = r := by
  simp [Bank.reg, Bank.setReg]

/-- Every other register stays when one is replaced. -/
theorem Bank.reg_setReg_other (k : Bank) (n m : Nat) (r : Reg) (h : m ≠ n) : (k.setReg n r).reg m = k.reg m := by
  simp [Bank.reg, Bank.setReg, Table.get_set_other _ _ _ _ h]

/-- A predicate after it is replaced. -/
@[simp] theorem Bank.pred_setPred_same (k : Bank) (n : Nat) (p : Pred) : (k.setPred n p).pred n = p := by
  simp [Bank.pred, Bank.setPred]

/-- Every other predicate stays when one is replaced. -/
theorem Bank.pred_setPred_other (k : Bank) (n m : Nat) (p : Pred) (h : m ≠ n) : (k.setPred n p).pred m = k.pred m := by
  simp [Bank.pred, Bank.setPred, Table.get_set_other _ _ _ _ h]

/-! ## Bytes -/

/-- Reading where a byte was written. -/
@[simp] theorem Mem.read_write_same (m : List Host.Cell) (a : Nat) (v : Byte) (h : Mem.wf m = true) :
    Mem.read (Mem.write m a v) a = v := by
  suffices H : ∀ (m : List Host.Cell) (lo : Nat), Mem.wfFrom lo m = true → Mem.read (Mem.write m a v) a = v from H m 0 h
  clear h m
  intro m
  induction m with
  | nil => intro lo _; by_cases hv : v = Mem.unlisted <;> simp [Mem.write, Mem.read, hv]
  | cons p r ih =>
    intro lo h
    obtain ⟨b, w⟩ := p
    simp only [Mem.wfFrom, Bool.and_eq_true, decide_eq_true_eq] at h
    have absent : ∀ (r : List Host.Cell) (l : Nat), Mem.wfFrom l r = true → a < l → Mem.read r a = Mem.unlisted := by
      intro r
      induction r with
      | nil => intro l _ _; rfl
      | cons q r ih2 =>
        intro l hl hal
        obtain ⟨c, u⟩ := q
        simp only [Mem.wfFrom, Bool.and_eq_true, decide_eq_true_eq] at hl
        have : c ≠ a := by omega
        simp [Mem.read, this, ih2 (c + 1) hl.2 (by omega)]
    unfold Mem.write
    by_cases h1 : a < b
    · have hne : b ≠ a := by omega
      by_cases hv : v = Mem.unlisted
      · simp [h1, hv, Mem.read, hne, absent r (b + 1) h.2 (by omega)]
      · simp [h1, hv, Mem.read]
    · by_cases h2 : b = a
      · by_cases hv : v = Mem.unlisted
        · simp [h2, hv, absent r (b + 1) h.2 (by omega)]
        · simp [h2, hv, Mem.read]
      · simp [h1, h2, Mem.read, ih (b + 1) h.2]

/-- Writing a byte leaves every other byte. -/
theorem Mem.read_write_other (m : List Host.Cell) (a b : Nat) (v : Byte) (hne : b ≠ a) :
    Mem.read (Mem.write m a v) b = Mem.read m b := by
  suffices H : ∀ m : List Host.Cell, Mem.read (Mem.write m a v) b = Mem.read m b from H m
  clear m
  intro m
  induction m with
  | nil => by_cases hv : v = Mem.unlisted <;> simp [Mem.write, Mem.read, hv, hne.symm]
  | cons p r ih =>
    obtain ⟨c, w⟩ := p
    unfold Mem.write
    by_cases h1 : a < c
    · by_cases hv : v = Mem.unlisted <;> simp [h1, hv, Mem.read, hne.symm]
    · by_cases h2 : c = a
      · subst h2
        by_cases hv : v = Mem.unlisted <;> simp [hv, Mem.read, hne.symm]
      · simp [h1, h2, Mem.read, ih]

/-- Writing a byte at or above `lo` keeps the form from `lo` on. -/
theorem Mem.wfFrom_write (m : List Host.Cell) (lo a : Nat) (v : Byte) (h : Mem.wfFrom lo m = true) (ha : lo ≤ a) :
    Mem.wfFrom lo (Mem.write m a v) = true := by
  induction m generalizing lo with
  | nil => by_cases hv : v = Mem.unlisted <;> simp [Mem.write, Mem.wfFrom, hv, ha]
  | cons p r ih =>
    obtain ⟨b, w⟩ := p
    have h' := h
    simp only [Mem.wfFrom, Bool.and_eq_true, decide_eq_true_eq] at h
    unfold Mem.write
    by_cases h1 : a < b
    · by_cases hv : v = Mem.unlisted
      · simpa [h1, hv] using h'
      · have hb : a + 1 ≤ b := h1
        simp [h1, hv, Mem.wfFrom, ha, hb, h.1.2, h.2]
    · by_cases h2 : b = a
      · subst h2
        by_cases hv : v = Mem.unlisted
        · have weaken : ∀ (r : List Host.Cell) (l k : Nat), Mem.wfFrom l r = true → k ≤ l → Mem.wfFrom k r = true := by
            intro r
            cases r with
            | nil => intros; rfl
            | cons q r =>
              intro l k hl hk
              simp only [Mem.wfFrom, Bool.and_eq_true, decide_eq_true_eq] at hl ⊢
              exact ⟨⟨by omega, hl.1.2⟩, hl.2⟩
          simpa [hv] using weaken r (b + 1) lo h.2 (by omega)
        · simp [hv, Mem.wfFrom, ha, h.2]
      · have : b + 1 ≤ a := by omega
        simp [h1, h2, Mem.wfFrom, h.1.1, h.1.2, ih (b + 1) h.2 this]

/-- Writing a byte keeps the canonical form. -/
theorem Mem.wf_write (m : List Host.Cell) (a : Nat) (v : Byte) (h : Mem.wf m = true) : Mem.wf (Mem.write m a v) = true :=
  Mem.wfFrom_write m 0 a v h (Nat.zero_le a)

/-- Writing bytes keeps the canonical form. -/
theorem Mem.wf_writeBytes (bs : List Byte) (m : List Host.Cell) (a : Nat) (h : Mem.wf m = true) :
    Mem.wf (Mem.writeBytes m a bs) = true := by
  induction bs generalizing m a with
  | nil => exact h
  | cons b r ih => exact ih _ _ (Mem.wf_write m a b h)

/-- Keeping some cells of a memory keeps the canonical form. -/
theorem Mem.wf_filter (p : Host.Cell → Bool) (m : List Host.Cell) (h : Mem.wf m = true) : Mem.wf (m.filter p) = true := by
  suffices H : ∀ (m : List Host.Cell) (l k : Nat), Mem.wfFrom l m = true → k ≤ l → Mem.wfFrom k (m.filter p) = true from
    H m 0 0 h (Nat.le_refl 0)
  clear h m
  intro m
  induction m with
  | nil => intros; rfl
  | cons q r ih =>
    intro l k hl hk
    obtain ⟨b, w⟩ := q
    simp only [Mem.wfFrom, Bool.and_eq_true, decide_eq_true_eq] at hl
    by_cases hp : p (b, w) = true
    · simp only [List.filter_cons, hp, if_true, Mem.wfFrom, Bool.and_eq_true, decide_eq_true_eq]
      exact ⟨⟨by omega, hl.1.2⟩, ih (b + 1) (b + 1) hl.2 (Nat.le_refl _)⟩
    · simp only [List.filter_cons, hp, Bool.false_eq_true, if_false]
      exact ih (b + 1) k hl.2 (by omega)

/-- Writing cells one by one keeps the canonical form. -/
theorem Mem.wf_foldl_write (f : Host.Cell → Nat) (l m : List Host.Cell) (h : Mem.wf m = true) :
    Mem.wf (l.foldl (fun m (c : Host.Cell) => Mem.write m (f c) c.2) m) = true := by
  induction l generalizing m with
  | nil => exact h
  | cons c r ih => exact ih _ (Mem.wf_write m (f c) c.2 h)

/-- Writing bytes leaves every byte below them. -/
theorem Mem.read_writeBytes_below (bs : List Byte) (m : List Host.Cell) (a b : Nat) (h : Mem.wf m = true) (hb : b < a) :
    Mem.read (Mem.writeBytes m a bs) b = Mem.read m b := by
  induction bs generalizing m a with
  | nil => rfl
  | cons v r ih =>
    rw [Mem.writeBytes, ih _ _ (Mem.wf_write m a v h) (by omega), Mem.read_write_other m a b v (by omega)]

/-- Writing bytes leaves every byte above them. -/
theorem Mem.read_writeBytes_above (bs : List Byte) (m : List Host.Cell) (a b : Nat) (h : Mem.wf m = true) (hb : a + bs.length ≤ b) :
    Mem.read (Mem.writeBytes m a bs) b = Mem.read m b := by
  induction bs generalizing m a with
  | nil => rfl
  | cons v r ih =>
    simp only [List.length_cons] at hb
    rw [Mem.writeBytes, ih _ _ (Mem.wf_write m a v h) (by omega), Mem.read_write_other m a b v (by omega)]

/-- Reading the bytes that were written. -/
theorem Mem.readBytes_writeBytes (bs : List Byte) (m : List Host.Cell) (a : Nat) (h : Mem.wf m = true) :
    Mem.readBytes (Mem.writeBytes m a bs) a bs.length = bs := by
  induction bs generalizing m a with
  | nil => rfl
  | cons v r ih =>
    simp only [Mem.writeBytes, List.length_cons, Mem.readBytes]
    rw [Mem.read_writeBytes_below r _ (a + 1) a (Mem.wf_write m a v h) (by omega), Mem.read_write_same m a v h,
      ih _ _ (Mem.wf_write m a v h)]

/-- The bytes of a number are as many as asked for. -/
@[simp] theorem bytesOf_length (n v : Nat) : (bytesOf n v).length = n := by
  induction n generalizing v with
  | zero => rfl
  | succ n ih => simp [bytesOf, ih]

/-! ## Memory of the state -/

@[simp] theorem State.noteMet_mem (s : State) (met : SpillRec → Bool) : (s.noteMet met).mem = s.mem := rfl

@[simp] theorem State.setFull_mem (s : State) (a : Nat) (f : Bool) : (s.setFull a f).mem = s.mem := by
  unfold State.setFull; split <;> rfl

@[simp] theorem State.storeGranule_mem (s : State) (g lo hi : Nat) (p : Poison) : (s.storeGranule g lo hi p).mem = s.mem := by
  unfold State.storeGranule; repeat' split
  all_goals rfl

@[simp] theorem State.dropBlocks_mem (s : State) (p : Nat → Bool) : (s.dropBlocks p).mem = s.mem := by
  unfold State.dropBlocks; split <;> rfl

@[simp] theorem State.dropCached_mem (s : State) (a len : Nat) : (s.dropCached a len).mem = s.mem := s.dropBlocks_mem _

/-- A store writes its bytes, whatever becomes of the poison (R206). -/
@[simp] theorem State.storeBytes_mem (s : State) (a : Nat) (bs : List Byte) (p : Poison) :
    (s.storeBytes a bs p).mem = Mem.writeBytes s.mem a bs := by
  have H : ∀ (l : List Nat) (t : State), (l.foldl (fun t g => t.storeGranule g a (a + bs.length) p) t).mem = t.mem := by
    intro l
    induction l with
    | nil => intro t; rfl
    | cons g r ih => intro t; rw [List.foldl_cons, ih]; simp
  simp only [State.storeBytes, H, State.pokeBytes_mem, State.dropCached_mem]

/-- A store keeps the canonical form. -/
theorem State.storeBytes_wf (s : State) (a : Nat) (bs : List Byte) (p : Poison) (h : Mem.wf s.mem = true) :
    Mem.wf (s.storeBytes a bs p).mem = true := by
  rw [State.storeBytes_mem]; exact Mem.wf_writeBytes bs s.mem a h

/-- A number written keeps the canonical form. -/
theorem State.poke_wf (s : State) (a n v : Nat) (h : Mem.wf s.mem = true) : Mem.wf (s.poke a n v).mem = true := by
  rw [State.poke_mem]; exact Mem.wf_writeBytes _ s.mem a h

end Sys2Proof.Machine
end

