-- ==== Sys2Proof/Laws/Fire.lean ====
section
/-!
SUPPORT. What a fire can do, said once (R134): it traps, which records the fault and halts the bank; or it passes as a no-operation
after `hret`; or it completes.
-/

namespace Sys2Proof.Machine

/-- A fire answers one of three states. -/
theorem fire_cases {s : State} {f : Fire} {srcs : List (BitVec 5)} {checked : List Src} {own : Option Trap} {pops : List Nat}
    {eff : Elem → Elem} {upd : BitVec 8 → BitVec 8} {post : State → State} {z : State}
    (h : fire s f srcs checked own pops eff upd post = .next z) :
    (∃ t, f.trapOf s checked own = some t ∧ z = trapFire s f t (f.opOf srcs 0) (f.opOf srcs 1)) ∨
    (f.trapOf s checked own = none ∧ f.asNop own = true ∧ z = s.setElem f.cur.elem (f.finish id f.el)) ∨
    (f.trapOf s checked own = none ∧ f.asNop own = false ∧
      z = post (s.setElem f.cur.elem (f.finish upd (eff (f.el.popAll pops))))) := by
  unfold fire go at h
  split at h
  · rename_i t e; exact .inl ⟨t, e, by injection h with h; exact h.symm⟩
  · rename_i e
    split at h
    · rename_i n; exact .inr (.inl ⟨e, n, by injection h with h; exact h.symm⟩)
    · rename_i n; exact .inr (.inr ⟨e, by simpa using n, by injection h with h; exact h.symm⟩)

/-- A fire always answers a next state. -/
theorem fire_goes (s : State) (f : Fire) (srcs : List (BitVec 5)) (checked : List Src) (own : Option Trap) (pops : List Nat)
    (eff : Elem → Elem) (upd : BitVec 8 → BitVec 8) (post : State → State) :
    ∃ z, fire s f srcs checked own pops eff upd post = .next z := by
  unfold fire go
  split
  · exact ⟨_, rfl⟩
  · split <;> exact ⟨_, rfl⟩

/-- A fire that traps leaves memory. -/
@[simp] theorem trapFire_mem (s : State) (f : Fire) (t : Trap) (a b : Vec) : (trapFire s f t a b).mem = s.mem := by
  simp [trapFire]

/-- A fire whose sending leaves memory leaves memory. -/
theorem fire_mem {s : State} {f : Fire} {srcs : List (BitVec 5)} {checked : List Src} {own : Option Trap} {pops : List Nat}
    {eff : Elem → Elem} {upd : BitVec 8 → BitVec 8} {post : State → State} {z : State} (hp : ∀ x, (post x).mem = x.mem)
    (h : fire s f srcs checked own pops eff upd post = .next z) : z.mem = s.mem := by
  rcases fire_cases h with ⟨t, _, rfl⟩ | ⟨_, _, rfl⟩ | ⟨_, _, rfl⟩ <;> simp [hp]

/-- A fire with clean sources, no trap of its own and no tag-bank fault completes. -/
theorem fire_completes (s : State) (f : Fire) (srcs : List (BitVec 5)) (checked : List Src) (own : Option Trap) (pops : List Nat)
    (eff : Elem → Elem) (upd : BitVec 8 → BitVec 8) (post : State → State) (hb : f.tagBank s = false) (hs : srcTrap checked = none)
    (ho : own = none) :
    fire s f srcs checked own pops eff upd post = .next (post (s.setElem f.cur.elem (f.finish upd (eff (f.el.popAll pops))))) := by
  subst ho
  simp [fire, Fire.trapOf, Fire.asNop, hb, hs, go]

/-- Sources that are valid and clean do not trap. -/
theorem srcTrap_none (l : List Src) (h : ∀ x ∈ l, x.valid = true ∧ x.poison = .clean) : srcTrap l = none := by
  have h1 : l.any (fun x => !x.valid) = false := by simpa using fun x hx => (h x hx).1
  have h2 : ∀ (l : List Src) (p : Poison), (∀ x ∈ l, x.poison = .clean) → l.foldl (fun p x => p.join x.poison) p = p := by
    intro l
    induction l with
    | nil => intros; rfl
    | cons x r ih =>
      intro p hx
      rw [List.foldl_cons, hx x (List.mem_cons_self ..), ih _ fun y hy => hx y (List.mem_cons_of_mem _ hy)]
      cases p <;> rfl
  simp [srcTrap, h1, joinPoison, h2 l .clean fun x hx => (h x hx).2]

end Sys2Proof.Machine
end

