-- ==== Sys2Proof/Laws/Element.lean ====
section
/-!
SUPPORT. Laws of lanes, banks and queues of an element, and of the shared writes of a fire (R33, R54, R85).
-/

namespace Sys2Proof.Machine

/-! ## Lanes -/

/-- A lane of a filled value. -/
@[simp] theorem Lanes.get_fill {α : Type} (x : α) (i : Fin 8) : (Lanes.fill x).get i = x := by
  unfold Lanes.fill Lanes.get; split <;> rfl

/-- A lane of a value given lane by lane. -/
@[simp] theorem Lanes.get_ofFn {α : Type} (f : Fin 8 → α) (i : Fin 8) : (Lanes.ofFn f).get i = f i := by
  unfold Lanes.ofFn Lanes.get; split <;> rfl

/-- A lane of a merge. -/
@[simp] theorem get_merge {α : Type} (g : Mask) (x y : Lanes α) (i : Fin 8) :
    (merge g x y).get i = if g.get i then x.get i else y.get i := by
  simp [merge]

/-! ## Banks -/

/-- A bank after it is changed. -/
@[simp] theorem Elem.bank_modBank_same (x : Elem) (b : Nat) (f : Bank → Bank) : (x.modBank b f).bank b = f (x.bank b) := by
  simp [Elem.modBank]

/-- Every other bank stays when one is changed. -/
theorem Elem.bank_modBank_other (x : Elem) (b c : Nat) (f : Bank → Bank) (h : c ≠ b) : (x.modBank b f).bank c = x.bank c := by
  simp [Elem.modBank, Elem.bank_setBank_other _ _ _ _ h]

/-- A register write leaves the predicates. -/
@[simp] theorem Bank.pred_setReg (k : Bank) (n m : Nat) (r : Reg) : (k.setReg n r).pred m = k.pred m := rfl

/-- A predicate write leaves the registers. -/
@[simp] theorem Bank.reg_setPred (k : Bank) (n m : Nat) (p : Pred) : (k.setPred n p).reg m = k.reg m := rfl

/-! ## Queues -/

/-- An output queue after a token is put into it. -/
@[simp] theorem Elem.outq_pushOut_same (x : Elem) (q : Nat) (t : QEntry) : (x.pushOut q t).outq q = x.outq q ++ [t] := by
  simp [Elem.outq, Elem.pushOut]

/-- Every other output queue stays. -/
theorem Elem.outq_pushOut_other (x : Elem) (q p : Nat) (t : QEntry) (h : p ≠ q) : (x.pushOut q t).outq p = x.outq p := by
  simp [Elem.outq, Elem.pushOut, Table.get_set_other _ _ _ _ h]

/-- A token put into an output queue leaves the banks. -/
@[simp] theorem Elem.bank_pushOut (x : Elem) (q b : Nat) (t : QEntry) : (x.pushOut q t).bank b = x.bank b := rfl

/-- An input queue after its head goes. -/
@[simp] theorem Elem.inq_pop_same (x : Elem) (q : Nat) : (x.pop q).inq q = (x.inq q).tail := by
  simp [Elem.inq, Elem.pop]

/-- Every other input queue stays. -/
theorem Elem.inq_pop_other (x : Elem) (q p : Nat) (h : p ≠ q) : (x.pop q).inq p = x.inq p := by
  simp [Elem.inq, Elem.pop, Table.get_set_other _ _ _ _ h]

/-- The removal of heads leaves the banks. -/
@[simp] theorem Elem.bank_popAll (x : Elem) (qs : List Nat) (b : Nat) : (x.popAll qs).bank b = x.bank b := by
  unfold Elem.popAll
  induction qs generalizing x with
  | nil => rfl
  | cons q r ih => rw [List.foldl_cons, ih]; rfl

/-- A queue that is not listed keeps its tokens. -/
theorem Elem.inq_popAll_other (qs : List Nat) (x : Elem) (q : Nat) (h : q ∉ qs) : (x.popAll qs).inq q = x.inq q := by
  unfold Elem.popAll
  induction qs generalizing x with
  | nil => rfl
  | cons p r ih =>
    rw [List.foldl_cons, ih _ (fun m => h (List.mem_cons_of_mem _ m))]
    exact Elem.inq_pop_other _ _ _ fun e => h (e ▸ List.mem_cons_self ..)

/-- A queue that is listed once loses its head. -/
theorem Elem.inq_popAll_mem (qs : List Nat) (x : Elem) (q : Nat) (hn : qs.Nodup) (h : q ∈ qs) :
    (x.popAll qs).inq q = (x.inq q).tail := by
  unfold Elem.popAll
  induction qs generalizing x with
  | nil => cases h
  | cons p r ih =>
    rw [List.foldl_cons]
    rcases List.mem_cons.mp h with rfl | h
    · exact (Elem.inq_popAll_other r (x.pop q) q (List.nodup_cons.mp hn).1).trans (Elem.inq_pop_same _ _)
    · have : q ≠ p := fun e => (List.nodup_cons.mp hn).1 (e ▸ h)
      rw [ih _ (List.nodup_cons.mp hn).2 h, Elem.inq_pop_other _ _ _ this]

/-! ## The end of a fire -/

/-- The end of a fire leaves the queues, and of the banks changes the firing one alone. -/
@[simp] theorem Fire.finish_bank (f : Fire) (upd : BitVec 8 → BitVec 8) (x : Elem) :
    (f.finish upd x).bank f.b = f.finishBank upd (x.bank f.b) := by
  simp [Fire.finish]

/-- A fire with clean sources and no trap completes with its effect. -/
theorem fireElem_completes (s : State) (t : BitVec 6) (srcs : List (BitVec 5)) (own : Fire → Option Trap) (eff : Fire → Elem → Elem)
    (upd : Fire → BitVec 8 → BitVec 8) (hb : (fireOf s t).tagBank s = false)
    (hs : ∀ x ∈ srcs.map (fireOf s t).src, x.valid = true ∧ x.poison = .clean) (ho : own (fireOf s t) = none) :
    fireElem s t srcs own eff upd =
      .next (s.setElem s.cur.elem
        ((fireOf s t).finish (upd (fireOf s t)) (eff (fireOf s t) ((s.elem s.cur.elem).popAll (popsOf srcs))))) := by
  unfold fireElem
  rw [fire_completes _ _ _ _ _ _ _ _ _ hb (srcTrap_none _ hs) ho]
  rfl

end Sys2Proof.Machine
end

