-- ==== Sys2Proof/Laws/Exec.lean ====
section
/-!
SUPPORT. One lemma per instruction: what `exec` calls for it, so that no proof unfolds the dispatch.
-/

set_option Elab.async false

namespace Sys2Proof.Machine

@[simp] theorem exec_powerUp (s : State) : exec .powerUp s = execPowerUp s := rfl
@[simp] theorem exec_boot (die : Nat) (s : State) : exec (.boot die) s = execBoot die s := rfl
@[simp] theorem exec_bootVerifyEnd (s : State) : exec .bootVerifyEnd s = execBootVerifyEnd s := rfl
@[simp] theorem exec_setPoint (die : Nat) (s : State) : exec (.setPoint die) s = execSetPoint die s := rfl
@[simp] theorem exec_invalidate (die : Nat) (s : State) : exec (.invalidate die) s = execInvalidate die s := rfl
@[simp] theorem exec_bindWindow (die : Nat) (s : State) : exec (.bindWindow die) s = execBindWindow die s := rfl
@[simp] theorem exec_context (die : Nat) (s : State) : exec (.context die) s = execContext die s := rfl
@[simp] theorem exec_spaceTable (die : Nat) (s : State) : exec (.spaceTable die) s = execSpaceTable die s := rfl
@[simp] theorem exec_translationQueue (die : Nat) (s : State) : exec (.translationQueue die) s = execTranslationQueue die s := rfl
@[simp] theorem exec_reuseStore (die : Nat) (s : State) : exec (.reuseStore die) s = execReuseStore die s := rfl
@[simp] theorem exec_reuseQuota (die : Nat) (s : State) : exec (.reuseQuota die) s = execReuseQuota die s := rfl
@[simp] theorem exec_reuseFlush (die : Nat) (s : State) : exec (.reuseFlush die) s = execReuseFlush die s := rfl
@[simp] theorem exec_save (die : Nat) (s : State) : exec (.save die) s = execSave die s := rfl
@[simp] theorem exec_purge (die : Nat) (s : State) : exec (.purge die) s = execPurge die s := rfl
@[simp] theorem exec_inject (die : Nat) (s : State) : exec (.inject die) s = execInject die s := rfl
@[simp] theorem exec_monitor (die : Nat) (s : State) : exec (.monitor die) s = execMonitor die s := rfl
@[simp] theorem exec_attest (die : Nat) (s : State) : exec (.attest die) s = execAttest die s := rfl
@[simp] theorem exec_identityKey (die : Nat) (s : State) : exec (.identityKey die) s = execIdentityKey die s := rfl
@[simp] theorem exec_threshold (die : Nat) (s : State) : exec (.threshold die) s = execThreshold die s := rfl
@[simp] theorem exec_clearErrors (die : Nat) (s : State) : exec (.clearErrors die) s = execClearErrors die s := rfl
@[simp] theorem exec_retrain (die : Nat) (s : State) : exec (.retrain die) s = execRetrain die s := rfl
@[simp] theorem exec_channelTable (die : Nat) (s : State) : exec (.channelTable die) s = execChannelTable die s := rfl
@[simp] theorem exec_commandDone (die : Nat) (s : State) : exec (.commandDone die) s = execCommandDone die s := rfl
@[simp] theorem exec_translationDoorbell (die : Nat) (s : State) :
    exec (.translationDoorbell die) s = execTranslationDoorbell die s := rfl
@[simp] theorem exec_notificationClear (die : Nat) (ntf : BitVec 5) (isl : BitVec 16) (s : State) :
    exec (.notificationClear die ntf isl) s = execNotificationClear die ntf isl s := rfl
@[simp] theorem exec_managementWrite (die : Nat) (off : Nat) (value : Byte) (s : State) :
    exec (.managementWrite die off value) s = execManagementWrite die off value s := rfl
@[simp] theorem exec_launchWordStore (die : Nat) (value : BitVec 64) (s : State) :
    exec (.launchWordStore die value) s = execLaunchWordStore die value s := rfl
@[simp] theorem exec_launchCapture (die : Nat) (req : Option Nat) (s : State) :
    exec (.launchCapture die req) s = execLaunchCapture die req s := rfl
@[simp] theorem exec_linkLost (port : Nat) (s : State) : exec (.linkLost port) s = execLinkLost port s := rfl
@[simp] theorem exec_correctedError (island : Nat) (s : State) :
    exec (.correctedError island) s = execCorrectedError island s := rfl
@[simp] theorem exec_structureError (code : Nat) (place : ElemId) (index : Nat) (s : State) :
    exec (.structureError code place index) s = execStructureError code place index s := rfl
@[simp] theorem exec_mElementSoftError (elem : ElemId) (what : Nat) (index : Nat) (flip : BitVec 64) (s : State) :
    exec (.mElementSoftError elem what index flip) s = execMElementSoftError elem what index flip s := rfl
@[simp] theorem exec_schedulerCycle (s : State) : exec .schedulerCycle s = execSchedulerCycle s := rfl
@[simp] theorem exec_reuseHit (acc : Nat) (s : State) : exec (.reuseHit acc) s = execReuseHit acc s := rfl
@[simp] theorem exec_imageRejected (region : Nat) (s : State) : exec (.imageRejected region) s = execImageRejected region s := rfl
@[simp] theorem exec_loadTakesEffect (region : Nat) (s : State) :
    exec (.loadTakesEffect region) s = execLoadTakesEffect region s := rfl
@[simp] theorem exec_regionIdle (region : Nat) (s : State) : exec (.regionIdle region) s = execRegionIdle region s := rfl
@[simp] theorem exec_reuseInsertion (region : Nat) (s : State) :
    exec (.reuseInsertion region) s = execReuseInsertion region s := rfl
@[simp] theorem exec_foldDrained (region : Nat) (s : State) : exec (.foldDrained region) s = execFoldDrained region s := rfl
@[simp] theorem exec_foldAbandon (region : Nat) (s : State) : exec (.foldAbandon region) s = execFoldAbandon region s := rfl
@[simp] theorem exec_saveWritten (region : Nat) (s : State) : exec (.saveWritten region) s = execSaveWritten region s := rfl
@[simp] theorem exec_restoreWritten (region : Nat) (s : State) :
    exec (.restoreWritten region) s = execRestoreWritten region s := rfl
@[simp] theorem exec_switchRequestArrival (elem : ElemId) (s : State) :
    exec (.switchRequestArrival elem) s = execSwitchRequestArrival elem s := rfl
@[simp] theorem exec_switchStatusArrival (elem : ElemId) (s : State) :
    exec (.switchStatusArrival elem) s = execSwitchStatusArrival elem s := rfl
@[simp] theorem exec_regionDrained (region : Nat) (s : State) : exec (.regionDrained region) s = execRegionDrained region s := rfl
@[simp] theorem exec_settlingEnd (region : Nat) (s : State) : exec (.settlingEnd region) s = execSettlingEnd region s := rfl
@[simp] theorem exec_switchDrainTimeout (region : Nat) (s : State) :
    exec (.switchDrainTimeout region) s = execSwitchDrainTimeout region s := rfl
@[simp] theorem exec_stageDry (region : Nat) (s : State) : exec (.stageDry region) s = execStageDry region s := rfl
@[simp] theorem exec_stillness (region : Nat) (s : State) : exec (.stillness region) s = execStillness region s := rfl
@[simp] theorem exec_switchCycle (elem : ElemId) (s : State) : exec (.switchCycle elem) s = execSwitchCycle elem s := rfl
@[simp] theorem exec_spillRecordOffer (elem : ElemId) (s : State) :
    exec (.spillRecordOffer elem) s = execSpillRecordOffer elem s := rfl
@[simp] theorem exec_spillEnd (elem : ElemId) (bank : BitVec 2) (s : State) :
    exec (.spillEnd elem bank) s = execSpillEnd elem bank s := rfl
@[simp] theorem exec_reinstatementStart (elem : ElemId) (rec : Nat) (s : State) :
    exec (.reinstatementStart elem rec) s = execReinstatementStart elem rec s := rfl
@[simp] theorem exec_reinstatementEnd (elem : ElemId) (rec : Nat) (s : State) :
    exec (.reinstatementEnd elem rec) s = execReinstatementEnd elem rec s := rfl
@[simp] theorem exec_neighbourTransfer (elem : ElemId) (dir : BitVec 2) (s : State) :
    exec (.neighbourTransfer elem dir) s = execNeighbourTransfer elem dir s := rfl
@[simp] theorem exec_routeClassEntry (elem : ElemId) (s : State) :
    exec (.routeClassEntry elem) s = execRouteClassEntry elem s := rfl
@[simp] theorem exec_tokenDelivery (tile : TileId) (cls : BitVec 6) (s : State) :
    exec (.tokenDelivery tile cls) s = execTokenDelivery tile cls s := rfl
@[simp] theorem exec_gatewayReject (tile : TileId) (cls : BitVec 6) (s : State) :
    exec (.gatewayReject tile cls) s = execGatewayReject tile cls s := rfl
@[simp] theorem exec_controlTokenArrival (elem : ElemId) (chan : BitVec 4) (s : State) :
    exec (.controlTokenArrival elem chan) s = execControlTokenArrival elem chan s := rfl
@[simp] theorem exec_loopLevelChange (elem : ElemId) (s : State) :
    exec (.loopLevelChange elem) s = execLoopLevelChange elem s := rfl
@[simp] theorem exec_releaseSend (req : Nat) (s : State) : exec (.releaseSend req) s = execReleaseSend req s := rfl
@[simp] theorem exec_translationLookup (req : Nat) (useTlb : Bool) (s : State) :
    exec (.translationLookup req useTlb) s = execTranslationLookup req useTlb s := rfl
@[simp] theorem exec_homeAccess (req : Nat) (part : Nat) (s : State) :
    exec (.homeAccess req part) s = execHomeAccess req part s := rfl
@[simp] theorem exec_responseArrival (req : Nat) (s : State) : exec (.responseArrival req) s = execResponseArrival req s := rfl
@[simp] theorem exec_ioMessageAvailable (queue : Nat) (msg : List Byte) (s : State) :
    exec (.ioMessageAvailable queue msg) s = execIoMessageAvailable queue msg s := rfl
@[simp] theorem exec_ioreadCompletion (req : Nat) (s : State) : exec (.ioreadCompletion req) s = execIoreadCompletion req s := rfl
@[simp] theorem exec_sealMark (req : Nat) (s : State) : exec (.sealMark req) s = execSealMark req s := rfl
@[simp] theorem exec_sealHashEnd (die : Nat) (s : State) : exec (.sealHashEnd die) s = execSealHashEnd die s := rfl
@[simp] theorem exec_rangeUnitRequest (req : Nat) (s : State) : exec (.rangeUnitRequest req) s = execRangeUnitRequest req s := rfl
@[simp] theorem exec_hashEngineRequest (req : Nat) (s : State) :
    exec (.hashEngineRequest req) s = execHashEngineRequest req s := rfl
@[simp] theorem exec_frameRequest (req : Nat) (s : State) : exec (.frameRequest req) s = execFrameRequest req s := rfl
@[simp] theorem exec_frameEmit (elem : ElemId) (s : State) : exec (.frameEmit elem) s = execFrameEmit elem s := rfl
@[simp] theorem exec_streamStart (tile : TileId) (port : BitVec 4) (s : State) :
    exec (.streamStart tile port) s = execStreamStart tile port s := rfl
@[simp] theorem exec_streamToken (tile : TileId) (port : BitVec 4) (s : State) :
    exec (.streamToken tile port) s = execStreamToken tile port s := rfl
@[simp] theorem exec_streamComplete (tile : TileId) (port : BitVec 4) (s : State) :
    exec (.streamComplete tile port) s = execStreamComplete tile port s := rfl
@[simp] theorem exec_copyCapture (elem : ElemId) (sb : BitVec 3) (s : State) :
    exec (.copyCapture elem sb) s = execCopyCapture elem sb s := rfl
@[simp] theorem exec_copyChunk (elem : ElemId) (sb : BitVec 3) (s : State) :
    exec (.copyChunk elem sb) s = execCopyChunk elem sb s := rfl
@[simp] theorem exec_copyComplete (elem : ElemId) (sb : BitVec 3) (s : State) :
    exec (.copyComplete elem sb) s = execCopyComplete elem sb s := rfl
@[simp] theorem exec_rmwApply (req : Nat) (s : State) : exec (.rmwApply req) s = execRmwApply req s := rfl
@[simp] theorem exec_intakeBurst (elem : ElemId) (s : State) : exec (.intakeBurst elem) s = execIntakeBurst elem s := rfl
@[simp] theorem exec_accumulatorWrite (elem : ElemId) (s : State) :
    exec (.accumulatorWrite elem) s = execAccumulatorWrite elem s := rfl
@[simp] theorem exec_drainToken (elem : ElemId) (s : State) : exec (.drainToken elem) s = execDrainToken elem s := rfl
@[simp] theorem exec_thresholdMask (elem : ElemId) (s : State) : exec (.thresholdMask elem) s = execThresholdMask elem s := rfl
@[simp] theorem exec_pageScore (elem : ElemId) (sb : BitVec 3) (s : State) :
    exec (.pageScore elem sb) s = execPageScore elem sb s := rfl
@[simp] theorem exec_pageListWrite (elem : ElemId) (sb : BitVec 3) (s : State) :
    exec (.pageListWrite elem sb) s = execPageListWrite elem sb s := rfl
@[simp] theorem exec_pageStartHandover (elem : ElemId) (sb : BitVec 3) (s : State) :
    exec (.pageStartHandover elem sb) s = execPageStartHandover elem sb s := rfl
@[simp] theorem exec_quarterAccept (tile : TileId) (q : BitVec 2) (s : State) :
    exec (.quarterAccept tile q) s = execQuarterAccept tile q s := rfl
@[simp] theorem exec_fifoEmit (tile : TileId) (q : BitVec 2) (s : State) :
    exec (.fifoEmit tile q) s = execFifoEmit tile q s := rfl
@[simp] theorem exec_lineBufferEmit (tile : TileId) (q : BitVec 2) (s : State) :
    exec (.lineBufferEmit tile q) s = execLineBufferEmit tile q s := rfl
@[simp] theorem exec_tileStoreWrite (tile : TileId) (q : BitVec 2) (s : State) :
    exec (.tileStoreWrite tile q) s = execTileStoreWrite tile q s := rfl
@[simp] theorem exec_tileStoreRead (tile : TileId) (q : BitVec 2) (s : State) :
    exec (.tileStoreRead tile q) s = execTileStoreRead tile q s := rfl
@[simp] theorem exec_retireHead (region : Nat) (s : State) : exec (.retireHead region) s = execRetireHead region s := rfl
@[simp] theorem exec_faultTaken (region : Nat) (s : State) : exec (.faultTaken region) s = execFaultTaken region s := rfl
@[simp] theorem exec_handlerEntry (region : Nat) (s : State) : exec (.handlerEntry region) s = execHandlerEntry region s := rfl
@[simp] theorem exec_handlerExit (region : Nat) (s : State) : exec (.handlerExit region) s = execHandlerExit region s := rfl
@[simp] theorem exec_purgeMarking (die : Nat) (s : State) : exec (.purgeMarking die) s = execPurgeMarking die s := rfl
@[simp] theorem exec_purgeSweepDone (die : Nat) (s : State) : exec (.purgeSweepDone die) s = execPurgeSweepDone die s := rfl
@[simp] theorem exec_purgeRecording (die : Nat) (s : State) : exec (.purgeRecording die) s = execPurgeRecording die s := rfl
@[simp] theorem exec_exitCompare (req0 : Nat) (req1 : Nat) (s : State) :
    exec (.exitCompare req0 req1) s = execExitCompare req0 req1 s := rfl
@[simp] theorem exec_twinPartnerTimeout (req : Nat) (s : State) :
    exec (.twinPartnerTimeout req) s = execTwinPartnerTimeout req s := rfl
@[simp] theorem exec_nop (t : BitVec 6) (s : State) : exec (.nop t) s = execNop t s := rfl
@[simp] theorem exec_sete (t : BitVec 6) (a : BitVec 5) (s : State) : exec (.sete t a) s = execSete t a s := rfl
@[simp] theorem exec_clre (t : BitVec 6) (a : BitVec 5) (s : State) : exec (.clre t a) s = execClre t a s := rfl
@[simp] theorem exec_fwd (t : BitVec 6) (d : BitVec 5) (a : BitVec 5) (s : State) : exec (.fwd t d a) s = execFwd t d a s := rfl
@[simp] theorem exec_fwdT (t : BitVec 6) (d : BitVec 5) (a : BitVec 5) (s : State) :
    exec (.fwdT t d a) s = execFwdT t d a s := rfl
@[simp] theorem exec_deq (t : BitVec 6) (a : BitVec 5) (s : State) : exec (.deq t a) s = execDeq t a s := rfl
@[simp] theorem exec_selQn (t : BitVec 6) (d : BitVec 5) (a : BitVec 5) (b : BitVec 5) (n : BitVec 3) (s : State) :
    exec (.selQn t d a b n) s = execSelQn t d a b n s := rfl
@[simp] theorem exec_cfgsw (t : BitVec 6) (d : BitVec 5) (a : BitVec 5) (s : State) :
    exec (.cfgsw t d a) s = execCfgsw t d a s := rfl
@[simp] theorem exec_cfgswCc (t : BitVec 6) (d : BitVec 5) (c : BitVec 2) (s : State) :
    exec (.cfgswCc t d c) s = execCfgswCc t d c s := rfl
@[simp] theorem exec_ctok (t : BitVec 6) (b : BitVec 5) (s : State) : exec (.ctok t b) s = execCtok t b s := rfl
@[simp] theorem exec_cwait (t : BitVec 6) (b : BitVec 5) (s : State) : exec (.cwait t b) s = execCwait t b s := rfl
@[simp] theorem exec_mov (t : BitVec 6) (d : BitVec 5) (a : BitVec 5) (s : State) : exec (.mov t d a) s = execMov t d a s := rfl
@[simp] theorem exec_movp (t : BitVec 6) (d : BitVec 5) (a : BitVec 5) (s : State) :
    exec (.movp t d a) s = execMovp t d a s := rfl
@[simp] theorem exec_mvse (t : BitVec 6) (d : BitVec 5) (s : State) : exec (.mvse t d) s = execMvse t d s := rfl
@[simp] theorem exec_mvsb (t : BitVec 6) (d : BitVec 5) (a : BitVec 5) (s : State) :
    exec (.mvsb t d a) s = execMvsb t d a s := rfl
@[simp] theorem exec_movi (t : BitVec 6) (d : BitVec 5) (imm : BitVec 10) (s : State) :
    exec (.movi t d imm) s = execMovi t d imm s := rfl
@[simp] theorem exec_movl (t : BitVec 6) (d : BitVec 5) (imm : BitVec 15) (s : State) :
    exec (.movl t d imm) s = execMovl t d imm s := rfl
@[simp] theorem exec_add (t : BitVec 6) (d : BitVec 5) (a : BitVec 5) (b : BitVec 5) (s : State) :
    exec (.add t d a b) s = execAdd t d a b s := rfl
@[simp] theorem exec_sub (t : BitVec 6) (d : BitVec 5) (a : BitVec 5) (b : BitVec 5) (s : State) :
    exec (.sub t d a b) s = execSub t d a b s := rfl
@[simp] theorem exec_addsS32 (t : BitVec 6) (d : BitVec 5) (a : BitVec 5) (b : BitVec 5) (s : State) :
    exec (.addsS32 t d a b) s = execAddsS32 t d a b s := rfl
@[simp] theorem exec_addsN32 (t : BitVec 6) (d : BitVec 5) (a : BitVec 5) (b : BitVec 5) (s : State) :
    exec (.addsN32 t d a b) s = execAddsN32 t d a b s := rfl
@[simp] theorem exec_subsS32 (t : BitVec 6) (d : BitVec 5) (a : BitVec 5) (b : BitVec 5) (s : State) :
    exec (.subsS32 t d a b) s = execSubsS32 t d a b s := rfl
@[simp] theorem exec_subsN32 (t : BitVec 6) (d : BitVec 5) (a : BitVec 5) (b : BitVec 5) (s : State) :
    exec (.subsN32 t d a b) s = execSubsN32 t d a b s := rfl
@[simp] theorem exec_and (t : BitVec 6) (d : BitVec 5) (a : BitVec 5) (b : BitVec 5) (s : State) :
    exec (.and t d a b) s = execAnd t d a b s := rfl
@[simp] theorem exec_or (t : BitVec 6) (d : BitVec 5) (a : BitVec 5) (b : BitVec 5) (s : State) :
    exec (.or t d a b) s = execOr t d a b s := rfl
@[simp] theorem exec_xor (t : BitVec 6) (d : BitVec 5) (a : BitVec 5) (b : BitVec 5) (s : State) :
    exec (.xor t d a b) s = execXor t d a b s := rfl
@[simp] theorem exec_andn (t : BitVec 6) (d : BitVec 5) (a : BitVec 5) (b : BitVec 5) (s : State) :
    exec (.andn t d a b) s = execAndn t d a b s := rfl
@[simp] theorem exec_shl (t : BitVec 6) (d : BitVec 5) (a : BitVec 5) (b : BitVec 5) (s : State) :
    exec (.shl t d a b) s = execShl t d a b s := rfl
@[simp] theorem exec_shr (t : BitVec 6) (d : BitVec 5) (a : BitVec 5) (b : BitVec 5) (s : State) :
    exec (.shr t d a b) s = execShr t d a b s := rfl
@[simp] theorem exec_sra (t : BitVec 6) (d : BitVec 5) (a : BitVec 5) (b : BitVec 5) (s : State) :
    exec (.sra t d a b) s = execSra t d a b s := rfl
@[simp] theorem exec_rotl (t : BitVec 6) (d : BitVec 5) (a : BitVec 5) (b : BitVec 5) (s : State) :
    exec (.rotl t d a b) s = execRotl t d a b s := rfl
@[simp] theorem exec_minS32 (t : BitVec 6) (d : BitVec 5) (a : BitVec 5) (b : BitVec 5) (s : State) :
    exec (.minS32 t d a b) s = execMinS32 t d a b s := rfl
@[simp] theorem exec_minN32 (t : BitVec 6) (d : BitVec 5) (a : BitVec 5) (b : BitVec 5) (s : State) :
    exec (.minN32 t d a b) s = execMinN32 t d a b s := rfl
@[simp] theorem exec_maxS32 (t : BitVec 6) (d : BitVec 5) (a : BitVec 5) (b : BitVec 5) (s : State) :
    exec (.maxS32 t d a b) s = execMaxS32 t d a b s := rfl
@[simp] theorem exec_maxN32 (t : BitVec 6) (d : BitVec 5) (a : BitVec 5) (b : BitVec 5) (s : State) :
    exec (.maxN32 t d a b) s = execMaxN32 t d a b s := rfl
@[simp] theorem exec_absS32 (t : BitVec 6) (d : BitVec 5) (a : BitVec 5) (s : State) :
    exec (.absS32 t d a) s = execAbsS32 t d a s := rfl
@[simp] theorem exec_neg (t : BitVec 6) (d : BitVec 5) (a : BitVec 5) (s : State) : exec (.neg t d a) s = execNeg t d a s := rfl
@[simp] theorem exec_not (t : BitVec 6) (d : BitVec 5) (a : BitVec 5) (s : State) : exec (.not t d a) s = execNot t d a s := rfl
@[simp] theorem exec_addi (t : BitVec 6) (d : BitVec 5) (a : BitVec 5) (imm : BitVec 10) (s : State) :
    exec (.addi t d a imm) s = execAddi t d a imm s := rfl
@[simp] theorem exec_andi (t : BitVec 6) (d : BitVec 5) (a : BitVec 5) (imm : BitVec 10) (s : State) :
    exec (.andi t d a imm) s = execAndi t d a imm s := rfl
@[simp] theorem exec_mul (t : BitVec 6) (d : BitVec 5) (a : BitVec 5) (b : BitVec 5) (s : State) :
    exec (.mul t d a b) s = execMul t d a b s := rfl
@[simp] theorem exec_mulhS32 (t : BitVec 6) (d : BitVec 5) (a : BitVec 5) (b : BitVec 5) (s : State) :
    exec (.mulhS32 t d a b) s = execMulhS32 t d a b s := rfl
@[simp] theorem exec_mulhN32 (t : BitVec 6) (d : BitVec 5) (a : BitVec 5) (b : BitVec 5) (s : State) :
    exec (.mulhN32 t d a b) s = execMulhN32 t d a b s := rfl
@[simp] theorem exec_mulwS16 (t : BitVec 6) (d : BitVec 5) (a : BitVec 5) (b : BitVec 5) (s : State) :
    exec (.mulwS16 t d a b) s = execMulwS16 t d a b s := rfl
@[simp] theorem exec_mulwN16 (t : BitVec 6) (d : BitVec 5) (a : BitVec 5) (b : BitVec 5) (s : State) :
    exec (.mulwN16 t d a b) s = execMulwN16 t d a b s := rfl
@[simp] theorem exec_ceq (t : BitVec 6) (d : BitVec 5) (a : BitVec 5) (b : BitVec 5) (s : State) :
    exec (.ceq t d a b) s = execCeq t d a b s := rfl
@[simp] theorem exec_cne (t : BitVec 6) (d : BitVec 5) (a : BitVec 5) (b : BitVec 5) (s : State) :
    exec (.cne t d a b) s = execCne t d a b s := rfl
@[simp] theorem exec_cltS32 (t : BitVec 6) (d : BitVec 5) (a : BitVec 5) (b : BitVec 5) (s : State) :
    exec (.cltS32 t d a b) s = execCltS32 t d a b s := rfl
@[simp] theorem exec_cleS32 (t : BitVec 6) (d : BitVec 5) (a : BitVec 5) (b : BitVec 5) (s : State) :
    exec (.cleS32 t d a b) s = execCleS32 t d a b s := rfl
@[simp] theorem exec_cgtS32 (t : BitVec 6) (d : BitVec 5) (a : BitVec 5) (b : BitVec 5) (s : State) :
    exec (.cgtS32 t d a b) s = execCgtS32 t d a b s := rfl
@[simp] theorem exec_cgeS32 (t : BitVec 6) (d : BitVec 5) (a : BitVec 5) (b : BitVec 5) (s : State) :
    exec (.cgeS32 t d a b) s = execCgeS32 t d a b s := rfl
@[simp] theorem exec_cltN32 (t : BitVec 6) (d : BitVec 5) (a : BitVec 5) (b : BitVec 5) (s : State) :
    exec (.cltN32 t d a b) s = execCltN32 t d a b s := rfl
@[simp] theorem exec_cleN32 (t : BitVec 6) (d : BitVec 5) (a : BitVec 5) (b : BitVec 5) (s : State) :
    exec (.cleN32 t d a b) s = execCleN32 t d a b s := rfl
@[simp] theorem exec_cgtN32 (t : BitVec 6) (d : BitVec 5) (a : BitVec 5) (b : BitVec 5) (s : State) :
    exec (.cgtN32 t d a b) s = execCgtN32 t d a b s := rfl
@[simp] theorem exec_cgeN32 (t : BitVec 6) (d : BitVec 5) (a : BitVec 5) (b : BitVec 5) (s : State) :
    exec (.cgeN32 t d a b) s = execCgeN32 t d a b s := rfl
@[simp] theorem exec_pand (t : BitVec 6) (d : BitVec 5) (a : BitVec 5) (b : BitVec 5) (s : State) :
    exec (.pand t d a b) s = execPand t d a b s := rfl
@[simp] theorem exec_por (t : BitVec 6) (d : BitVec 5) (a : BitVec 5) (b : BitVec 5) (s : State) :
    exec (.por t d a b) s = execPor t d a b s := rfl
@[simp] theorem exec_pxor (t : BitVec 6) (d : BitVec 5) (a : BitVec 5) (b : BitVec 5) (s : State) :
    exec (.pxor t d a b) s = execPxor t d a b s := rfl
@[simp] theorem exec_pandn (t : BitVec 6) (d : BitVec 5) (a : BitVec 5) (b : BitVec 5) (s : State) :
    exec (.pandn t d a b) s = execPandn t d a b s := rfl
@[simp] theorem exec_pnot (t : BitVec 6) (d : BitVec 5) (a : BitVec 5) (s : State) :
    exec (.pnot t d a) s = execPnot t d a s := rfl
@[simp] theorem exec_pany (t : BitVec 6) (d : BitVec 5) (a : BitVec 5) (s : State) :
    exec (.pany t d a) s = execPany t d a s := rfl
@[simp] theorem exec_pall (t : BitVec 6) (d : BitVec 5) (a : BitVec 5) (s : State) :
    exec (.pall t d a) s = execPall t d a s := rfl
@[simp] theorem exec_bcast (t : BitVec 6) (d : BitVec 5) (a : BitVec 5) (b : BitVec 5) (s : State) :
    exec (.bcast t d a b) s = execBcast t d a b s := rfl
@[simp] theorem exec_perm (t : BitVec 6) (d : BitVec 5) (a : BitVec 5) (b : BitVec 5) (s : State) :
    exec (.perm t d a b) s = execPerm t d a b s := rfl
@[simp] theorem exec_lrot (t : BitVec 6) (d : BitVec 5) (a : BitVec 5) (b : BitVec 5) (s : State) :
    exec (.lrot t d a b) s = execLrot t d a b s := rfl
@[simp] theorem exec_lshd (t : BitVec 6) (d : BitVec 5) (a : BitVec 5) (b : BitVec 5) (s : State) :
    exec (.lshd t d a b) s = execLshd t d a b s := rfl
@[simp] theorem exec_pack (t : BitVec 6) (d : BitVec 5) (a : BitVec 5) (s : State) :
    exec (.pack t d a) s = execPack t d a s := rfl
@[simp] theorem exec_cset (t : BitVec 6) (d : BitVec 5) (a : BitVec 5) (s : State) :
    exec (.cset t d a) s = execCset t d a s := rfl
@[simp] theorem exec_cstep (t : BitVec 6) (d : BitVec 5) (b : BitVec 5) (s : State) :
    exec (.cstep t d b) s = execCstep t d b s := rfl
@[simp] theorem exec_crd (t : BitVec 6) (d : BitVec 5) (s : State) : exec (.crd t d) s = execCrd t d s := rfl
@[simp] theorem exec_popc (t : BitVec 6) (d : BitVec 5) (a : BitVec 5) (s : State) :
    exec (.popc t d a) s = execPopc t d a s := rfl
@[simp] theorem exec_clz (t : BitVec 6) (d : BitVec 5) (a : BitVec 5) (s : State) : exec (.clz t d a) s = execClz t d a s := rfl
@[simp] theorem exec_ctz (t : BitVec 6) (d : BitVec 5) (a : BitVec 5) (s : State) : exec (.ctz t d a) s = execCtz t d a s := rfl
@[simp] theorem exec_brev (t : BitVec 6) (d : BitVec 5) (a : BitVec 5) (s : State) :
    exec (.brev t d a) s = execBrev t d a s := rfl
@[simp] theorem exec_bswap (t : BitVec 6) (d : BitVec 5) (a : BitVec 5) (s : State) :
    exec (.bswap t d a) s = execBswap t d a s := rfl
@[simp] theorem exec_bfxN32 (t : BitVec 6) (d : BitVec 5) (a : BitVec 5) (b : BitVec 5) (s : State) :
    exec (.bfxN32 t d a b) s = execBfxN32 t d a b s := rfl
@[simp] theorem exec_bfxS32 (t : BitVec 6) (d : BitVec 5) (a : BitVec 5) (b : BitVec 5) (s : State) :
    exec (.bfxS32 t d a b) s = execBfxS32 t d a b s := rfl
@[simp] theorem exec_faddF32 (t : BitVec 6) (d : BitVec 5) (a : BitVec 5) (b : BitVec 5) (r : BitVec 2) (s : State) :
    exec (.faddF32 t d a b r) s = execFaddF32 t d a b r s := rfl
@[simp] theorem exec_fsubF32 (t : BitVec 6) (d : BitVec 5) (a : BitVec 5) (b : BitVec 5) (r : BitVec 2) (s : State) :
    exec (.fsubF32 t d a b r) s = execFsubF32 t d a b r s := rfl
@[simp] theorem exec_fmulF32 (t : BitVec 6) (d : BitVec 5) (a : BitVec 5) (b : BitVec 5) (r : BitVec 2) (s : State) :
    exec (.fmulF32 t d a b r) s = execFmulF32 t d a b r s := rfl
@[simp] theorem exec_fdivF32 (t : BitVec 6) (d : BitVec 5) (a : BitVec 5) (b : BitVec 5) (r : BitVec 2) (s : State) :
    exec (.fdivF32 t d a b r) s = execFdivF32 t d a b r s := rfl
@[simp] theorem exec_fsqrtF32 (t : BitVec 6) (d : BitVec 5) (a : BitVec 5) (r : BitVec 2) (s : State) :
    exec (.fsqrtF32 t d a r) s = execFsqrtF32 t d a r s := rfl
@[simp] theorem exec_ffmaF32 (t : BitVec 6) (d : BitVec 5) (a : BitVec 5) (b : BitVec 5) (r : BitVec 2) (s : State) :
    exec (.ffmaF32 t d a b r) s = execFfmaF32 t d a b r s := rfl
@[simp] theorem exec_ffmsF32 (t : BitVec 6) (d : BitVec 5) (a : BitVec 5) (b : BitVec 5) (r : BitVec 2) (s : State) :
    exec (.ffmsF32 t d a b r) s = execFfmsF32 t d a b r s := rfl
@[simp] theorem exec_ffnmaF32 (t : BitVec 6) (d : BitVec 5) (a : BitVec 5) (b : BitVec 5) (r : BitVec 2) (s : State) :
    exec (.ffnmaF32 t d a b r) s = execFfnmaF32 t d a b r s := rfl
@[simp] theorem exec_ffnmsF32 (t : BitVec 6) (d : BitVec 5) (a : BitVec 5) (b : BitVec 5) (r : BitVec 2) (s : State) :
    exec (.ffnmsF32 t d a b r) s = execFfnmsF32 t d a b r s := rfl
@[simp] theorem exec_fminF32 (t : BitVec 6) (d : BitVec 5) (a : BitVec 5) (b : BitVec 5) (s : State) :
    exec (.fminF32 t d a b) s = execFminF32 t d a b s := rfl
@[simp] theorem exec_fmaxF32 (t : BitVec 6) (d : BitVec 5) (a : BitVec 5) (b : BitVec 5) (s : State) :
    exec (.fmaxF32 t d a b) s = execFmaxF32 t d a b s := rfl
@[simp] theorem exec_fabsF32 (t : BitVec 6) (d : BitVec 5) (a : BitVec 5) (s : State) :
    exec (.fabsF32 t d a) s = execFabsF32 t d a s := rfl
@[simp] theorem exec_fnegF32 (t : BitVec 6) (d : BitVec 5) (a : BitVec 5) (s : State) :
    exec (.fnegF32 t d a) s = execFnegF32 t d a s := rfl
@[simp] theorem exec_fsgnF32 (t : BitVec 6) (d : BitVec 5) (a : BitVec 5) (b : BitVec 5) (s : State) :
    exec (.fsgnF32 t d a b) s = execFsgnF32 t d a b s := rfl
@[simp] theorem exec_fminBf16x2 (t : BitVec 6) (d : BitVec 5) (a : BitVec 5) (b : BitVec 5) (s : State) :
    exec (.fminBf16x2 t d a b) s = execFminBf16x2 t d a b s := rfl
@[simp] theorem exec_fmaxBf16x2 (t : BitVec 6) (d : BitVec 5) (a : BitVec 5) (b : BitVec 5) (s : State) :
    exec (.fmaxBf16x2 t d a b) s = execFmaxBf16x2 t d a b s := rfl
@[simp] theorem exec_fminF16x2 (t : BitVec 6) (d : BitVec 5) (a : BitVec 5) (b : BitVec 5) (s : State) :
    exec (.fminF16x2 t d a b) s = execFminF16x2 t d a b s := rfl
@[simp] theorem exec_fmaxF16x2 (t : BitVec 6) (d : BitVec 5) (a : BitVec 5) (b : BitVec 5) (s : State) :
    exec (.fmaxF16x2 t d a b) s = execFmaxF16x2 t d a b s := rfl
@[simp] theorem exec_fabsBf16x2 (t : BitVec 6) (d : BitVec 5) (a : BitVec 5) (s : State) :
    exec (.fabsBf16x2 t d a) s = execFabsBf16x2 t d a s := rfl
@[simp] theorem exec_fnegBf16x2 (t : BitVec 6) (d : BitVec 5) (a : BitVec 5) (s : State) :
    exec (.fnegBf16x2 t d a) s = execFnegBf16x2 t d a s := rfl
@[simp] theorem exec_fsgnBf16x2 (t : BitVec 6) (d : BitVec 5) (a : BitVec 5) (b : BitVec 5) (s : State) :
    exec (.fsgnBf16x2 t d a b) s = execFsgnBf16x2 t d a b s := rfl
@[simp] theorem exec_fabsF16x2 (t : BitVec 6) (d : BitVec 5) (a : BitVec 5) (s : State) :
    exec (.fabsF16x2 t d a) s = execFabsF16x2 t d a s := rfl
@[simp] theorem exec_fnegF16x2 (t : BitVec 6) (d : BitVec 5) (a : BitVec 5) (s : State) :
    exec (.fnegF16x2 t d a) s = execFnegF16x2 t d a s := rfl
@[simp] theorem exec_fsgnF16x2 (t : BitVec 6) (d : BitVec 5) (a : BitVec 5) (b : BitVec 5) (s : State) :
    exec (.fsgnF16x2 t d a b) s = execFsgnF16x2 t d a b s := rfl
@[simp] theorem exec_faddBf16x2 (t : BitVec 6) (d : BitVec 5) (a : BitVec 5) (b : BitVec 5) (r : BitVec 2) (s : State) :
    exec (.faddBf16x2 t d a b r) s = execFaddBf16x2 t d a b r s := rfl
@[simp] theorem exec_fsubBf16x2 (t : BitVec 6) (d : BitVec 5) (a : BitVec 5) (b : BitVec 5) (r : BitVec 2) (s : State) :
    exec (.fsubBf16x2 t d a b r) s = execFsubBf16x2 t d a b r s := rfl
@[simp] theorem exec_fmulBf16x2 (t : BitVec 6) (d : BitVec 5) (a : BitVec 5) (b : BitVec 5) (r : BitVec 2) (s : State) :
    exec (.fmulBf16x2 t d a b r) s = execFmulBf16x2 t d a b r s := rfl
@[simp] theorem exec_ffmaBf16x2 (t : BitVec 6) (d : BitVec 5) (a : BitVec 5) (b : BitVec 5) (r : BitVec 2) (s : State) :
    exec (.ffmaBf16x2 t d a b r) s = execFfmaBf16x2 t d a b r s := rfl
@[simp] theorem exec_faddF16x2 (t : BitVec 6) (d : BitVec 5) (a : BitVec 5) (b : BitVec 5) (r : BitVec 2) (s : State) :
    exec (.faddF16x2 t d a b r) s = execFaddF16x2 t d a b r s := rfl
@[simp] theorem exec_fsubF16x2 (t : BitVec 6) (d : BitVec 5) (a : BitVec 5) (b : BitVec 5) (r : BitVec 2) (s : State) :
    exec (.fsubF16x2 t d a b r) s = execFsubF16x2 t d a b r s := rfl
@[simp] theorem exec_fmulF16x2 (t : BitVec 6) (d : BitVec 5) (a : BitVec 5) (b : BitVec 5) (r : BitVec 2) (s : State) :
    exec (.fmulF16x2 t d a b r) s = execFmulF16x2 t d a b r s := rfl
@[simp] theorem exec_ffmaF16x2 (t : BitVec 6) (d : BitVec 5) (a : BitVec 5) (b : BitVec 5) (r : BitVec 2) (s : State) :
    exec (.ffmaF16x2 t d a b r) s = execFfmaF16x2 t d a b r s := rfl
@[simp] theorem exec_fdot2Bf16 (t : BitVec 6) (d : BitVec 5) (a : BitVec 5) (b : BitVec 5) (r : BitVec 2) (s : State) :
    exec (.fdot2Bf16 t d a b r) s = execFdot2Bf16 t d a b r s := rfl
@[simp] theorem exec_fdot2F16 (t : BitVec 6) (d : BitVec 5) (a : BitVec 5) (b : BitVec 5) (r : BitVec 2) (s : State) :
    exec (.fdot2F16 t d a b r) s = execFdot2F16 t d a b r s := rfl
@[simp] theorem exec_fdot4E4m3 (t : BitVec 6) (d : BitVec 5) (a : BitVec 5) (b : BitVec 5) (r : BitVec 2) (s : State) :
    exec (.fdot4E4m3 t d a b r) s = execFdot4E4m3 t d a b r s := rfl
@[simp] theorem exec_fdot4E5m2 (t : BitVec 6) (d : BitVec 5) (a : BitVec 5) (b : BitVec 5) (r : BitVec 2) (s : State) :
    exec (.fdot4E5m2 t d a b r) s = execFdot4E5m2 t d a b r s := rfl
@[simp] theorem exec_idot4S8 (t : BitVec 6) (d : BitVec 5) (a : BitVec 5) (b : BitVec 5) (s : State) :
    exec (.idot4S8 t d a b) s = execIdot4S8 t d a b s := rfl
@[simp] theorem exec_idot4N8 (t : BitVec 6) (d : BitVec 5) (a : BitVec 5) (b : BitVec 5) (s : State) :
    exec (.idot4N8 t d a b) s = execIdot4N8 t d a b s := rfl
@[simp] theorem exec_fceqF32 (t : BitVec 6) (d : BitVec 5) (a : BitVec 5) (b : BitVec 5) (s : State) :
    exec (.fceqF32 t d a b) s = execFceqF32 t d a b s := rfl
@[simp] theorem exec_fcneF32 (t : BitVec 6) (d : BitVec 5) (a : BitVec 5) (b : BitVec 5) (s : State) :
    exec (.fcneF32 t d a b) s = execFcneF32 t d a b s := rfl
@[simp] theorem exec_fcltF32 (t : BitVec 6) (d : BitVec 5) (a : BitVec 5) (b : BitVec 5) (s : State) :
    exec (.fcltF32 t d a b) s = execFcltF32 t d a b s := rfl
@[simp] theorem exec_fcleF32 (t : BitVec 6) (d : BitVec 5) (a : BitVec 5) (b : BitVec 5) (s : State) :
    exec (.fcleF32 t d a b) s = execFcleF32 t d a b s := rfl
@[simp] theorem exec_fcgtF32 (t : BitVec 6) (d : BitVec 5) (a : BitVec 5) (b : BitVec 5) (s : State) :
    exec (.fcgtF32 t d a b) s = execFcgtF32 t d a b s := rfl
@[simp] theorem exec_fcgeF32 (t : BitVec 6) (d : BitVec 5) (a : BitVec 5) (b : BitVec 5) (s : State) :
    exec (.fcgeF32 t d a b) s = execFcgeF32 t d a b s := rfl
@[simp] theorem exec_fcunF32 (t : BitVec 6) (d : BitVec 5) (a : BitVec 5) (b : BitVec 5) (s : State) :
    exec (.fcunF32 t d a b) s = execFcunF32 t d a b s := rfl
@[simp] theorem exec_fclassF32 (t : BitVec 6) (d : BitVec 5) (a : BitVec 5) (s : State) :
    exec (.fclassF32 t d a) s = execFclassF32 t d a s := rfl
@[simp] theorem exec_fclassBf16x2 (t : BitVec 6) (d : BitVec 5) (a : BitVec 5) (s : State) :
    exec (.fclassBf16x2 t d a) s = execFclassBf16x2 t d a s := rfl
@[simp] theorem exec_fclassF16x2 (t : BitVec 6) (d : BitVec 5) (a : BitVec 5) (s : State) :
    exec (.fclassF16x2 t d a) s = execFclassF16x2 t d a s := rfl
@[simp] theorem exec_ftestF32 (t : BitVec 6) (d : BitVec 5) (a : BitVec 5) (b : BitVec 5) (s : State) :
    exec (.ftestF32 t d a b) s = execFtestF32 t d a b s := rfl
@[simp] theorem exec_cvtF32Bf16 (t : BitVec 6) (d : BitVec 5) (a : BitVec 5) (b : BitVec 5) (s : State) :
    exec (.cvtF32Bf16 t d a b) s = execCvtF32Bf16 t d a b s := rfl
@[simp] theorem exec_cvtF32F16 (t : BitVec 6) (d : BitVec 5) (a : BitVec 5) (b : BitVec 5) (s : State) :
    exec (.cvtF32F16 t d a b) s = execCvtF32F16 t d a b s := rfl
@[simp] theorem exec_cvtBf16x2F32 (t : BitVec 6) (d : BitVec 5) (a : BitVec 5) (b : BitVec 5) (r : BitVec 2) (s : State) :
    exec (.cvtBf16x2F32 t d a b r) s = execCvtBf16x2F32 t d a b r s := rfl
@[simp] theorem exec_cvtF16x2F32 (t : BitVec 6) (d : BitVec 5) (a : BitVec 5) (b : BitVec 5) (r : BitVec 2) (s : State) :
    exec (.cvtF16x2F32 t d a b r) s = execCvtF16x2F32 t d a b r s := rfl
@[simp] theorem exec_cvtBf16x2F16x2 (t : BitVec 6) (d : BitVec 5) (a : BitVec 5) (r : BitVec 2) (s : State) :
    exec (.cvtBf16x2F16x2 t d a r) s = execCvtBf16x2F16x2 t d a r s := rfl
@[simp] theorem exec_cvtF16x2Bf16x2 (t : BitVec 6) (d : BitVec 5) (a : BitVec 5) (r : BitVec 2) (s : State) :
    exec (.cvtF16x2Bf16x2 t d a r) s = execCvtF16x2Bf16x2 t d a r s := rfl
@[simp] theorem exec_cvtS32F32 (t : BitVec 6) (d : BitVec 5) (a : BitVec 5) (r : BitVec 2) (s : State) :
    exec (.cvtS32F32 t d a r) s = execCvtS32F32 t d a r s := rfl
@[simp] theorem exec_cvtN32F32 (t : BitVec 6) (d : BitVec 5) (a : BitVec 5) (r : BitVec 2) (s : State) :
    exec (.cvtN32F32 t d a r) s = execCvtN32F32 t d a r s := rfl
@[simp] theorem exec_cvtF32S32 (t : BitVec 6) (d : BitVec 5) (a : BitVec 5) (r : BitVec 2) (s : State) :
    exec (.cvtF32S32 t d a r) s = execCvtF32S32 t d a r s := rfl
@[simp] theorem exec_cvtF32N32 (t : BitVec 6) (d : BitVec 5) (a : BitVec 5) (r : BitVec 2) (s : State) :
    exec (.cvtF32N32 t d a r) s = execCvtF32N32 t d a r s := rfl
@[simp] theorem exec_cvtStochBf16x2F32 (t : BitVec 6) (d : BitVec 5) (a : BitVec 5) (b : BitVec 5) (s : State) :
    exec (.cvtStochBf16x2F32 t d a b) s = execCvtStochBf16x2F32 t d a b s := rfl
@[simp] theorem exec_cvtStochF16x2F32 (t : BitVec 6) (d : BitVec 5) (a : BitVec 5) (b : BitVec 5) (s : State) :
    exec (.cvtStochF16x2F32 t d a b) s = execCvtStochF16x2F32 t d a b s := rfl
@[simp] theorem exec_cvtStochE4m3x2F32 (t : BitVec 6) (d : BitVec 5) (a : BitVec 5) (b : BitVec 5) (s : State) :
    exec (.cvtStochE4m3x2F32 t d a b) s = execCvtStochE4m3x2F32 t d a b s := rfl
@[simp] theorem exec_cvtStochE5m2x2F32 (t : BitVec 6) (d : BitVec 5) (a : BitVec 5) (b : BitVec 5) (s : State) :
    exec (.cvtStochE5m2x2F32 t d a b) s = execCvtStochE5m2x2F32 t d a b s := rfl
@[simp] theorem exec_mxscE4m3 (t : BitVec 6) (d : BitVec 5) (a : BitVec 5) (s : State) :
    exec (.mxscE4m3 t d a) s = execMxscE4m3 t d a s := rfl
@[simp] theorem exec_mxscE5m2 (t : BitVec 6) (d : BitVec 5) (a : BitVec 5) (s : State) :
    exec (.mxscE5m2 t d a) s = execMxscE5m2 t d a s := rfl
@[simp] theorem exec_mxscE3m2 (t : BitVec 6) (d : BitVec 5) (a : BitVec 5) (s : State) :
    exec (.mxscE3m2 t d a) s = execMxscE3m2 t d a s := rfl
@[simp] theorem exec_mxscE2m3 (t : BitVec 6) (d : BitVec 5) (a : BitVec 5) (s : State) :
    exec (.mxscE2m3 t d a) s = execMxscE2m3 t d a s := rfl
@[simp] theorem exec_mxscE2m1 (t : BitVec 6) (d : BitVec 5) (a : BitVec 5) (s : State) :
    exec (.mxscE2m1 t d a) s = execMxscE2m1 t d a s := rfl
@[simp] theorem exec_mxdqE4m3 (t : BitVec 6) (d : BitVec 5) (a : BitVec 5) (b : BitVec 5) (s : State) :
    exec (.mxdqE4m3 t d a b) s = execMxdqE4m3 t d a b s := rfl
@[simp] theorem exec_mxdqE5m2 (t : BitVec 6) (d : BitVec 5) (a : BitVec 5) (b : BitVec 5) (s : State) :
    exec (.mxdqE5m2 t d a b) s = execMxdqE5m2 t d a b s := rfl
@[simp] theorem exec_mxdqE3m2 (t : BitVec 6) (d : BitVec 5) (a : BitVec 5) (b : BitVec 5) (s : State) :
    exec (.mxdqE3m2 t d a b) s = execMxdqE3m2 t d a b s := rfl
@[simp] theorem exec_mxdqE2m3 (t : BitVec 6) (d : BitVec 5) (a : BitVec 5) (b : BitVec 5) (s : State) :
    exec (.mxdqE2m3 t d a b) s = execMxdqE2m3 t d a b s := rfl
@[simp] theorem exec_mxdqE2m1 (t : BitVec 6) (d : BitVec 5) (a : BitVec 5) (b : BitVec 5) (s : State) :
    exec (.mxdqE2m1 t d a b) s = execMxdqE2m1 t d a b s := rfl
@[simp] theorem exec_mxqE4m3 (t : BitVec 6) (d : BitVec 5) (a : BitVec 5) (b : BitVec 5) (r : BitVec 2) (s : State) :
    exec (.mxqE4m3 t d a b r) s = execMxqE4m3 t d a b r s := rfl
@[simp] theorem exec_mxqE5m2 (t : BitVec 6) (d : BitVec 5) (a : BitVec 5) (b : BitVec 5) (r : BitVec 2) (s : State) :
    exec (.mxqE5m2 t d a b r) s = execMxqE5m2 t d a b r s := rfl
@[simp] theorem exec_mxqE3m2 (t : BitVec 6) (d : BitVec 5) (a : BitVec 5) (b : BitVec 5) (r : BitVec 2) (s : State) :
    exec (.mxqE3m2 t d a b r) s = execMxqE3m2 t d a b r s := rfl
@[simp] theorem exec_mxqE2m3 (t : BitVec 6) (d : BitVec 5) (a : BitVec 5) (b : BitVec 5) (r : BitVec 2) (s : State) :
    exec (.mxqE2m3 t d a b r) s = execMxqE2m3 t d a b r s := rfl
@[simp] theorem exec_mxqE2m1 (t : BitVec 6) (d : BitVec 5) (a : BitVec 5) (b : BitVec 5) (r : BitVec 2) (s : State) :
    exec (.mxqE2m1 t d a b r) s = execMxqE2m1 t d a b r s := rfl
@[simp] theorem exec_frcpF32 (t : BitVec 6) (d : BitVec 5) (a : BitVec 5) (s : State) :
    exec (.frcpF32 t d a) s = execFrcpF32 t d a s := rfl
@[simp] theorem exec_frsqrtF32 (t : BitVec 6) (d : BitVec 5) (a : BitVec 5) (s : State) :
    exec (.frsqrtF32 t d a) s = execFrsqrtF32 t d a s := rfl
@[simp] theorem exec_fexp2F32 (t : BitVec 6) (d : BitVec 5) (a : BitVec 5) (s : State) :
    exec (.fexp2F32 t d a) s = execFexp2F32 t d a s := rfl
@[simp] theorem exec_fexpF32 (t : BitVec 6) (d : BitVec 5) (a : BitVec 5) (s : State) :
    exec (.fexpF32 t d a) s = execFexpF32 t d a s := rfl
@[simp] theorem exec_flog2F32 (t : BitVec 6) (d : BitVec 5) (a : BitVec 5) (s : State) :
    exec (.flog2F32 t d a) s = execFlog2F32 t d a s := rfl
@[simp] theorem exec_fsinpiF32 (t : BitVec 6) (d : BitVec 5) (a : BitVec 5) (s : State) :
    exec (.fsinpiF32 t d a) s = execFsinpiF32 t d a s := rfl
@[simp] theorem exec_fcospiF32 (t : BitVec 6) (d : BitVec 5) (a : BitVec 5) (s : State) :
    exec (.fcospiF32 t d a) s = execFcospiF32 t d a s := rfl
@[simp] theorem exec_ftanhF32 (t : BitVec 6) (d : BitVec 5) (a : BitVec 5) (s : State) :
    exec (.ftanhF32 t d a) s = execFtanhF32 t d a s := rfl
@[simp] theorem exec_fsigF32 (t : BitVec 6) (d : BitVec 5) (a : BitVec 5) (s : State) :
    exec (.fsigF32 t d a) s = execFsigF32 t d a s := rfl
@[simp] theorem exec_frmaxF32 (t : BitVec 6) (d : BitVec 5) (a : BitVec 5) (s : State) :
    exec (.frmaxF32 t d a) s = execFrmaxF32 t d a s := rfl
@[simp] theorem exec_frminF32 (t : BitVec 6) (d : BitVec 5) (a : BitVec 5) (s : State) :
    exec (.frminF32 t d a) s = execFrminF32 t d a s := rfl
@[simp] theorem exec_frmaxaF32 (t : BitVec 6) (d : BitVec 5) (a : BitVec 5) (s : State) :
    exec (.frmaxaF32 t d a) s = execFrmaxaF32 t d a s := rfl
@[simp] theorem exec_fraddF32 (t : BitVec 6) (d : BitVec 5) (a : BitVec 5) (r : BitVec 2) (s : State) :
    exec (.fraddF32 t d a r) s = execFraddF32 t d a r s := rfl
@[simp] theorem exec_iradd (t : BitVec 6) (d : BitVec 5) (a : BitVec 5) (s : State) :
    exec (.iradd t d a) s = execIradd t d a s := rfl
@[simp] theorem exec_iraddsS32 (t : BitVec 6) (d : BitVec 5) (a : BitVec 5) (s : State) :
    exec (.iraddsS32 t d a) s = execIraddsS32 t d a s := rfl
@[simp] theorem exec_iraddsN32 (t : BitVec 6) (d : BitVec 5) (a : BitVec 5) (s : State) :
    exec (.iraddsN32 t d a) s = execIraddsN32 t d a s := rfl
@[simp] theorem exec_irminS32 (t : BitVec 6) (d : BitVec 5) (a : BitVec 5) (s : State) :
    exec (.irminS32 t d a) s = execIrminS32 t d a s := rfl
@[simp] theorem exec_irmaxS32 (t : BitVec 6) (d : BitVec 5) (a : BitVec 5) (s : State) :
    exec (.irmaxS32 t d a) s = execIrmaxS32 t d a s := rfl
@[simp] theorem exec_irminN32 (t : BitVec 6) (d : BitVec 5) (a : BitVec 5) (s : State) :
    exec (.irminN32 t d a) s = execIrminN32 t d a s := rfl
@[simp] theorem exec_irmaxN32 (t : BitVec 6) (d : BitVec 5) (a : BitVec 5) (s : State) :
    exec (.irmaxN32 t d a) s = execIrmaxN32 t d a s := rfl
@[simp] theorem exec_irand (t : BitVec 6) (d : BitVec 5) (a : BitVec 5) (s : State) :
    exec (.irand t d a) s = execIrand t d a s := rfl
@[simp] theorem exec_iror (t : BitVec 6) (d : BitVec 5) (a : BitVec 5) (s : State) :
    exec (.iror t d a) s = execIror t d a s := rfl
@[simp] theorem exec_irxor (t : BitVec 6) (d : BitVec 5) (a : BitVec 5) (s : State) :
    exec (.irxor t d a) s = execIrxor t d a s := rfl
@[simp] theorem exec_ircnt (t : BitVec 6) (d : BitVec 5) (a : BitVec 5) (s : State) :
    exec (.ircnt t d a) s = execIrcnt t d a s := rfl
@[simp] theorem exec_fgetexpF32 (t : BitVec 6) (d : BitVec 5) (a : BitVec 5) (s : State) :
    exec (.fgetexpF32 t d a) s = execFgetexpF32 t d a s := rfl
@[simp] theorem exec_fmantF32 (t : BitVec 6) (d : BitVec 5) (a : BitVec 5) (s : State) :
    exec (.fmantF32 t d a) s = execFmantF32 t d a s := rfl
@[simp] theorem exec_rdflg (t : BitVec 6) (d : BitVec 5) (s : State) : exec (.rdflg t d) s = execRdflg t d s := rfl
@[simp] theorem exec_fsclF32 (t : BitVec 6) (d : BitVec 5) (a : BitVec 5) (b : BitVec 5) (r : BitVec 2) (s : State) :
    exec (.fsclF32 t d a b r) s = execFsclF32 t d a b r s := rfl
@[simp] theorem exec_clrflg (t : BitVec 6) (a : BitVec 5) (s : State) : exec (.clrflg t a) s = execClrflg t a s := rfl
@[simp] theorem exec_ld (t : BitVec 6) (d : BitVec 5) (a : BitVec 5) (b : BitVec 5) (sc : BitVec 1) (y : BitVec 3) (s : State) :
    exec (.ld t d a b sc y) s = execLd t d a b sc y s := rfl
@[simp] theorem exec_ldv (t : BitVec 6) (d : BitVec 5) (a : BitVec 5) (b : BitVec 5) (sc : BitVec 1) (s : State) :
    exec (.ldv t d a b sc) s = execLdv t d a b sc s := rfl
@[simp] theorem exec_st (t : BitVec 6) (a : BitVec 5) (b : BitVec 5) (sc : BitVec 1) (y : BitVec 3) (s : State) :
    exec (.st t a b sc y) s = execSt t a b sc y s := rfl
@[simp] theorem exec_stv (t : BitVec 6) (a : BitVec 5) (b : BitVec 5) (sc : BitVec 1) (s : State) :
    exec (.stv t a b sc) s = execStv t a b sc s := rfl
@[simp] theorem exec_ldg (t : BitVec 6) (d : BitVec 5) (a : BitVec 5) (b : BitVec 5) (y : BitVec 3) (s : State) :
    exec (.ldg t d a b y) s = execLdg t d a b y s := rfl
@[simp] theorem exec_ldgV (t : BitVec 6) (d : BitVec 5) (a : BitVec 5) (b : BitVec 5) (s : State) :
    exec (.ldgV t d a b) s = execLdgV t d a b s := rfl
@[simp] theorem exec_stg (t : BitVec 6) (a : BitVec 5) (b : BitVec 5) (y : BitVec 3) (s : State) :
    exec (.stg t a b y) s = execStg t a b y s := rfl
@[simp] theorem exec_ldf (t : BitVec 6) (d : BitVec 5) (a : BitVec 5) (b : BitVec 5) (sc : BitVec 1) (c : BitVec 3) (s : State) :
    exec (.ldf t d a b sc c) s = execLdf t d a b sc c s := rfl
@[simp] theorem exec_stf (t : BitVec 6) (a : BitVec 5) (b : BitVec 5) (sc : BitVec 1) (c : BitVec 3) (s : State) :
    exec (.stf t a b sc c) s = execStf t a b sc c s := rfl
@[simp] theorem exec_touchX (t : BitVec 6) (a : BitVec 5) (b : BitVec 5) (s : State) :
    exec (.touchX t a b) s = execTouchX t a b s := rfl
@[simp] theorem exec_touchM (t : BitVec 6) (a : BitVec 5) (b : BitVec 5) (s : State) :
    exec (.touchM t a b) s = execTouchM t a b s := rfl
@[simp] theorem exec_touchG (t : BitVec 6) (a : BitVec 5) (b : BitVec 5) (s : State) :
    exec (.touchG t a b) s = execTouchG t a b s := rfl
@[simp] theorem exec_aaddX (t : BitVec 6) (d : BitVec 5) (a : BitVec 5) (b : BitVec 5) (s : State) :
    exec (.aaddX t d a b) s = execAaddX t d a b s := rfl
@[simp] theorem exec_aaddM (t : BitVec 6) (d : BitVec 5) (a : BitVec 5) (b : BitVec 5) (s : State) :
    exec (.aaddM t d a b) s = execAaddM t d a b s := rfl
@[simp] theorem exec_aaddG (t : BitVec 6) (d : BitVec 5) (a : BitVec 5) (b : BitVec 5) (s : State) :
    exec (.aaddG t d a b) s = execAaddG t d a b s := rfl
@[simp] theorem exec_aminS32X (t : BitVec 6) (d : BitVec 5) (a : BitVec 5) (b : BitVec 5) (s : State) :
    exec (.aminS32X t d a b) s = execAminS32X t d a b s := rfl
@[simp] theorem exec_aminS32M (t : BitVec 6) (d : BitVec 5) (a : BitVec 5) (b : BitVec 5) (s : State) :
    exec (.aminS32M t d a b) s = execAminS32M t d a b s := rfl
@[simp] theorem exec_aminS32G (t : BitVec 6) (d : BitVec 5) (a : BitVec 5) (b : BitVec 5) (s : State) :
    exec (.aminS32G t d a b) s = execAminS32G t d a b s := rfl
@[simp] theorem exec_aminN32X (t : BitVec 6) (d : BitVec 5) (a : BitVec 5) (b : BitVec 5) (s : State) :
    exec (.aminN32X t d a b) s = execAminN32X t d a b s := rfl
@[simp] theorem exec_aminN32M (t : BitVec 6) (d : BitVec 5) (a : BitVec 5) (b : BitVec 5) (s : State) :
    exec (.aminN32M t d a b) s = execAminN32M t d a b s := rfl
@[simp] theorem exec_aminN32G (t : BitVec 6) (d : BitVec 5) (a : BitVec 5) (b : BitVec 5) (s : State) :
    exec (.aminN32G t d a b) s = execAminN32G t d a b s := rfl
@[simp] theorem exec_amaxS32X (t : BitVec 6) (d : BitVec 5) (a : BitVec 5) (b : BitVec 5) (s : State) :
    exec (.amaxS32X t d a b) s = execAmaxS32X t d a b s := rfl
@[simp] theorem exec_amaxS32M (t : BitVec 6) (d : BitVec 5) (a : BitVec 5) (b : BitVec 5) (s : State) :
    exec (.amaxS32M t d a b) s = execAmaxS32M t d a b s := rfl
@[simp] theorem exec_amaxS32G (t : BitVec 6) (d : BitVec 5) (a : BitVec 5) (b : BitVec 5) (s : State) :
    exec (.amaxS32G t d a b) s = execAmaxS32G t d a b s := rfl
@[simp] theorem exec_amaxN32X (t : BitVec 6) (d : BitVec 5) (a : BitVec 5) (b : BitVec 5) (s : State) :
    exec (.amaxN32X t d a b) s = execAmaxN32X t d a b s := rfl
@[simp] theorem exec_amaxN32M (t : BitVec 6) (d : BitVec 5) (a : BitVec 5) (b : BitVec 5) (s : State) :
    exec (.amaxN32M t d a b) s = execAmaxN32M t d a b s := rfl
@[simp] theorem exec_amaxN32G (t : BitVec 6) (d : BitVec 5) (a : BitVec 5) (b : BitVec 5) (s : State) :
    exec (.amaxN32G t d a b) s = execAmaxN32G t d a b s := rfl
@[simp] theorem exec_aandX (t : BitVec 6) (d : BitVec 5) (a : BitVec 5) (b : BitVec 5) (s : State) :
    exec (.aandX t d a b) s = execAandX t d a b s := rfl
@[simp] theorem exec_aandM (t : BitVec 6) (d : BitVec 5) (a : BitVec 5) (b : BitVec 5) (s : State) :
    exec (.aandM t d a b) s = execAandM t d a b s := rfl
@[simp] theorem exec_aandG (t : BitVec 6) (d : BitVec 5) (a : BitVec 5) (b : BitVec 5) (s : State) :
    exec (.aandG t d a b) s = execAandG t d a b s := rfl
@[simp] theorem exec_aorX (t : BitVec 6) (d : BitVec 5) (a : BitVec 5) (b : BitVec 5) (s : State) :
    exec (.aorX t d a b) s = execAorX t d a b s := rfl
@[simp] theorem exec_aorM (t : BitVec 6) (d : BitVec 5) (a : BitVec 5) (b : BitVec 5) (s : State) :
    exec (.aorM t d a b) s = execAorM t d a b s := rfl
@[simp] theorem exec_aorG (t : BitVec 6) (d : BitVec 5) (a : BitVec 5) (b : BitVec 5) (s : State) :
    exec (.aorG t d a b) s = execAorG t d a b s := rfl
@[simp] theorem exec_axorX (t : BitVec 6) (d : BitVec 5) (a : BitVec 5) (b : BitVec 5) (s : State) :
    exec (.axorX t d a b) s = execAxorX t d a b s := rfl
@[simp] theorem exec_axorM (t : BitVec 6) (d : BitVec 5) (a : BitVec 5) (b : BitVec 5) (s : State) :
    exec (.axorM t d a b) s = execAxorM t d a b s := rfl
@[simp] theorem exec_axorG (t : BitVec 6) (d : BitVec 5) (a : BitVec 5) (b : BitVec 5) (s : State) :
    exec (.axorG t d a b) s = execAxorG t d a b s := rfl
@[simp] theorem exec_afaddX (t : BitVec 6) (d : BitVec 5) (a : BitVec 5) (b : BitVec 5) (s : State) :
    exec (.afaddX t d a b) s = execAfaddX t d a b s := rfl
@[simp] theorem exec_afaddM (t : BitVec 6) (d : BitVec 5) (a : BitVec 5) (b : BitVec 5) (s : State) :
    exec (.afaddM t d a b) s = execAfaddM t d a b s := rfl
@[simp] theorem exec_afaddG (t : BitVec 6) (d : BitVec 5) (a : BitVec 5) (b : BitVec 5) (s : State) :
    exec (.afaddG t d a b) s = execAfaddG t d a b s := rfl
@[simp] theorem exec_axchX (t : BitVec 6) (d : BitVec 5) (a : BitVec 5) (b : BitVec 5) (s : State) :
    exec (.axchX t d a b) s = execAxchX t d a b s := rfl
@[simp] theorem exec_axchM (t : BitVec 6) (d : BitVec 5) (a : BitVec 5) (b : BitVec 5) (s : State) :
    exec (.axchM t d a b) s = execAxchM t d a b s := rfl
@[simp] theorem exec_axchG (t : BitVec 6) (d : BitVec 5) (a : BitVec 5) (b : BitVec 5) (s : State) :
    exec (.axchG t d a b) s = execAxchG t d a b s := rfl
@[simp] theorem exec_acasX (t : BitVec 6) (d : BitVec 5) (a : BitVec 5) (b : BitVec 5) (s : State) :
    exec (.acasX t d a b) s = execAcasX t d a b s := rfl
@[simp] theorem exec_acasM (t : BitVec 6) (d : BitVec 5) (a : BitVec 5) (b : BitVec 5) (s : State) :
    exec (.acasM t d a b) s = execAcasM t d a b s := rfl
@[simp] theorem exec_acasG (t : BitVec 6) (d : BitVec 5) (a : BitVec 5) (b : BitVec 5) (s : State) :
    exec (.acasG t d a b) s = execAcasG t d a b s := rfl
@[simp] theorem exec_falloc (t : BitVec 6) (d : BitVec 5) (b : BitVec 5) (s : State) :
    exec (.falloc t d b) s = execFalloc t d b s := rfl
@[simp] theorem exec_fput (t : BitVec 6) (a : BitVec 5) (b : BitVec 5) (s : State) :
    exec (.fput t a b) s = execFput t a b s := rfl
@[simp] theorem exec_ffree (t : BitVec 6) (a : BitVec 5) (s : State) : exec (.ffree t a) s = execFfree t a s := rfl
@[simp] theorem exec_otokFork (t : BitVec 6) (s : State) : exec (.otokFork t) s = execOtokFork t s := rfl
@[simp] theorem exec_otokJoin (t : BitVec 6) (s : State) : exec (.otokJoin t) s = execOtokJoin t s := rfl
@[simp] theorem exec_fence (t : BitVec 6) (c : BitVec 3) (s : State) : exec (.fence t c) s = execFence t c s := rfl
@[simp] theorem exec_arvX (t : BitVec 6) (d : BitVec 5) (a : BitVec 5) (b : BitVec 5) (s : State) :
    exec (.arvX t d a b) s = execArvX t d a b s := rfl
@[simp] theorem exec_arvM (t : BitVec 6) (d : BitVec 5) (a : BitVec 5) (b : BitVec 5) (s : State) :
    exec (.arvM t d a b) s = execArvM t d a b s := rfl
@[simp] theorem exec_arvG (t : BitVec 6) (d : BitVec 5) (a : BitVec 5) (b : BitVec 5) (s : State) :
    exec (.arvG t d a b) s = execArvG t d a b s := rfl
@[simp] theorem exec_awtX (t : BitVec 6) (d : BitVec 5) (a : BitVec 5) (b : BitVec 5) (s : State) :
    exec (.awtX t d a b) s = execAwtX t d a b s := rfl
@[simp] theorem exec_awtM (t : BitVec 6) (d : BitVec 5) (a : BitVec 5) (b : BitVec 5) (s : State) :
    exec (.awtM t d a b) s = execAwtM t d a b s := rfl
@[simp] theorem exec_awtG (t : BitVec 6) (d : BitVec 5) (a : BitVec 5) (b : BitVec 5) (s : State) :
    exec (.awtG t d a b) s = execAwtG t d a b s := rfl
@[simp] theorem exec_arwX (t : BitVec 6) (d : BitVec 5) (a : BitVec 5) (b : BitVec 5) (s : State) :
    exec (.arwX t d a b) s = execArwX t d a b s := rfl
@[simp] theorem exec_arwM (t : BitVec 6) (d : BitVec 5) (a : BitVec 5) (b : BitVec 5) (s : State) :
    exec (.arwM t d a b) s = execArwM t d a b s := rfl
@[simp] theorem exec_arwG (t : BitVec 6) (d : BitVec 5) (a : BitVec 5) (b : BitVec 5) (s : State) :
    exec (.arwG t d a b) s = execArwG t d a b s := rfl
@[simp] theorem exec_ioread (t : BitVec 6) (a : BitVec 5) (s : State) : exec (.ioread t a) s = execIoread t a s := rfl
@[simp] theorem exec_iowaitX (t : BitVec 6) (d : BitVec 5) (a : BitVec 5) (s : State) :
    exec (.iowaitX t d a) s = execIowaitX t d a s := rfl
@[simp] theorem exec_iowaitM (t : BitVec 6) (d : BitVec 5) (a : BitVec 5) (s : State) :
    exec (.iowaitM t d a) s = execIowaitM t d a s := rfl
@[simp] theorem exec_scfg (t : BitVec 6) (a : BitVec 5) (b : BitVec 5) (s : State) :
    exec (.scfg t a b) s = execScfg t a b s := rfl
@[simp] theorem exec_sbind (t : BitVec 6) (a : BitVec 5) (b : BitVec 5) (s : State) :
    exec (.sbind t a b) s = execSbind t a b s := rfl
@[simp] theorem exec_sgo (t : BitVec 6) (a : BitVec 5) (b : BitVec 5) (s : State) : exec (.sgo t a b) s = execSgo t a b s := rfl
@[simp] theorem exec_sstop (t : BitVec 6) (b : BitVec 5) (s : State) : exec (.sstop t b) s = execSstop t b s := rfl
@[simp] theorem exec_cpy (t : BitVec 6) (a : BitVec 5) (b : BitVec 5) (s : State) : exec (.cpy t a b) s = execCpy t a b s := rfl
@[simp] theorem exec_sbwait (t : BitVec 6) (d : BitVec 5) (a : BitVec 5) (s : State) :
    exec (.sbwait t d a) s = execSbwait t d a s := rfl
@[simp] theorem exec_sbtest (t : BitVec 6) (d : BitVec 5) (s : State) : exec (.sbtest t d) s = execSbtest t d s := rfl
@[simp] theorem exec_gsendEnt0 (t : BitVec 6) (d : BitVec 5) (a : BitVec 5) (b : BitVec 5) (s : State) :
    exec (.gsendEnt0 t d a b) s = execGsendEnt0 t d a b s := rfl
@[simp] theorem exec_gsendEnt1 (t : BitVec 6) (d : BitVec 5) (a : BitVec 5) (b : BitVec 5) (s : State) :
    exec (.gsendEnt1 t d a b) s = execGsendEnt1 t d a b s := rfl
@[simp] theorem exec_gsendEnt2 (t : BitVec 6) (d : BitVec 5) (a : BitVec 5) (b : BitVec 5) (s : State) :
    exec (.gsendEnt2 t d a b) s = execGsendEnt2 t d a b s := rfl
@[simp] theorem exec_gsendEnt3 (t : BitVec 6) (d : BitVec 5) (a : BitVec 5) (b : BitVec 5) (s : State) :
    exec (.gsendEnt3 t d a b) s = execGsendEnt3 t d a b s := rfl
@[simp] theorem exec_rmwcfg (t : BitVec 6) (a : BitVec 5) (b : BitVec 5) (s : State) :
    exec (.rmwcfg t a b) s = execRmwcfg t a b s := rfl
@[simp] theorem exec_mma (t : BitVec 6) (n : BitVec 1) (a : BitVec 5) (b : BitVec 5) (f : BitVec 5) (s : State) :
    exec (.mma t n a b f) s = execMma t n a b f s := rfl
@[simp] theorem exec_mmam (t : BitVec 6) (n : BitVec 1) (a : BitVec 5) (b : BitVec 5) (f : BitVec 5) (s : State) :
    exec (.mmam t n a b f) s = execMmam t n a b f s := rfl
@[simp] theorem exec_mmas (t : BitVec 6) (n : BitVec 1) (a : BitVec 5) (b : BitVec 5) (f : BitVec 5) (s : State) :
    exec (.mmas t n a b f) s = execMmas t n a b f s := rfl
@[simp] theorem exec_maclClr (t : BitVec 6) (n : BitVec 1) (s : State) : exec (.maclClr t n) s = execMaclClr t n s := rfl
@[simp] theorem exec_maclLd (t : BitVec 6) (n : BitVec 1) (a : BitVec 5) (s : State) :
    exec (.maclLd t n a) s = execMaclLd t n a s := rfl
@[simp] theorem exec_mld (t : BitVec 6) (a : BitVec 5) (s : State) : exec (.mld t a) s = execMld t a s := rfl
@[simp] theorem exec_mdrnF32 (t : BitVec 6) (n : BitVec 1) (a : BitVec 5) (s : State) :
    exec (.mdrnF32 t n a) s = execMdrnF32 t n a s := rfl
@[simp] theorem exec_mdrnBf16 (t : BitVec 6) (n : BitVec 1) (a : BitVec 5) (r : BitVec 2) (s : State) :
    exec (.mdrnBf16 t n a r) s = execMdrnBf16 t n a r s := rfl
@[simp] theorem exec_mdrnF16 (t : BitVec 6) (n : BitVec 1) (a : BitVec 5) (r : BitVec 2) (s : State) :
    exec (.mdrnF16 t n a r) s = execMdrnF16 t n a r s := rfl
@[simp] theorem exec_mchk (t : BitVec 6) (n : BitVec 1) (a : BitVec 5) (s : State) :
    exec (.mchk t n a) s = execMchk t n a s := rfl
@[simp] theorem exec_prune (t : BitVec 6) (n : BitVec 1) (a : BitVec 5) (s : State) :
    exec (.prune t n a) s = execPrune t n a s := rfl
@[simp] theorem exec_launch (t : BitVec 6) (a : BitVec 5) (s : State) : exec (.launch t a) s = execLaunch t a s := rfl
@[simp] theorem exec_ptask (t : BitVec 6) (d : BitVec 5) (s : State) : exec (.ptask t d) s = execPtask t d s := rfl
@[simp] theorem exec_tdone (t : BitVec 6) (a : BitVec 5) (s : State) : exec (.tdone t a) s = execTdone t a s := rfl
@[simp] theorem exec_yieldFX (t : BitVec 6) (a : BitVec 5) (s : State) : exec (.yieldFX t a) s = execYieldFX t a s := rfl
@[simp] theorem exec_yieldFM (t : BitVec 6) (a : BitVec 5) (s : State) : exec (.yieldFM t a) s = execYieldFM t a s := rfl
@[simp] theorem exec_yieldSb (t : BitVec 6) (a : BitVec 5) (s : State) : exec (.yieldSb t a) s = execYieldSb t a s := rfl
@[simp] theorem exec_yieldRel (t : BitVec 6) (s : State) : exec (.yieldRel t) s = execYieldRel t s := rfl
@[simp] theorem exec_tagset (t : BitVec 6) (a : BitVec 5) (s : State) : exec (.tagset t a) s = execTagset t a s := rfl
@[simp] theorem exec_tagsetReq (t : BitVec 6) (a : BitVec 5) (s : State) : exec (.tagsetReq t a) s = execTagsetReq t a s := rfl
@[simp] theorem exec_tagsetIter (t : BitVec 6) (a : BitVec 5) (s : State) : exec (.tagsetIter t a) s = execTagsetIter t a s := rfl
@[simp] theorem exec_rset (t : BitVec 6) (d : BitVec 5) (a : BitVec 5) (s : State) :
    exec (.rset t d a) s = execRset t d a s := rfl
@[simp] theorem exec_rget (t : BitVec 6) (d : BitVec 5) (a : BitVec 5) (s : State) :
    exec (.rget t d a) s = execRget t d a s := rfl
@[simp] theorem exec_rfree (t : BitVec 6) (a : BitVec 5) (s : State) : exec (.rfree t a) s = execRfree t a s := rfl
@[simp] theorem exec_sealR (t : BitVec 6) (d : BitVec 5) (a : BitVec 5) (s : State) :
    exec (.sealR t d a) s = execSealR t d a s := rfl
@[simp] theorem exec_unsealR (t : BitVec 6) (a : BitVec 5) (s : State) : exec (.unsealR t a) s = execUnsealR t a s := rfl
@[simp] theorem exec_trap (t : BitVec 6) (a : BitVec 5) (s : State) : exec (.trap t a) s = execTrap t a s := rfl
@[simp] theorem exec_hret (t : BitVec 6) (s : State) : exec (.hret t) s = execHret t s := rfl
@[simp] theorem exec_hretDrop (t : BitVec 6) (s : State) : exec (.hretDrop t) s = execHretDrop t s := rfl
@[simp] theorem exec_hretEnd (t : BitVec 6) (s : State) : exec (.hretEnd t) s = execHretEnd t s := rfl
@[simp] theorem exec_scout (t : BitVec 6) (n : BitVec 1) (a : BitVec 5) (b : BitVec 5) (s : State) :
    exec (.scout t n a b) s = execScout t n a b s := rfl
@[simp] theorem exec_threshAbs (t : BitVec 6) (d : BitVec 5) (a : BitVec 5) (n : BitVec 1) (s : State) :
    exec (.threshAbs t d a n) s = execThreshAbs t d a n s := rfl
@[simp] theorem exec_threshTop (t : BitVec 6) (d : BitVec 5) (a : BitVec 5) (n : BitVec 1) (s : State) :
    exec (.threshTop t d a n) s = execThreshTop t d a n s := rfl
@[simp] theorem exec_pgsel (t : BitVec 6) (a : BitVec 5) (b : BitVec 5) (s : State) :
    exec (.pgsel t a b) s = execPgsel t a b s := rfl
@[simp] theorem exec_hrow (t : BitVec 6) (d : BitVec 5) (a : BitVec 5) (s : State) :
    exec (.hrow t d a) s = execHrow t d a s := rfl
@[simp] theorem exec_hins (t : BitVec 6) (d : BitVec 5) (a : BitVec 5) (b : BitVec 5) (s : State) :
    exec (.hins t d a b) s = execHins t d a b s := rfl
@[simp] theorem exec_hspill (t : BitVec 6) (d : BitVec 5) (a : BitVec 5) (s : State) :
    exec (.hspill t d a) s = execHspill t d a s := rfl
@[simp] theorem exec_qprobe (t : BitVec 6) (d : BitVec 5) (s : State) : exec (.qprobe t d) s = execQprobe t d s := rfl
@[simp] theorem exec_qprobeClr (t : BitVec 6) (d : BitVec 5) (s : State) : exec (.qprobeClr t d) s = execQprobeClr t d s := rfl
@[simp] theorem exec_monCfg (t : BitVec 6) (a : BitVec 5) (s : State) : exec (.monCfg t a) s = execMonCfg t a s := rfl
@[simp] theorem exec_monMark (t : BitVec 6) (a : BitVec 5) (s : State) : exec (.monMark t a) s = execMonMark t a s := rfl
@[simp] theorem exec_loadWaitExpiry (region : Nat) (s : State) :
    exec (.loadWaitExpiry region) s = execLoadWaitExpiry region s := rfl
@[simp] theorem exec_tdoneSettlingExpiry (region : Nat) (s : State) :
    exec (.tdoneSettlingExpiry region) s = execTdoneSettlingExpiry region s := rfl
@[simp] theorem exec_unsealRequest (req : Nat) (s : State) : exec (.unsealRequest req) s = execUnsealRequest req s := rfl
@[simp] theorem exec_spaceDescriptorCleared (space : BitVec 14) (s : State) :
    exec (.spaceDescriptorCleared space) s = execSpaceDescriptorCleared space s := rfl
@[simp] theorem exec_monitorOccupancySample (tile : TileId) (s : State) :
    exec (.monitorOccupancySample tile) s = execMonitorOccupancySample tile s := rfl
@[simp] theorem exec_unassignedCommand (die : Nat) (s : State) :
    exec (.unassignedCommand die) s = execUnassignedCommand die s := rfl

end Sys2Proof.Machine
end

