-- ==== Sys2Proof/Laws/Home.lean ====
section
/-!
SUPPORT. Lemmas about the pool of requests and what performing a request changes.
-/

namespace Sys2Proof.Machine

/-- A request that is found has the name it was looked up by. -/
theorem State.req?_id {s : State} {id : Nat} {r : Req} (h : s.req? id = some r) : r.id = id := by
  have := List.find?_some h
  simpa using this

/-- A step that acts on a request that is found. -/
theorem onReq_some {s : State} {id : Nat} {r : Req} (h : s.req? id = some r) (k : Req → State) : onReq s id k = .next (k r) := by
  simp [onReq, h, go]

/-- A request that is put is found in the place of the one of its name. -/
theorem State.req?_putReq {s : State} {id : Nat} {r q : Req} (h : s.req? id = some r) (hq : q.id = id) :
    (s.putReq q).req? id = some q := by
  have key : ∀ l : List Req, l.find? (fun x => x.id == id) = some r →
      (l.map fun x => if x.id = q.id then q else x).find? (fun x => x.id == id) = some q := by
    intro l
    induction l with
    | nil => intro h; simp at h
    | cons a l ih =>
      intro h
      by_cases ha : a.id = id
      · simp [ha, hq]
      · simp only [List.find?_cons, ha, beq_iff_eq, List.map_cons, hq, if_false] at h ⊢
        have hb : (a.id == id) = false := by simp [ha]
        simp only [hb] at h ⊢
        rw [← hq]; rw [← hq] at ih h
        exact ih h
  exact key s.reqs h

/-- A request that is dropped is found no more. -/
@[simp] theorem State.req?_dropReq (s : State) (id : Nat) : (s.dropReq id).req? id = none := by
  simp [State.req?, State.dropReq, List.find?_filter]

/-- An element's change leaves the pool. -/
@[simp] theorem State.req?_modElem (s : State) (e : ElemId) (f : Elem → Elem) (id : Nat) : (s.modElem e f).req? id = s.req? id := rfl

/-- What performing one request leaves. -/
theorem State.performOne_keeps (s : State) (r : Req) :
    (s.performOne r).mem = s.mem ∧ (s.performOne r).full = s.full ∧ (s.performOne r).pois = s.pois ∧
      (s.performOne r).regions = s.regions ∧ (s.performOne r).dies = s.dies ∧ (s.performOne r).mtiles = s.mtiles ∧
      (s.performOne r).seals = s.seals := by
  unfold State.performOne
  split <;> simp [State.putReq, State.dropReq, State.modElem, State.setElem]

/-- What performing a request leaves: it changes the pool and ordering outputs only. -/
theorem State.perform_keeps (s : State) (r : Req) :
    (s.perform r).mem = s.mem ∧ (s.perform r).full = s.full ∧ (s.perform r).pois = s.pois ∧
      (s.perform r).regions = s.regions ∧ (s.perform r).dies = s.dies ∧ (s.perform r).mtiles = s.mtiles ∧
      (s.perform r).seals = s.seals := by
  unfold State.perform
  simp only
  split
  · obtain ⟨a, b, c, d, e, f, g⟩ := State.performOne_keeps s r
    obtain ⟨a1, b1, c1, d1, e1, f1, g1⟩ := State.performOne_keeps (s.performOne r) { (‹Req› : Req) with result := r.result, rpois := r.rpois }
    exact ⟨a1.trans a, b1.trans b, c1.trans c, d1.trans d, e1.trans e, f1.trans f, g1.trans g⟩
  · exact State.performOne_keeps s r

@[simp] theorem State.perform_mem (s : State) (r : Req) : (s.perform r).mem = s.mem := (State.perform_keeps s r).1
@[simp] theorem State.perform_full (s : State) (r : Req) : (s.perform r).full = s.full := (State.perform_keeps s r).2.1
@[simp] theorem State.perform_pois (s : State) (r : Req) : (s.perform r).pois = s.pois := (State.perform_keeps s r).2.2.1
@[simp] theorem State.perform_regions (s : State) (r : Req) : (s.perform r).regions = s.regions := (State.perform_keeps s r).2.2.2.1
@[simp] theorem State.perform_dies (s : State) (r : Req) : (s.perform r).dies = s.dies := (State.perform_keeps s r).2.2.2.2.1
@[simp] theorem State.perform_mtiles (s : State) (r : Req) : (s.perform r).mtiles = s.mtiles := (State.perform_keeps s r).2.2.2.2.2.1
@[simp] theorem State.perform_seals (s : State) (r : Req) : (s.perform r).seals = s.seals := (State.perform_keeps s r).2.2.2.2.2.2

/-- A request with a response and no mate stays in the pool, performed. -/
theorem State.req?_perform {s : State} {id : Nat} {r q : Req} (h : s.req? id = some r) (hq : q.id = id) (hr : q.hasResponse = true)
    (hm : q.mate = none) : (s.perform q).req? id = some { q with stage := .performed } := by
  unfold State.perform State.performOne
  simp only [hr, hm, if_true, Option.bind]
  exact State.req?_putReq (by simpa using h) hq

/-- A request without a mate changes only the element that issued it. -/
theorem State.elem_perform_other {s : State} {q : Req} (hm : q.mate = none) {e : ElemId} (he : e.key ≠ q.elem.key) :
    (s.perform q).elem e = s.elem e := by
  unfold State.perform State.performOne
  simp only [hm, Option.bind]
  split <;> exact State.elem_modElem_other s q.elem e (fun x => x.fillOrder q) he

/-- A request without a mate changes only the output queues of its element. -/
theorem State.elem_perform_same {s : State} {q : Req} (hm : q.mate = none) : (s.perform q).elem q.elem = (s.elem q.elem).fillOrder q := by
  unfold State.perform State.performOne
  simp only [hm, Option.bind]
  split <;> exact State.elem_modElem_same s q.elem (fun x => x.fillOrder q)

end Sys2Proof.Machine
end

