-- ==== Sys2Proof/Laws/PerInstr.lean ====
section
/-!
SUPPORT. One lemma per constructor of `Instr`: decoding the encoded word of a well-formed instruction gives the instruction
back, and an instruction without a word is a whole step of another agent (family Encodes of LAWS.json).
-/

set_option Elab.async false

namespace Sys2Proof.Laws

/-! ## Fields -/

/-- The fields of a packed word are the fields (Table 2.1). -/
theorem fieldsOf_packFields (F : Fields) : fieldsOf (packFields F) = F := by
  obtain ⟨t, m, d, a, b, n⟩ := F
  simp only [fieldsOf, packFields, Fields.mk.injEq]
  refine ⟨?_, ?_, ?_, ?_, ?_, ?_⟩ <;>
    (apply BitVec.eq_of_getLsbD_eq; intro i hi; simp only [BitVec.getLsbD_extractLsb', BitVec.getLsbD_append]; grind)

/-- A word whose major or function is not 0 is decoded by its fields. -/
theorem decode_packFields (F : Fields) (h : (F.major == 0 && F.fn == 0) = false) :
    decode (packFields F) = decodeFields F := by
  have hw : (packFields F == 0) = false := by
    cases e : (packFields F == 0) with
    | false => rfl
    | true =>
      have := fieldsOf_packFields F
      rw [eq_of_beq e] at this
      rw [← this] at h
      exact absurd h (by decide)
  simp only [decode, hw, fieldsOf_packFields, h, Bool.false_eq_true, if_false]

/-- Two halves of a ten-bit immediate put together again. -/
theorem join10 (i : BitVec 10) : i.extractLsb' 5 5 ++ i.extractLsb' 0 5 = i := by
  apply BitVec.eq_of_getLsbD_eq; intro k hk; simp only [BitVec.getLsbD_extractLsb', BitVec.getLsbD_append]; grind

/-- Three parts of a fifteen-bit immediate put together again. -/
theorem join15 (i : BitVec 15) : i.extractLsb' 10 5 ++ i.extractLsb' 5 5 ++ i.extractLsb' 0 5 = i := by
  apply BitVec.eq_of_getLsbD_eq; intro k hk; simp only [BitVec.getLsbD_extractLsb', BitVec.getLsbD_append]; grind

/-- A well-formed slot word has an assigned function. -/
theorem fnOk_of_wf {i : Instr} {f : Form} (h : i.wf = true) (e : i.form = some f) : f.fnOk = true := by
  simp only [Instr.wf, e, Form.ok, Bool.and_eq_true] at h
  exact h.1.1.1.1

/-- The values of a 1-bit field. -/
theorem bv1 (x : BitVec 1) : x = 0 ∨ x = 1 := by
  revert x; decide

/-- The values of a 2-bit field. -/
theorem bv2 (x : BitVec 2) : x = 0 ∨ x = 1 ∨ x = 2 ∨ x = 3 := by
  revert x; decide

/-- The values of a 3-bit field. -/
theorem bv3 (x : BitVec 3) : x = 0 ∨ x = 1 ∨ x = 2 ∨ x = 3 ∨ x = 4 ∨ x = 5 ∨ x = 6 ∨ x = 7 := by
  revert x; decide

/-- The values of a 5-bit field. -/
theorem bv5 (x : BitVec 5) : x = 0 ∨ x = 1 ∨ x = 2 ∨ x = 3 ∨ x = 4 ∨ x = 5 ∨ x = 6 ∨ x = 7 ∨ x = 8 ∨ x = 9 ∨ x = 10 ∨ x = 11 ∨ x = 12 ∨ x = 13 ∨ x = 14 ∨ x = 15 ∨ x = 16 ∨ x = 17 ∨ x = 18 ∨ x = 19 ∨ x = 20 ∨ x = 21 ∨ x = 22 ∨ x = 23 ∨ x = 24 ∨ x = 25 ∨ x = 26 ∨ x = 27 ∨ x = 28 ∨ x = 29 ∨ x = 30 ∨ x = 31 := by
  revert x; decide

/-- The statement of the family: the word of a well-formed instruction decodes to it. -/
def Encodes.Statement (i : Instr) : Prop :=
  i.wf = true →
    match encode i with
    | some w => decode w = .ok i
    | none => i.form = none

theorem Encodes.powerUp : Encodes.Statement (.powerUp) := fun _ => rfl
theorem Encodes.boot (die : Nat) : Encodes.Statement (.boot die) := fun _ => rfl
theorem Encodes.bootVerifyEnd : Encodes.Statement (.bootVerifyEnd) := fun _ => rfl
theorem Encodes.setPoint (die : Nat) : Encodes.Statement (.setPoint die) := fun _ => rfl
theorem Encodes.invalidate (die : Nat) : Encodes.Statement (.invalidate die) := fun _ => rfl
theorem Encodes.bindWindow (die : Nat) : Encodes.Statement (.bindWindow die) := fun _ => rfl
theorem Encodes.context (die : Nat) : Encodes.Statement (.context die) := fun _ => rfl
theorem Encodes.spaceTable (die : Nat) : Encodes.Statement (.spaceTable die) := fun _ => rfl
theorem Encodes.translationQueue (die : Nat) : Encodes.Statement (.translationQueue die) := fun _ => rfl
theorem Encodes.reuseStore (die : Nat) : Encodes.Statement (.reuseStore die) := fun _ => rfl
theorem Encodes.reuseQuota (die : Nat) : Encodes.Statement (.reuseQuota die) := fun _ => rfl
theorem Encodes.reuseFlush (die : Nat) : Encodes.Statement (.reuseFlush die) := fun _ => rfl
theorem Encodes.save (die : Nat) : Encodes.Statement (.save die) := fun _ => rfl
theorem Encodes.purge (die : Nat) : Encodes.Statement (.purge die) := fun _ => rfl
theorem Encodes.inject (die : Nat) : Encodes.Statement (.inject die) := fun _ => rfl
theorem Encodes.monitor (die : Nat) : Encodes.Statement (.monitor die) := fun _ => rfl
theorem Encodes.attest (die : Nat) : Encodes.Statement (.attest die) := fun _ => rfl
theorem Encodes.identityKey (die : Nat) : Encodes.Statement (.identityKey die) := fun _ => rfl
theorem Encodes.threshold (die : Nat) : Encodes.Statement (.threshold die) := fun _ => rfl
theorem Encodes.clearErrors (die : Nat) : Encodes.Statement (.clearErrors die) := fun _ => rfl
theorem Encodes.retrain (die : Nat) : Encodes.Statement (.retrain die) := fun _ => rfl
theorem Encodes.channelTable (die : Nat) : Encodes.Statement (.channelTable die) := fun _ => rfl
theorem Encodes.commandDone (die : Nat) : Encodes.Statement (.commandDone die) := fun _ => rfl
theorem Encodes.translationDoorbell (die : Nat) : Encodes.Statement (.translationDoorbell die) := fun _ => rfl
theorem Encodes.notificationClear (die : Nat) (ntf : BitVec 5) (isl : BitVec 16) : Encodes.Statement (.notificationClear die ntf isl) := fun _ => rfl
theorem Encodes.managementWrite (die : Nat) (off : Nat) (value : Byte) : Encodes.Statement (.managementWrite die off value) := fun _ => rfl
theorem Encodes.launchWordStore (die : Nat) (value : BitVec 64) : Encodes.Statement (.launchWordStore die value) := fun _ => rfl
theorem Encodes.launchCapture (die : Nat) (req : Option Nat) : Encodes.Statement (.launchCapture die req) := fun _ => rfl
theorem Encodes.linkLost (port : Nat) : Encodes.Statement (.linkLost port) := fun _ => rfl
theorem Encodes.correctedError (island : Nat) : Encodes.Statement (.correctedError island) := fun _ => rfl
theorem Encodes.structureError (code : Nat) (place : ElemId) (index : Nat) : Encodes.Statement (.structureError code place index) := fun _ => rfl
theorem Encodes.mElementSoftError (elem : ElemId) (what : Nat) (index : Nat) (flip : BitVec 64) : Encodes.Statement (.mElementSoftError elem what index flip) := fun _ => rfl
theorem Encodes.schedulerCycle : Encodes.Statement (.schedulerCycle) := fun _ => rfl
theorem Encodes.reuseHit (acc : Nat) : Encodes.Statement (.reuseHit acc) := fun _ => rfl
theorem Encodes.imageRejected (region : Nat) : Encodes.Statement (.imageRejected region) := fun _ => rfl
theorem Encodes.loadTakesEffect (region : Nat) : Encodes.Statement (.loadTakesEffect region) := fun _ => rfl
theorem Encodes.regionIdle (region : Nat) : Encodes.Statement (.regionIdle region) := fun _ => rfl
theorem Encodes.reuseInsertion (region : Nat) : Encodes.Statement (.reuseInsertion region) := fun _ => rfl
theorem Encodes.foldDrained (region : Nat) : Encodes.Statement (.foldDrained region) := fun _ => rfl
theorem Encodes.foldAbandon (region : Nat) : Encodes.Statement (.foldAbandon region) := fun _ => rfl
theorem Encodes.saveWritten (region : Nat) : Encodes.Statement (.saveWritten region) := fun _ => rfl
theorem Encodes.restoreWritten (region : Nat) : Encodes.Statement (.restoreWritten region) := fun _ => rfl
theorem Encodes.switchRequestArrival (elem : ElemId) : Encodes.Statement (.switchRequestArrival elem) := fun _ => rfl
theorem Encodes.switchStatusArrival (elem : ElemId) : Encodes.Statement (.switchStatusArrival elem) := fun _ => rfl
theorem Encodes.regionDrained (region : Nat) : Encodes.Statement (.regionDrained region) := fun _ => rfl
theorem Encodes.settlingEnd (region : Nat) : Encodes.Statement (.settlingEnd region) := fun _ => rfl
theorem Encodes.switchDrainTimeout (region : Nat) : Encodes.Statement (.switchDrainTimeout region) := fun _ => rfl
theorem Encodes.stageDry (region : Nat) : Encodes.Statement (.stageDry region) := fun _ => rfl
theorem Encodes.stillness (region : Nat) : Encodes.Statement (.stillness region) := fun _ => rfl
theorem Encodes.switchCycle (elem : ElemId) : Encodes.Statement (.switchCycle elem) := fun _ => rfl
theorem Encodes.spillRecordOffer (elem : ElemId) : Encodes.Statement (.spillRecordOffer elem) := fun _ => rfl
theorem Encodes.spillEnd (elem : ElemId) (bank : BitVec 2) : Encodes.Statement (.spillEnd elem bank) := fun _ => rfl
theorem Encodes.reinstatementStart (elem : ElemId) (rec : Nat) : Encodes.Statement (.reinstatementStart elem rec) := fun _ => rfl
theorem Encodes.reinstatementEnd (elem : ElemId) (rec : Nat) : Encodes.Statement (.reinstatementEnd elem rec) := fun _ => rfl
theorem Encodes.neighbourTransfer (elem : ElemId) (dir : BitVec 2) : Encodes.Statement (.neighbourTransfer elem dir) := fun _ => rfl
theorem Encodes.routeClassEntry (elem : ElemId) : Encodes.Statement (.routeClassEntry elem) := fun _ => rfl
theorem Encodes.tokenDelivery (tile : TileId) (cls : BitVec 6) : Encodes.Statement (.tokenDelivery tile cls) := fun _ => rfl
theorem Encodes.gatewayReject (tile : TileId) (cls : BitVec 6) : Encodes.Statement (.gatewayReject tile cls) := fun _ => rfl
theorem Encodes.controlTokenArrival (elem : ElemId) (chan : BitVec 4) : Encodes.Statement (.controlTokenArrival elem chan) := fun _ => rfl
theorem Encodes.loopLevelChange (elem : ElemId) : Encodes.Statement (.loopLevelChange elem) := fun _ => rfl
theorem Encodes.releaseSend (req : Nat) : Encodes.Statement (.releaseSend req) := fun _ => rfl
theorem Encodes.translationLookup (req : Nat) (useTlb : Bool) : Encodes.Statement (.translationLookup req useTlb) := fun _ => rfl
theorem Encodes.homeAccess (req : Nat) (part : Nat) : Encodes.Statement (.homeAccess req part) := fun _ => rfl
theorem Encodes.responseArrival (req : Nat) : Encodes.Statement (.responseArrival req) := fun _ => rfl
theorem Encodes.ioMessageAvailable (queue : Nat) (msg : List Byte) : Encodes.Statement (.ioMessageAvailable queue msg) := fun _ => rfl
theorem Encodes.ioreadCompletion (req : Nat) : Encodes.Statement (.ioreadCompletion req) := fun _ => rfl
theorem Encodes.sealMark (req : Nat) : Encodes.Statement (.sealMark req) := fun _ => rfl
theorem Encodes.sealHashEnd (die : Nat) : Encodes.Statement (.sealHashEnd die) := fun _ => rfl
theorem Encodes.rangeUnitRequest (req : Nat) : Encodes.Statement (.rangeUnitRequest req) := fun _ => rfl
theorem Encodes.hashEngineRequest (req : Nat) : Encodes.Statement (.hashEngineRequest req) := fun _ => rfl
theorem Encodes.frameRequest (req : Nat) : Encodes.Statement (.frameRequest req) := fun _ => rfl
theorem Encodes.frameEmit (elem : ElemId) : Encodes.Statement (.frameEmit elem) := fun _ => rfl
theorem Encodes.streamStart (tile : TileId) (port : BitVec 4) : Encodes.Statement (.streamStart tile port) := fun _ => rfl
theorem Encodes.streamToken (tile : TileId) (port : BitVec 4) : Encodes.Statement (.streamToken tile port) := fun _ => rfl
theorem Encodes.streamComplete (tile : TileId) (port : BitVec 4) : Encodes.Statement (.streamComplete tile port) := fun _ => rfl
theorem Encodes.copyCapture (elem : ElemId) (sb : BitVec 3) : Encodes.Statement (.copyCapture elem sb) := fun _ => rfl
theorem Encodes.copyChunk (elem : ElemId) (sb : BitVec 3) : Encodes.Statement (.copyChunk elem sb) := fun _ => rfl
theorem Encodes.copyComplete (elem : ElemId) (sb : BitVec 3) : Encodes.Statement (.copyComplete elem sb) := fun _ => rfl
theorem Encodes.rmwApply (req : Nat) : Encodes.Statement (.rmwApply req) := fun _ => rfl
theorem Encodes.intakeBurst (elem : ElemId) : Encodes.Statement (.intakeBurst elem) := fun _ => rfl
theorem Encodes.accumulatorWrite (elem : ElemId) : Encodes.Statement (.accumulatorWrite elem) := fun _ => rfl
theorem Encodes.drainToken (elem : ElemId) : Encodes.Statement (.drainToken elem) := fun _ => rfl
theorem Encodes.thresholdMask (elem : ElemId) : Encodes.Statement (.thresholdMask elem) := fun _ => rfl
theorem Encodes.pageScore (elem : ElemId) (sb : BitVec 3) : Encodes.Statement (.pageScore elem sb) := fun _ => rfl
theorem Encodes.pageListWrite (elem : ElemId) (sb : BitVec 3) : Encodes.Statement (.pageListWrite elem sb) := fun _ => rfl
theorem Encodes.pageStartHandover (elem : ElemId) (sb : BitVec 3) : Encodes.Statement (.pageStartHandover elem sb) := fun _ => rfl
theorem Encodes.quarterAccept (tile : TileId) (q : BitVec 2) : Encodes.Statement (.quarterAccept tile q) := fun _ => rfl
theorem Encodes.fifoEmit (tile : TileId) (q : BitVec 2) : Encodes.Statement (.fifoEmit tile q) := fun _ => rfl
theorem Encodes.lineBufferEmit (tile : TileId) (q : BitVec 2) : Encodes.Statement (.lineBufferEmit tile q) := fun _ => rfl
theorem Encodes.tileStoreWrite (tile : TileId) (q : BitVec 2) : Encodes.Statement (.tileStoreWrite tile q) := fun _ => rfl
theorem Encodes.tileStoreRead (tile : TileId) (q : BitVec 2) : Encodes.Statement (.tileStoreRead tile q) := fun _ => rfl
theorem Encodes.retireHead (region : Nat) : Encodes.Statement (.retireHead region) := fun _ => rfl
theorem Encodes.faultTaken (region : Nat) : Encodes.Statement (.faultTaken region) := fun _ => rfl
theorem Encodes.handlerEntry (region : Nat) : Encodes.Statement (.handlerEntry region) := fun _ => rfl
theorem Encodes.handlerExit (region : Nat) : Encodes.Statement (.handlerExit region) := fun _ => rfl
theorem Encodes.purgeMarking (die : Nat) : Encodes.Statement (.purgeMarking die) := fun _ => rfl
theorem Encodes.purgeSweepDone (die : Nat) : Encodes.Statement (.purgeSweepDone die) := fun _ => rfl
theorem Encodes.purgeRecording (die : Nat) : Encodes.Statement (.purgeRecording die) := fun _ => rfl
theorem Encodes.exitCompare (req0 : Nat) (req1 : Nat) : Encodes.Statement (.exitCompare req0 req1) := fun _ => rfl
theorem Encodes.twinPartnerTimeout (req : Nat) : Encodes.Statement (.twinPartnerTimeout req) := fun _ => rfl
theorem Encodes.nop (t : BitVec 6) : Encodes.Statement (.nop t) := fun _ => decode_packFields _ rfl
theorem Encodes.sete (t : BitVec 6) (a : BitVec 5) : Encodes.Statement (.sete t a) := fun _ => decode_packFields _ rfl
theorem Encodes.clre (t : BitVec 6) (a : BitVec 5) : Encodes.Statement (.clre t a) := fun _ => decode_packFields _ rfl
theorem Encodes.fwd (t : BitVec 6) (d : BitVec 5) (a : BitVec 5) : Encodes.Statement (.fwd t d a) := fun _ => decode_packFields _ rfl
theorem Encodes.fwdT (t : BitVec 6) (d : BitVec 5) (a : BitVec 5) : Encodes.Statement (.fwdT t d a) := fun _ => decode_packFields _ rfl
theorem Encodes.deq (t : BitVec 6) (a : BitVec 5) : Encodes.Statement (.deq t a) := fun _ => decode_packFields _ rfl
theorem Encodes.selQn (t : BitVec 6) (d : BitVec 5) (a : BitVec 5) (b : BitVec 5) (n : BitVec 3) : Encodes.Statement (.selQn t d a b n) := by
  intro h
  have hf := fnOk_of_wf h rfl
  rcases bv3 n with rfl | rfl | rfl | rfl | rfl | rfl | rfl | rfl <;>
  first
    | with_unfolding_all exact absurd hf Bool.false_ne_true
    | (refine (decode_packFields _ ?_).trans ?_ <;> with_unfolding_all rfl)
theorem Encodes.cfgsw (t : BitVec 6) (d : BitVec 5) (a : BitVec 5) : Encodes.Statement (.cfgsw t d a) := fun _ => decode_packFields _ rfl
theorem Encodes.cfgswCc (t : BitVec 6) (d : BitVec 5) (c : BitVec 2) : Encodes.Statement (.cfgswCc t d c) := by
  intro _
  rcases bv2 c with rfl | rfl | rfl | rfl <;>
  (refine (decode_packFields _ ?_).trans ?_ <;> with_unfolding_all rfl)
theorem Encodes.ctok (t : BitVec 6) (b : BitVec 5) : Encodes.Statement (.ctok t b) := fun _ => decode_packFields _ rfl
theorem Encodes.cwait (t : BitVec 6) (b : BitVec 5) : Encodes.Statement (.cwait t b) := fun _ => decode_packFields _ rfl
theorem Encodes.mov (t : BitVec 6) (d : BitVec 5) (a : BitVec 5) : Encodes.Statement (.mov t d a) := fun _ => decode_packFields _ rfl
theorem Encodes.movp (t : BitVec 6) (d : BitVec 5) (a : BitVec 5) : Encodes.Statement (.movp t d a) := fun _ => decode_packFields _ rfl
theorem Encodes.mvse (t : BitVec 6) (d : BitVec 5) : Encodes.Statement (.mvse t d) := fun _ => decode_packFields _ rfl
theorem Encodes.mvsb (t : BitVec 6) (d : BitVec 5) (a : BitVec 5) : Encodes.Statement (.mvsb t d a) := fun _ => decode_packFields _ rfl
theorem Encodes.movi (t : BitVec 6) (d : BitVec 5) (i : BitVec 10) : Encodes.Statement (.movi t d i) := by
  intro _
  exact (decode_packFields _ rfl).trans (congrArg (fun j => Except.ok (Instr.movi t d j)) (join10 i))
theorem Encodes.movl (t : BitVec 6) (d : BitVec 5) (i : BitVec 15) : Encodes.Statement (.movl t d i) := by
  intro _
  exact (decode_packFields _ rfl).trans (congrArg (fun j => Except.ok (Instr.movl t d j)) (join15 i))
theorem Encodes.add (t : BitVec 6) (d : BitVec 5) (a : BitVec 5) (b : BitVec 5) : Encodes.Statement (.add t d a b) := fun _ => decode_packFields _ rfl
theorem Encodes.sub (t : BitVec 6) (d : BitVec 5) (a : BitVec 5) (b : BitVec 5) : Encodes.Statement (.sub t d a b) := fun _ => decode_packFields _ rfl
theorem Encodes.addsS32 (t : BitVec 6) (d : BitVec 5) (a : BitVec 5) (b : BitVec 5) : Encodes.Statement (.addsS32 t d a b) := fun _ => decode_packFields _ rfl
theorem Encodes.addsN32 (t : BitVec 6) (d : BitVec 5) (a : BitVec 5) (b : BitVec 5) : Encodes.Statement (.addsN32 t d a b) := fun _ => decode_packFields _ rfl
theorem Encodes.subsS32 (t : BitVec 6) (d : BitVec 5) (a : BitVec 5) (b : BitVec 5) : Encodes.Statement (.subsS32 t d a b) := fun _ => decode_packFields _ rfl
theorem Encodes.subsN32 (t : BitVec 6) (d : BitVec 5) (a : BitVec 5) (b : BitVec 5) : Encodes.Statement (.subsN32 t d a b) := fun _ => decode_packFields _ rfl
theorem Encodes.and (t : BitVec 6) (d : BitVec 5) (a : BitVec 5) (b : BitVec 5) : Encodes.Statement (.and t d a b) := fun _ => decode_packFields _ rfl
theorem Encodes.or (t : BitVec 6) (d : BitVec 5) (a : BitVec 5) (b : BitVec 5) : Encodes.Statement (.or t d a b) := fun _ => decode_packFields _ rfl
theorem Encodes.xor (t : BitVec 6) (d : BitVec 5) (a : BitVec 5) (b : BitVec 5) : Encodes.Statement (.xor t d a b) := fun _ => decode_packFields _ rfl
theorem Encodes.andn (t : BitVec 6) (d : BitVec 5) (a : BitVec 5) (b : BitVec 5) : Encodes.Statement (.andn t d a b) := fun _ => decode_packFields _ rfl
theorem Encodes.shl (t : BitVec 6) (d : BitVec 5) (a : BitVec 5) (b : BitVec 5) : Encodes.Statement (.shl t d a b) := fun _ => decode_packFields _ rfl
theorem Encodes.shr (t : BitVec 6) (d : BitVec 5) (a : BitVec 5) (b : BitVec 5) : Encodes.Statement (.shr t d a b) := fun _ => decode_packFields _ rfl
theorem Encodes.sra (t : BitVec 6) (d : BitVec 5) (a : BitVec 5) (b : BitVec 5) : Encodes.Statement (.sra t d a b) := fun _ => decode_packFields _ rfl
theorem Encodes.rotl (t : BitVec 6) (d : BitVec 5) (a : BitVec 5) (b : BitVec 5) : Encodes.Statement (.rotl t d a b) := fun _ => decode_packFields _ rfl
theorem Encodes.minS32 (t : BitVec 6) (d : BitVec 5) (a : BitVec 5) (b : BitVec 5) : Encodes.Statement (.minS32 t d a b) := fun _ => decode_packFields _ rfl
theorem Encodes.minN32 (t : BitVec 6) (d : BitVec 5) (a : BitVec 5) (b : BitVec 5) : Encodes.Statement (.minN32 t d a b) := fun _ => decode_packFields _ rfl
theorem Encodes.maxS32 (t : BitVec 6) (d : BitVec 5) (a : BitVec 5) (b : BitVec 5) : Encodes.Statement (.maxS32 t d a b) := fun _ => decode_packFields _ rfl
theorem Encodes.maxN32 (t : BitVec 6) (d : BitVec 5) (a : BitVec 5) (b : BitVec 5) : Encodes.Statement (.maxN32 t d a b) := fun _ => decode_packFields _ rfl
theorem Encodes.absS32 (t : BitVec 6) (d : BitVec 5) (a : BitVec 5) : Encodes.Statement (.absS32 t d a) := fun _ => decode_packFields _ rfl
theorem Encodes.neg (t : BitVec 6) (d : BitVec 5) (a : BitVec 5) : Encodes.Statement (.neg t d a) := fun _ => decode_packFields _ rfl
theorem Encodes.not (t : BitVec 6) (d : BitVec 5) (a : BitVec 5) : Encodes.Statement (.not t d a) := fun _ => decode_packFields _ rfl
theorem Encodes.addi (t : BitVec 6) (d : BitVec 5) (a : BitVec 5) (i : BitVec 10) : Encodes.Statement (.addi t d a i) := by
  intro _
  exact (decode_packFields _ rfl).trans (congrArg (fun j => Except.ok (Instr.addi t d a j)) (join10 i))
theorem Encodes.andi (t : BitVec 6) (d : BitVec 5) (a : BitVec 5) (i : BitVec 10) : Encodes.Statement (.andi t d a i) := by
  intro _
  exact (decode_packFields _ rfl).trans (congrArg (fun j => Except.ok (Instr.andi t d a j)) (join10 i))
theorem Encodes.mul (t : BitVec 6) (d : BitVec 5) (a : BitVec 5) (b : BitVec 5) : Encodes.Statement (.mul t d a b) := fun _ => decode_packFields _ rfl
theorem Encodes.mulhS32 (t : BitVec 6) (d : BitVec 5) (a : BitVec 5) (b : BitVec 5) : Encodes.Statement (.mulhS32 t d a b) := fun _ => decode_packFields _ rfl
theorem Encodes.mulhN32 (t : BitVec 6) (d : BitVec 5) (a : BitVec 5) (b : BitVec 5) : Encodes.Statement (.mulhN32 t d a b) := fun _ => decode_packFields _ rfl
theorem Encodes.mulwS16 (t : BitVec 6) (d : BitVec 5) (a : BitVec 5) (b : BitVec 5) : Encodes.Statement (.mulwS16 t d a b) := fun _ => decode_packFields _ rfl
theorem Encodes.mulwN16 (t : BitVec 6) (d : BitVec 5) (a : BitVec 5) (b : BitVec 5) : Encodes.Statement (.mulwN16 t d a b) := fun _ => decode_packFields _ rfl
theorem Encodes.ceq (t : BitVec 6) (d : BitVec 5) (a : BitVec 5) (b : BitVec 5) : Encodes.Statement (.ceq t d a b) := fun _ => decode_packFields _ rfl
theorem Encodes.cne (t : BitVec 6) (d : BitVec 5) (a : BitVec 5) (b : BitVec 5) : Encodes.Statement (.cne t d a b) := fun _ => decode_packFields _ rfl
theorem Encodes.cltS32 (t : BitVec 6) (d : BitVec 5) (a : BitVec 5) (b : BitVec 5) : Encodes.Statement (.cltS32 t d a b) := fun _ => decode_packFields _ rfl
theorem Encodes.cleS32 (t : BitVec 6) (d : BitVec 5) (a : BitVec 5) (b : BitVec 5) : Encodes.Statement (.cleS32 t d a b) := fun _ => decode_packFields _ rfl
theorem Encodes.cgtS32 (t : BitVec 6) (d : BitVec 5) (a : BitVec 5) (b : BitVec 5) : Encodes.Statement (.cgtS32 t d a b) := fun _ => decode_packFields _ rfl
theorem Encodes.cgeS32 (t : BitVec 6) (d : BitVec 5) (a : BitVec 5) (b : BitVec 5) : Encodes.Statement (.cgeS32 t d a b) := fun _ => decode_packFields _ rfl
theorem Encodes.cltN32 (t : BitVec 6) (d : BitVec 5) (a : BitVec 5) (b : BitVec 5) : Encodes.Statement (.cltN32 t d a b) := fun _ => decode_packFields _ rfl
theorem Encodes.cleN32 (t : BitVec 6) (d : BitVec 5) (a : BitVec 5) (b : BitVec 5) : Encodes.Statement (.cleN32 t d a b) := fun _ => decode_packFields _ rfl
theorem Encodes.cgtN32 (t : BitVec 6) (d : BitVec 5) (a : BitVec 5) (b : BitVec 5) : Encodes.Statement (.cgtN32 t d a b) := fun _ => decode_packFields _ rfl
theorem Encodes.cgeN32 (t : BitVec 6) (d : BitVec 5) (a : BitVec 5) (b : BitVec 5) : Encodes.Statement (.cgeN32 t d a b) := fun _ => decode_packFields _ rfl
theorem Encodes.pand (t : BitVec 6) (d : BitVec 5) (a : BitVec 5) (b : BitVec 5) : Encodes.Statement (.pand t d a b) := fun _ => decode_packFields _ rfl
theorem Encodes.por (t : BitVec 6) (d : BitVec 5) (a : BitVec 5) (b : BitVec 5) : Encodes.Statement (.por t d a b) := fun _ => decode_packFields _ rfl
theorem Encodes.pxor (t : BitVec 6) (d : BitVec 5) (a : BitVec 5) (b : BitVec 5) : Encodes.Statement (.pxor t d a b) := fun _ => decode_packFields _ rfl
theorem Encodes.pandn (t : BitVec 6) (d : BitVec 5) (a : BitVec 5) (b : BitVec 5) : Encodes.Statement (.pandn t d a b) := fun _ => decode_packFields _ rfl
theorem Encodes.pnot (t : BitVec 6) (d : BitVec 5) (a : BitVec 5) : Encodes.Statement (.pnot t d a) := fun _ => decode_packFields _ rfl
theorem Encodes.pany (t : BitVec 6) (d : BitVec 5) (a : BitVec 5) : Encodes.Statement (.pany t d a) := fun _ => decode_packFields _ rfl
theorem Encodes.pall (t : BitVec 6) (d : BitVec 5) (a : BitVec 5) : Encodes.Statement (.pall t d a) := fun _ => decode_packFields _ rfl
theorem Encodes.bcast (t : BitVec 6) (d : BitVec 5) (a : BitVec 5) (b : BitVec 5) : Encodes.Statement (.bcast t d a b) := fun _ => decode_packFields _ rfl
theorem Encodes.perm (t : BitVec 6) (d : BitVec 5) (a : BitVec 5) (b : BitVec 5) : Encodes.Statement (.perm t d a b) := fun _ => decode_packFields _ rfl
theorem Encodes.lrot (t : BitVec 6) (d : BitVec 5) (a : BitVec 5) (b : BitVec 5) : Encodes.Statement (.lrot t d a b) := fun _ => decode_packFields _ rfl
theorem Encodes.lshd (t : BitVec 6) (d : BitVec 5) (a : BitVec 5) (b : BitVec 5) : Encodes.Statement (.lshd t d a b) := fun _ => decode_packFields _ rfl
theorem Encodes.pack (t : BitVec 6) (d : BitVec 5) (a : BitVec 5) : Encodes.Statement (.pack t d a) := fun _ => decode_packFields _ rfl
theorem Encodes.cset (t : BitVec 6) (d : BitVec 5) (a : BitVec 5) : Encodes.Statement (.cset t d a) := fun _ => decode_packFields _ rfl
theorem Encodes.cstep (t : BitVec 6) (d : BitVec 5) (b : BitVec 5) : Encodes.Statement (.cstep t d b) := fun _ => decode_packFields _ rfl
theorem Encodes.crd (t : BitVec 6) (d : BitVec 5) : Encodes.Statement (.crd t d) := fun _ => decode_packFields _ rfl
theorem Encodes.popc (t : BitVec 6) (d : BitVec 5) (a : BitVec 5) : Encodes.Statement (.popc t d a) := fun _ => decode_packFields _ rfl
theorem Encodes.clz (t : BitVec 6) (d : BitVec 5) (a : BitVec 5) : Encodes.Statement (.clz t d a) := fun _ => decode_packFields _ rfl
theorem Encodes.ctz (t : BitVec 6) (d : BitVec 5) (a : BitVec 5) : Encodes.Statement (.ctz t d a) := fun _ => decode_packFields _ rfl
theorem Encodes.brev (t : BitVec 6) (d : BitVec 5) (a : BitVec 5) : Encodes.Statement (.brev t d a) := fun _ => decode_packFields _ rfl
theorem Encodes.bswap (t : BitVec 6) (d : BitVec 5) (a : BitVec 5) : Encodes.Statement (.bswap t d a) := fun _ => decode_packFields _ rfl
theorem Encodes.bfxN32 (t : BitVec 6) (d : BitVec 5) (a : BitVec 5) (b : BitVec 5) : Encodes.Statement (.bfxN32 t d a b) := fun _ => decode_packFields _ rfl
theorem Encodes.bfxS32 (t : BitVec 6) (d : BitVec 5) (a : BitVec 5) (b : BitVec 5) : Encodes.Statement (.bfxS32 t d a b) := fun _ => decode_packFields _ rfl
theorem Encodes.faddF32 (t : BitVec 6) (d : BitVec 5) (a : BitVec 5) (b : BitVec 5) (r : BitVec 2) : Encodes.Statement (.faddF32 t d a b r) := by
  intro _
  rcases bv2 r with rfl | rfl | rfl | rfl <;>
  (refine (decode_packFields _ ?_).trans ?_ <;> with_unfolding_all rfl)
theorem Encodes.fsubF32 (t : BitVec 6) (d : BitVec 5) (a : BitVec 5) (b : BitVec 5) (r : BitVec 2) : Encodes.Statement (.fsubF32 t d a b r) := by
  intro _
  rcases bv2 r with rfl | rfl | rfl | rfl <;>
  (refine (decode_packFields _ ?_).trans ?_ <;> with_unfolding_all rfl)
theorem Encodes.fmulF32 (t : BitVec 6) (d : BitVec 5) (a : BitVec 5) (b : BitVec 5) (r : BitVec 2) : Encodes.Statement (.fmulF32 t d a b r) := by
  intro _
  rcases bv2 r with rfl | rfl | rfl | rfl <;>
  (refine (decode_packFields _ ?_).trans ?_ <;> with_unfolding_all rfl)
theorem Encodes.fdivF32 (t : BitVec 6) (d : BitVec 5) (a : BitVec 5) (b : BitVec 5) (r : BitVec 2) : Encodes.Statement (.fdivF32 t d a b r) := by
  intro _
  rcases bv2 r with rfl | rfl | rfl | rfl <;>
  (refine (decode_packFields _ ?_).trans ?_ <;> with_unfolding_all rfl)
theorem Encodes.fsqrtF32 (t : BitVec 6) (d : BitVec 5) (a : BitVec 5) (r : BitVec 2) : Encodes.Statement (.fsqrtF32 t d a r) := by
  intro _
  rcases bv2 r with rfl | rfl | rfl | rfl <;>
  (refine (decode_packFields _ ?_).trans ?_ <;> with_unfolding_all rfl)
theorem Encodes.ffmaF32 (t : BitVec 6) (d : BitVec 5) (a : BitVec 5) (b : BitVec 5) (r : BitVec 2) : Encodes.Statement (.ffmaF32 t d a b r) := by
  intro _
  rcases bv2 r with rfl | rfl | rfl | rfl <;>
  (refine (decode_packFields _ ?_).trans ?_ <;> with_unfolding_all rfl)
theorem Encodes.ffmsF32 (t : BitVec 6) (d : BitVec 5) (a : BitVec 5) (b : BitVec 5) (r : BitVec 2) : Encodes.Statement (.ffmsF32 t d a b r) := by
  intro _
  rcases bv2 r with rfl | rfl | rfl | rfl <;>
  (refine (decode_packFields _ ?_).trans ?_ <;> with_unfolding_all rfl)
theorem Encodes.ffnmaF32 (t : BitVec 6) (d : BitVec 5) (a : BitVec 5) (b : BitVec 5) (r : BitVec 2) : Encodes.Statement (.ffnmaF32 t d a b r) := by
  intro _
  rcases bv2 r with rfl | rfl | rfl | rfl <;>
  (refine (decode_packFields _ ?_).trans ?_ <;> with_unfolding_all rfl)
theorem Encodes.ffnmsF32 (t : BitVec 6) (d : BitVec 5) (a : BitVec 5) (b : BitVec 5) (r : BitVec 2) : Encodes.Statement (.ffnmsF32 t d a b r) := by
  intro _
  rcases bv2 r with rfl | rfl | rfl | rfl <;>
  (refine (decode_packFields _ ?_).trans ?_ <;> with_unfolding_all rfl)
theorem Encodes.fminF32 (t : BitVec 6) (d : BitVec 5) (a : BitVec 5) (b : BitVec 5) : Encodes.Statement (.fminF32 t d a b) := fun _ => decode_packFields _ rfl
theorem Encodes.fmaxF32 (t : BitVec 6) (d : BitVec 5) (a : BitVec 5) (b : BitVec 5) : Encodes.Statement (.fmaxF32 t d a b) := fun _ => decode_packFields _ rfl
theorem Encodes.fabsF32 (t : BitVec 6) (d : BitVec 5) (a : BitVec 5) : Encodes.Statement (.fabsF32 t d a) := fun _ => decode_packFields _ rfl
theorem Encodes.fnegF32 (t : BitVec 6) (d : BitVec 5) (a : BitVec 5) : Encodes.Statement (.fnegF32 t d a) := fun _ => decode_packFields _ rfl
theorem Encodes.fsgnF32 (t : BitVec 6) (d : BitVec 5) (a : BitVec 5) (b : BitVec 5) : Encodes.Statement (.fsgnF32 t d a b) := fun _ => decode_packFields _ rfl
theorem Encodes.fminBf16x2 (t : BitVec 6) (d : BitVec 5) (a : BitVec 5) (b : BitVec 5) : Encodes.Statement (.fminBf16x2 t d a b) := fun _ => decode_packFields _ rfl
theorem Encodes.fmaxBf16x2 (t : BitVec 6) (d : BitVec 5) (a : BitVec 5) (b : BitVec 5) : Encodes.Statement (.fmaxBf16x2 t d a b) := fun _ => decode_packFields _ rfl
theorem Encodes.fminF16x2 (t : BitVec 6) (d : BitVec 5) (a : BitVec 5) (b : BitVec 5) : Encodes.Statement (.fminF16x2 t d a b) := fun _ => decode_packFields _ rfl
theorem Encodes.fmaxF16x2 (t : BitVec 6) (d : BitVec 5) (a : BitVec 5) (b : BitVec 5) : Encodes.Statement (.fmaxF16x2 t d a b) := fun _ => decode_packFields _ rfl
theorem Encodes.fabsBf16x2 (t : BitVec 6) (d : BitVec 5) (a : BitVec 5) : Encodes.Statement (.fabsBf16x2 t d a) := fun _ => decode_packFields _ rfl
theorem Encodes.fnegBf16x2 (t : BitVec 6) (d : BitVec 5) (a : BitVec 5) : Encodes.Statement (.fnegBf16x2 t d a) := fun _ => decode_packFields _ rfl
theorem Encodes.fsgnBf16x2 (t : BitVec 6) (d : BitVec 5) (a : BitVec 5) (b : BitVec 5) : Encodes.Statement (.fsgnBf16x2 t d a b) := fun _ => decode_packFields _ rfl
theorem Encodes.fabsF16x2 (t : BitVec 6) (d : BitVec 5) (a : BitVec 5) : Encodes.Statement (.fabsF16x2 t d a) := fun _ => decode_packFields _ rfl
theorem Encodes.fnegF16x2 (t : BitVec 6) (d : BitVec 5) (a : BitVec 5) : Encodes.Statement (.fnegF16x2 t d a) := fun _ => decode_packFields _ rfl
theorem Encodes.fsgnF16x2 (t : BitVec 6) (d : BitVec 5) (a : BitVec 5) (b : BitVec 5) : Encodes.Statement (.fsgnF16x2 t d a b) := fun _ => decode_packFields _ rfl
theorem Encodes.faddBf16x2 (t : BitVec 6) (d : BitVec 5) (a : BitVec 5) (b : BitVec 5) (r : BitVec 2) : Encodes.Statement (.faddBf16x2 t d a b r) := by
  intro _
  rcases bv2 r with rfl | rfl | rfl | rfl <;>
  (refine (decode_packFields _ ?_).trans ?_ <;> with_unfolding_all rfl)
theorem Encodes.fsubBf16x2 (t : BitVec 6) (d : BitVec 5) (a : BitVec 5) (b : BitVec 5) (r : BitVec 2) : Encodes.Statement (.fsubBf16x2 t d a b r) := by
  intro _
  rcases bv2 r with rfl | rfl | rfl | rfl <;>
  (refine (decode_packFields _ ?_).trans ?_ <;> with_unfolding_all rfl)
theorem Encodes.fmulBf16x2 (t : BitVec 6) (d : BitVec 5) (a : BitVec 5) (b : BitVec 5) (r : BitVec 2) : Encodes.Statement (.fmulBf16x2 t d a b r) := by
  intro _
  rcases bv2 r with rfl | rfl | rfl | rfl <;>
  (refine (decode_packFields _ ?_).trans ?_ <;> with_unfolding_all rfl)
theorem Encodes.ffmaBf16x2 (t : BitVec 6) (d : BitVec 5) (a : BitVec 5) (b : BitVec 5) (r : BitVec 2) : Encodes.Statement (.ffmaBf16x2 t d a b r) := by
  intro _
  rcases bv2 r with rfl | rfl | rfl | rfl <;>
  (refine (decode_packFields _ ?_).trans ?_ <;> with_unfolding_all rfl)
theorem Encodes.faddF16x2 (t : BitVec 6) (d : BitVec 5) (a : BitVec 5) (b : BitVec 5) (r : BitVec 2) : Encodes.Statement (.faddF16x2 t d a b r) := by
  intro _
  rcases bv2 r with rfl | rfl | rfl | rfl <;>
  (refine (decode_packFields _ ?_).trans ?_ <;> with_unfolding_all rfl)
theorem Encodes.fsubF16x2 (t : BitVec 6) (d : BitVec 5) (a : BitVec 5) (b : BitVec 5) (r : BitVec 2) : Encodes.Statement (.fsubF16x2 t d a b r) := by
  intro _
  rcases bv2 r with rfl | rfl | rfl | rfl <;>
  (refine (decode_packFields _ ?_).trans ?_ <;> with_unfolding_all rfl)
theorem Encodes.fmulF16x2 (t : BitVec 6) (d : BitVec 5) (a : BitVec 5) (b : BitVec 5) (r : BitVec 2) : Encodes.Statement (.fmulF16x2 t d a b r) := by
  intro _
  rcases bv2 r with rfl | rfl | rfl | rfl <;>
  (refine (decode_packFields _ ?_).trans ?_ <;> with_unfolding_all rfl)
theorem Encodes.ffmaF16x2 (t : BitVec 6) (d : BitVec 5) (a : BitVec 5) (b : BitVec 5) (r : BitVec 2) : Encodes.Statement (.ffmaF16x2 t d a b r) := by
  intro _
  rcases bv2 r with rfl | rfl | rfl | rfl <;>
  (refine (decode_packFields _ ?_).trans ?_ <;> with_unfolding_all rfl)
theorem Encodes.fdot2Bf16 (t : BitVec 6) (d : BitVec 5) (a : BitVec 5) (b : BitVec 5) (r : BitVec 2) : Encodes.Statement (.fdot2Bf16 t d a b r) := by
  intro _
  rcases bv2 r with rfl | rfl | rfl | rfl <;>
  (refine (decode_packFields _ ?_).trans ?_ <;> with_unfolding_all rfl)
theorem Encodes.fdot2F16 (t : BitVec 6) (d : BitVec 5) (a : BitVec 5) (b : BitVec 5) (r : BitVec 2) : Encodes.Statement (.fdot2F16 t d a b r) := by
  intro _
  rcases bv2 r with rfl | rfl | rfl | rfl <;>
  (refine (decode_packFields _ ?_).trans ?_ <;> with_unfolding_all rfl)
theorem Encodes.fdot4E4m3 (t : BitVec 6) (d : BitVec 5) (a : BitVec 5) (b : BitVec 5) (r : BitVec 2) : Encodes.Statement (.fdot4E4m3 t d a b r) := by
  intro _
  rcases bv2 r with rfl | rfl | rfl | rfl <;>
  (refine (decode_packFields _ ?_).trans ?_ <;> with_unfolding_all rfl)
theorem Encodes.fdot4E5m2 (t : BitVec 6) (d : BitVec 5) (a : BitVec 5) (b : BitVec 5) (r : BitVec 2) : Encodes.Statement (.fdot4E5m2 t d a b r) := by
  intro _
  rcases bv2 r with rfl | rfl | rfl | rfl <;>
  (refine (decode_packFields _ ?_).trans ?_ <;> with_unfolding_all rfl)
theorem Encodes.idot4S8 (t : BitVec 6) (d : BitVec 5) (a : BitVec 5) (b : BitVec 5) : Encodes.Statement (.idot4S8 t d a b) := fun _ => decode_packFields _ rfl
theorem Encodes.idot4N8 (t : BitVec 6) (d : BitVec 5) (a : BitVec 5) (b : BitVec 5) : Encodes.Statement (.idot4N8 t d a b) := fun _ => decode_packFields _ rfl
theorem Encodes.fceqF32 (t : BitVec 6) (d : BitVec 5) (a : BitVec 5) (b : BitVec 5) : Encodes.Statement (.fceqF32 t d a b) := fun _ => decode_packFields _ rfl
theorem Encodes.fcneF32 (t : BitVec 6) (d : BitVec 5) (a : BitVec 5) (b : BitVec 5) : Encodes.Statement (.fcneF32 t d a b) := fun _ => decode_packFields _ rfl
theorem Encodes.fcltF32 (t : BitVec 6) (d : BitVec 5) (a : BitVec 5) (b : BitVec 5) : Encodes.Statement (.fcltF32 t d a b) := fun _ => decode_packFields _ rfl
theorem Encodes.fcleF32 (t : BitVec 6) (d : BitVec 5) (a : BitVec 5) (b : BitVec 5) : Encodes.Statement (.fcleF32 t d a b) := fun _ => decode_packFields _ rfl
theorem Encodes.fcgtF32 (t : BitVec 6) (d : BitVec 5) (a : BitVec 5) (b : BitVec 5) : Encodes.Statement (.fcgtF32 t d a b) := fun _ => decode_packFields _ rfl
theorem Encodes.fcgeF32 (t : BitVec 6) (d : BitVec 5) (a : BitVec 5) (b : BitVec 5) : Encodes.Statement (.fcgeF32 t d a b) := fun _ => decode_packFields _ rfl
theorem Encodes.fcunF32 (t : BitVec 6) (d : BitVec 5) (a : BitVec 5) (b : BitVec 5) : Encodes.Statement (.fcunF32 t d a b) := fun _ => decode_packFields _ rfl
theorem Encodes.fclassF32 (t : BitVec 6) (d : BitVec 5) (a : BitVec 5) : Encodes.Statement (.fclassF32 t d a) := fun _ => decode_packFields _ rfl
theorem Encodes.fclassBf16x2 (t : BitVec 6) (d : BitVec 5) (a : BitVec 5) : Encodes.Statement (.fclassBf16x2 t d a) := fun _ => decode_packFields _ rfl
theorem Encodes.fclassF16x2 (t : BitVec 6) (d : BitVec 5) (a : BitVec 5) : Encodes.Statement (.fclassF16x2 t d a) := fun _ => decode_packFields _ rfl
theorem Encodes.ftestF32 (t : BitVec 6) (d : BitVec 5) (a : BitVec 5) (b : BitVec 5) : Encodes.Statement (.ftestF32 t d a b) := fun _ => decode_packFields _ rfl
theorem Encodes.cvtF32Bf16 (t : BitVec 6) (d : BitVec 5) (a : BitVec 5) (b : BitVec 5) : Encodes.Statement (.cvtF32Bf16 t d a b) := fun _ => decode_packFields _ rfl
theorem Encodes.cvtF32F16 (t : BitVec 6) (d : BitVec 5) (a : BitVec 5) (b : BitVec 5) : Encodes.Statement (.cvtF32F16 t d a b) := fun _ => decode_packFields _ rfl
theorem Encodes.cvtBf16x2F32 (t : BitVec 6) (d : BitVec 5) (a : BitVec 5) (b : BitVec 5) (r : BitVec 2) : Encodes.Statement (.cvtBf16x2F32 t d a b r) := by
  intro _
  rcases bv2 r with rfl | rfl | rfl | rfl <;>
  (refine (decode_packFields _ ?_).trans ?_ <;> with_unfolding_all rfl)
theorem Encodes.cvtF16x2F32 (t : BitVec 6) (d : BitVec 5) (a : BitVec 5) (b : BitVec 5) (r : BitVec 2) : Encodes.Statement (.cvtF16x2F32 t d a b r) := by
  intro _
  rcases bv2 r with rfl | rfl | rfl | rfl <;>
  (refine (decode_packFields _ ?_).trans ?_ <;> with_unfolding_all rfl)
theorem Encodes.cvtBf16x2F16x2 (t : BitVec 6) (d : BitVec 5) (a : BitVec 5) (r : BitVec 2) : Encodes.Statement (.cvtBf16x2F16x2 t d a r) := by
  intro _
  rcases bv2 r with rfl | rfl | rfl | rfl <;>
  (refine (decode_packFields _ ?_).trans ?_ <;> with_unfolding_all rfl)
theorem Encodes.cvtF16x2Bf16x2 (t : BitVec 6) (d : BitVec 5) (a : BitVec 5) (r : BitVec 2) : Encodes.Statement (.cvtF16x2Bf16x2 t d a r) := by
  intro _
  rcases bv2 r with rfl | rfl | rfl | rfl <;>
  (refine (decode_packFields _ ?_).trans ?_ <;> with_unfolding_all rfl)
theorem Encodes.cvtS32F32 (t : BitVec 6) (d : BitVec 5) (a : BitVec 5) (r : BitVec 2) : Encodes.Statement (.cvtS32F32 t d a r) := by
  intro _
  rcases bv2 r with rfl | rfl | rfl | rfl <;>
  (refine (decode_packFields _ ?_).trans ?_ <;> with_unfolding_all rfl)
theorem Encodes.cvtN32F32 (t : BitVec 6) (d : BitVec 5) (a : BitVec 5) (r : BitVec 2) : Encodes.Statement (.cvtN32F32 t d a r) := by
  intro _
  rcases bv2 r with rfl | rfl | rfl | rfl <;>
  (refine (decode_packFields _ ?_).trans ?_ <;> with_unfolding_all rfl)
theorem Encodes.cvtF32S32 (t : BitVec 6) (d : BitVec 5) (a : BitVec 5) (r : BitVec 2) : Encodes.Statement (.cvtF32S32 t d a r) := by
  intro _
  rcases bv2 r with rfl | rfl | rfl | rfl <;>
  (refine (decode_packFields _ ?_).trans ?_ <;> with_unfolding_all rfl)
theorem Encodes.cvtF32N32 (t : BitVec 6) (d : BitVec 5) (a : BitVec 5) (r : BitVec 2) : Encodes.Statement (.cvtF32N32 t d a r) := by
  intro _
  rcases bv2 r with rfl | rfl | rfl | rfl <;>
  (refine (decode_packFields _ ?_).trans ?_ <;> with_unfolding_all rfl)
theorem Encodes.cvtStochBf16x2F32 (t : BitVec 6) (d : BitVec 5) (a : BitVec 5) (b : BitVec 5) : Encodes.Statement (.cvtStochBf16x2F32 t d a b) := fun _ => decode_packFields _ rfl
theorem Encodes.cvtStochF16x2F32 (t : BitVec 6) (d : BitVec 5) (a : BitVec 5) (b : BitVec 5) : Encodes.Statement (.cvtStochF16x2F32 t d a b) := fun _ => decode_packFields _ rfl
theorem Encodes.cvtStochE4m3x2F32 (t : BitVec 6) (d : BitVec 5) (a : BitVec 5) (b : BitVec 5) : Encodes.Statement (.cvtStochE4m3x2F32 t d a b) := fun _ => decode_packFields _ rfl
theorem Encodes.cvtStochE5m2x2F32 (t : BitVec 6) (d : BitVec 5) (a : BitVec 5) (b : BitVec 5) : Encodes.Statement (.cvtStochE5m2x2F32 t d a b) := fun _ => decode_packFields _ rfl
theorem Encodes.mxscE4m3 (t : BitVec 6) (d : BitVec 5) (a : BitVec 5) : Encodes.Statement (.mxscE4m3 t d a) := fun _ => decode_packFields _ rfl
theorem Encodes.mxscE5m2 (t : BitVec 6) (d : BitVec 5) (a : BitVec 5) : Encodes.Statement (.mxscE5m2 t d a) := fun _ => decode_packFields _ rfl
theorem Encodes.mxscE3m2 (t : BitVec 6) (d : BitVec 5) (a : BitVec 5) : Encodes.Statement (.mxscE3m2 t d a) := fun _ => decode_packFields _ rfl
theorem Encodes.mxscE2m3 (t : BitVec 6) (d : BitVec 5) (a : BitVec 5) : Encodes.Statement (.mxscE2m3 t d a) := fun _ => decode_packFields _ rfl
theorem Encodes.mxscE2m1 (t : BitVec 6) (d : BitVec 5) (a : BitVec 5) : Encodes.Statement (.mxscE2m1 t d a) := fun _ => decode_packFields _ rfl
theorem Encodes.mxdqE4m3 (t : BitVec 6) (d : BitVec 5) (a : BitVec 5) (b : BitVec 5) : Encodes.Statement (.mxdqE4m3 t d a b) := fun _ => decode_packFields _ rfl
theorem Encodes.mxdqE5m2 (t : BitVec 6) (d : BitVec 5) (a : BitVec 5) (b : BitVec 5) : Encodes.Statement (.mxdqE5m2 t d a b) := fun _ => decode_packFields _ rfl
theorem Encodes.mxdqE3m2 (t : BitVec 6) (d : BitVec 5) (a : BitVec 5) (b : BitVec 5) : Encodes.Statement (.mxdqE3m2 t d a b) := fun _ => decode_packFields _ rfl
theorem Encodes.mxdqE2m3 (t : BitVec 6) (d : BitVec 5) (a : BitVec 5) (b : BitVec 5) : Encodes.Statement (.mxdqE2m3 t d a b) := fun _ => decode_packFields _ rfl
theorem Encodes.mxdqE2m1 (t : BitVec 6) (d : BitVec 5) (a : BitVec 5) (b : BitVec 5) : Encodes.Statement (.mxdqE2m1 t d a b) := fun _ => decode_packFields _ rfl
theorem Encodes.mxqE4m3 (t : BitVec 6) (d : BitVec 5) (a : BitVec 5) (b : BitVec 5) (r : BitVec 2) : Encodes.Statement (.mxqE4m3 t d a b r) := by
  intro _
  rcases bv2 r with rfl | rfl | rfl | rfl <;>
  (refine (decode_packFields _ ?_).trans ?_ <;> with_unfolding_all rfl)
theorem Encodes.mxqE5m2 (t : BitVec 6) (d : BitVec 5) (a : BitVec 5) (b : BitVec 5) (r : BitVec 2) : Encodes.Statement (.mxqE5m2 t d a b r) := by
  intro _
  rcases bv2 r with rfl | rfl | rfl | rfl <;>
  (refine (decode_packFields _ ?_).trans ?_ <;> with_unfolding_all rfl)
theorem Encodes.mxqE3m2 (t : BitVec 6) (d : BitVec 5) (a : BitVec 5) (b : BitVec 5) (r : BitVec 2) : Encodes.Statement (.mxqE3m2 t d a b r) := by
  intro _
  rcases bv2 r with rfl | rfl | rfl | rfl <;>
  (refine (decode_packFields _ ?_).trans ?_ <;> with_unfolding_all rfl)
theorem Encodes.mxqE2m3 (t : BitVec 6) (d : BitVec 5) (a : BitVec 5) (b : BitVec 5) (r : BitVec 2) : Encodes.Statement (.mxqE2m3 t d a b r) := by
  intro _
  rcases bv2 r with rfl | rfl | rfl | rfl <;>
  (refine (decode_packFields _ ?_).trans ?_ <;> with_unfolding_all rfl)
theorem Encodes.mxqE2m1 (t : BitVec 6) (d : BitVec 5) (a : BitVec 5) (b : BitVec 5) (r : BitVec 2) : Encodes.Statement (.mxqE2m1 t d a b r) := by
  intro _
  rcases bv2 r with rfl | rfl | rfl | rfl <;>
  (refine (decode_packFields _ ?_).trans ?_ <;> with_unfolding_all rfl)
theorem Encodes.frcpF32 (t : BitVec 6) (d : BitVec 5) (a : BitVec 5) : Encodes.Statement (.frcpF32 t d a) := fun _ => decode_packFields _ rfl
theorem Encodes.frsqrtF32 (t : BitVec 6) (d : BitVec 5) (a : BitVec 5) : Encodes.Statement (.frsqrtF32 t d a) := fun _ => decode_packFields _ rfl
theorem Encodes.fexp2F32 (t : BitVec 6) (d : BitVec 5) (a : BitVec 5) : Encodes.Statement (.fexp2F32 t d a) := fun _ => decode_packFields _ rfl
theorem Encodes.fexpF32 (t : BitVec 6) (d : BitVec 5) (a : BitVec 5) : Encodes.Statement (.fexpF32 t d a) := fun _ => decode_packFields _ rfl
theorem Encodes.flog2F32 (t : BitVec 6) (d : BitVec 5) (a : BitVec 5) : Encodes.Statement (.flog2F32 t d a) := fun _ => decode_packFields _ rfl
theorem Encodes.fsinpiF32 (t : BitVec 6) (d : BitVec 5) (a : BitVec 5) : Encodes.Statement (.fsinpiF32 t d a) := fun _ => decode_packFields _ rfl
theorem Encodes.fcospiF32 (t : BitVec 6) (d : BitVec 5) (a : BitVec 5) : Encodes.Statement (.fcospiF32 t d a) := fun _ => decode_packFields _ rfl
theorem Encodes.ftanhF32 (t : BitVec 6) (d : BitVec 5) (a : BitVec 5) : Encodes.Statement (.ftanhF32 t d a) := fun _ => decode_packFields _ rfl
theorem Encodes.fsigF32 (t : BitVec 6) (d : BitVec 5) (a : BitVec 5) : Encodes.Statement (.fsigF32 t d a) := fun _ => decode_packFields _ rfl
theorem Encodes.frmaxF32 (t : BitVec 6) (d : BitVec 5) (a : BitVec 5) : Encodes.Statement (.frmaxF32 t d a) := fun _ => decode_packFields _ rfl
theorem Encodes.frminF32 (t : BitVec 6) (d : BitVec 5) (a : BitVec 5) : Encodes.Statement (.frminF32 t d a) := fun _ => decode_packFields _ rfl
theorem Encodes.frmaxaF32 (t : BitVec 6) (d : BitVec 5) (a : BitVec 5) : Encodes.Statement (.frmaxaF32 t d a) := fun _ => decode_packFields _ rfl
theorem Encodes.fraddF32 (t : BitVec 6) (d : BitVec 5) (a : BitVec 5) (r : BitVec 2) : Encodes.Statement (.fraddF32 t d a r) := by
  intro _
  rcases bv2 r with rfl | rfl | rfl | rfl <;>
  (refine (decode_packFields _ ?_).trans ?_ <;> with_unfolding_all rfl)
theorem Encodes.iradd (t : BitVec 6) (d : BitVec 5) (a : BitVec 5) : Encodes.Statement (.iradd t d a) := fun _ => decode_packFields _ rfl
theorem Encodes.iraddsS32 (t : BitVec 6) (d : BitVec 5) (a : BitVec 5) : Encodes.Statement (.iraddsS32 t d a) := fun _ => decode_packFields _ rfl
theorem Encodes.iraddsN32 (t : BitVec 6) (d : BitVec 5) (a : BitVec 5) : Encodes.Statement (.iraddsN32 t d a) := fun _ => decode_packFields _ rfl
theorem Encodes.irminS32 (t : BitVec 6) (d : BitVec 5) (a : BitVec 5) : Encodes.Statement (.irminS32 t d a) := fun _ => decode_packFields _ rfl
theorem Encodes.irmaxS32 (t : BitVec 6) (d : BitVec 5) (a : BitVec 5) : Encodes.Statement (.irmaxS32 t d a) := fun _ => decode_packFields _ rfl
theorem Encodes.irminN32 (t : BitVec 6) (d : BitVec 5) (a : BitVec 5) : Encodes.Statement (.irminN32 t d a) := fun _ => decode_packFields _ rfl
theorem Encodes.irmaxN32 (t : BitVec 6) (d : BitVec 5) (a : BitVec 5) : Encodes.Statement (.irmaxN32 t d a) := fun _ => decode_packFields _ rfl
theorem Encodes.irand (t : BitVec 6) (d : BitVec 5) (a : BitVec 5) : Encodes.Statement (.irand t d a) := fun _ => decode_packFields _ rfl
theorem Encodes.iror (t : BitVec 6) (d : BitVec 5) (a : BitVec 5) : Encodes.Statement (.iror t d a) := fun _ => decode_packFields _ rfl
theorem Encodes.irxor (t : BitVec 6) (d : BitVec 5) (a : BitVec 5) : Encodes.Statement (.irxor t d a) := fun _ => decode_packFields _ rfl
theorem Encodes.ircnt (t : BitVec 6) (d : BitVec 5) (a : BitVec 5) : Encodes.Statement (.ircnt t d a) := fun _ => decode_packFields _ rfl
theorem Encodes.fgetexpF32 (t : BitVec 6) (d : BitVec 5) (a : BitVec 5) : Encodes.Statement (.fgetexpF32 t d a) := fun _ => decode_packFields _ rfl
theorem Encodes.fmantF32 (t : BitVec 6) (d : BitVec 5) (a : BitVec 5) : Encodes.Statement (.fmantF32 t d a) := fun _ => decode_packFields _ rfl
theorem Encodes.rdflg (t : BitVec 6) (d : BitVec 5) : Encodes.Statement (.rdflg t d) := fun _ => decode_packFields _ rfl
theorem Encodes.fsclF32 (t : BitVec 6) (d : BitVec 5) (a : BitVec 5) (b : BitVec 5) (r : BitVec 2) : Encodes.Statement (.fsclF32 t d a b r) := by
  intro _
  rcases bv2 r with rfl | rfl | rfl | rfl <;>
  (refine (decode_packFields _ ?_).trans ?_ <;> with_unfolding_all rfl)
theorem Encodes.clrflg (t : BitVec 6) (a : BitVec 5) : Encodes.Statement (.clrflg t a) := fun _ => decode_packFields _ rfl
theorem Encodes.ld (t : BitVec 6) (d : BitVec 5) (a : BitVec 5) (b : BitVec 5) (s : BitVec 1) (y : BitVec 3) : Encodes.Statement (.ld t d a b s y) := by
  intro h
  have hf := fnOk_of_wf h rfl
  rcases bv1 s with rfl | rfl <;>
  rcases bv3 y with rfl | rfl | rfl | rfl | rfl | rfl | rfl | rfl <;>
  first
    | with_unfolding_all exact absurd hf Bool.false_ne_true
    | (refine (decode_packFields _ ?_).trans ?_ <;> with_unfolding_all rfl)
theorem Encodes.ldv (t : BitVec 6) (d : BitVec 5) (a : BitVec 5) (b : BitVec 5) (s : BitVec 1) : Encodes.Statement (.ldv t d a b s) := by
  intro _
  rcases bv1 s with rfl | rfl <;>
  (refine (decode_packFields _ ?_).trans ?_ <;> with_unfolding_all rfl)
theorem Encodes.st (t : BitVec 6) (a : BitVec 5) (b : BitVec 5) (s : BitVec 1) (y : BitVec 3) : Encodes.Statement (.st t a b s y) := by
  intro h
  have hf := fnOk_of_wf h rfl
  rcases bv1 s with rfl | rfl <;>
  rcases bv3 y with rfl | rfl | rfl | rfl | rfl | rfl | rfl | rfl <;>
  first
    | with_unfolding_all exact absurd hf Bool.false_ne_true
    | (refine (decode_packFields _ ?_).trans ?_ <;> with_unfolding_all rfl)
theorem Encodes.stv (t : BitVec 6) (a : BitVec 5) (b : BitVec 5) (s : BitVec 1) : Encodes.Statement (.stv t a b s) := by
  intro _
  rcases bv1 s with rfl | rfl <;>
  (refine (decode_packFields _ ?_).trans ?_ <;> with_unfolding_all rfl)
theorem Encodes.ldg (t : BitVec 6) (d : BitVec 5) (a : BitVec 5) (b : BitVec 5) (y : BitVec 3) : Encodes.Statement (.ldg t d a b y) := by
  intro h
  have hf := fnOk_of_wf h rfl
  rcases bv3 y with rfl | rfl | rfl | rfl | rfl | rfl | rfl | rfl <;>
  first
    | with_unfolding_all exact absurd hf Bool.false_ne_true
    | (refine (decode_packFields _ ?_).trans ?_ <;> with_unfolding_all rfl)
theorem Encodes.ldgV (t : BitVec 6) (d : BitVec 5) (a : BitVec 5) (b : BitVec 5) : Encodes.Statement (.ldgV t d a b) := fun _ => decode_packFields _ rfl
theorem Encodes.stg (t : BitVec 6) (a : BitVec 5) (b : BitVec 5) (y : BitVec 3) : Encodes.Statement (.stg t a b y) := by
  intro h
  have hf := fnOk_of_wf h rfl
  rcases bv3 y with rfl | rfl | rfl | rfl | rfl | rfl | rfl | rfl <;>
  first
    | with_unfolding_all exact absurd hf Bool.false_ne_true
    | (refine (decode_packFields _ ?_).trans ?_ <;> with_unfolding_all rfl)
theorem Encodes.ldf (t : BitVec 6) (d : BitVec 5) (a : BitVec 5) (b : BitVec 5) (s : BitVec 1) (c : BitVec 3) : Encodes.Statement (.ldf t d a b s c) := by
  intro h
  have hf := fnOk_of_wf h rfl
  rcases bv1 s with rfl | rfl <;>
  rcases bv3 c with rfl | rfl | rfl | rfl | rfl | rfl | rfl | rfl <;>
  first
    | with_unfolding_all exact absurd hf Bool.false_ne_true
    | (refine (decode_packFields _ ?_).trans ?_ <;> with_unfolding_all rfl)
theorem Encodes.stf (t : BitVec 6) (a : BitVec 5) (b : BitVec 5) (s : BitVec 1) (c : BitVec 3) : Encodes.Statement (.stf t a b s c) := by
  intro h
  have hf := fnOk_of_wf h rfl
  rcases bv1 s with rfl | rfl <;>
  rcases bv3 c with rfl | rfl | rfl | rfl | rfl | rfl | rfl | rfl <;>
  first
    | with_unfolding_all exact absurd hf Bool.false_ne_true
    | (refine (decode_packFields _ ?_).trans ?_ <;> with_unfolding_all rfl)
theorem Encodes.touchX (t : BitVec 6) (a : BitVec 5) (b : BitVec 5) : Encodes.Statement (.touchX t a b) := fun _ => decode_packFields _ rfl
theorem Encodes.touchM (t : BitVec 6) (a : BitVec 5) (b : BitVec 5) : Encodes.Statement (.touchM t a b) := fun _ => decode_packFields _ rfl
theorem Encodes.touchG (t : BitVec 6) (a : BitVec 5) (b : BitVec 5) : Encodes.Statement (.touchG t a b) := fun _ => decode_packFields _ rfl
theorem Encodes.aaddX (t : BitVec 6) (d : BitVec 5) (a : BitVec 5) (b : BitVec 5) : Encodes.Statement (.aaddX t d a b) := fun _ => decode_packFields _ rfl
theorem Encodes.aaddM (t : BitVec 6) (d : BitVec 5) (a : BitVec 5) (b : BitVec 5) : Encodes.Statement (.aaddM t d a b) := fun _ => decode_packFields _ rfl
theorem Encodes.aaddG (t : BitVec 6) (d : BitVec 5) (a : BitVec 5) (b : BitVec 5) : Encodes.Statement (.aaddG t d a b) := fun _ => decode_packFields _ rfl
theorem Encodes.aminS32X (t : BitVec 6) (d : BitVec 5) (a : BitVec 5) (b : BitVec 5) : Encodes.Statement (.aminS32X t d a b) := fun _ => decode_packFields _ rfl
theorem Encodes.aminS32M (t : BitVec 6) (d : BitVec 5) (a : BitVec 5) (b : BitVec 5) : Encodes.Statement (.aminS32M t d a b) := fun _ => decode_packFields _ rfl
theorem Encodes.aminS32G (t : BitVec 6) (d : BitVec 5) (a : BitVec 5) (b : BitVec 5) : Encodes.Statement (.aminS32G t d a b) := fun _ => decode_packFields _ rfl
theorem Encodes.aminN32X (t : BitVec 6) (d : BitVec 5) (a : BitVec 5) (b : BitVec 5) : Encodes.Statement (.aminN32X t d a b) := fun _ => decode_packFields _ rfl
theorem Encodes.aminN32M (t : BitVec 6) (d : BitVec 5) (a : BitVec 5) (b : BitVec 5) : Encodes.Statement (.aminN32M t d a b) := fun _ => decode_packFields _ rfl
theorem Encodes.aminN32G (t : BitVec 6) (d : BitVec 5) (a : BitVec 5) (b : BitVec 5) : Encodes.Statement (.aminN32G t d a b) := fun _ => decode_packFields _ rfl
theorem Encodes.amaxS32X (t : BitVec 6) (d : BitVec 5) (a : BitVec 5) (b : BitVec 5) : Encodes.Statement (.amaxS32X t d a b) := fun _ => decode_packFields _ rfl
theorem Encodes.amaxS32M (t : BitVec 6) (d : BitVec 5) (a : BitVec 5) (b : BitVec 5) : Encodes.Statement (.amaxS32M t d a b) := fun _ => decode_packFields _ rfl
theorem Encodes.amaxS32G (t : BitVec 6) (d : BitVec 5) (a : BitVec 5) (b : BitVec 5) : Encodes.Statement (.amaxS32G t d a b) := fun _ => decode_packFields _ rfl
theorem Encodes.amaxN32X (t : BitVec 6) (d : BitVec 5) (a : BitVec 5) (b : BitVec 5) : Encodes.Statement (.amaxN32X t d a b) := fun _ => decode_packFields _ rfl
theorem Encodes.amaxN32M (t : BitVec 6) (d : BitVec 5) (a : BitVec 5) (b : BitVec 5) : Encodes.Statement (.amaxN32M t d a b) := fun _ => decode_packFields _ rfl
theorem Encodes.amaxN32G (t : BitVec 6) (d : BitVec 5) (a : BitVec 5) (b : BitVec 5) : Encodes.Statement (.amaxN32G t d a b) := fun _ => decode_packFields _ rfl
theorem Encodes.aandX (t : BitVec 6) (d : BitVec 5) (a : BitVec 5) (b : BitVec 5) : Encodes.Statement (.aandX t d a b) := fun _ => decode_packFields _ rfl
theorem Encodes.aandM (t : BitVec 6) (d : BitVec 5) (a : BitVec 5) (b : BitVec 5) : Encodes.Statement (.aandM t d a b) := fun _ => decode_packFields _ rfl
theorem Encodes.aandG (t : BitVec 6) (d : BitVec 5) (a : BitVec 5) (b : BitVec 5) : Encodes.Statement (.aandG t d a b) := fun _ => decode_packFields _ rfl
theorem Encodes.aorX (t : BitVec 6) (d : BitVec 5) (a : BitVec 5) (b : BitVec 5) : Encodes.Statement (.aorX t d a b) := fun _ => decode_packFields _ rfl
theorem Encodes.aorM (t : BitVec 6) (d : BitVec 5) (a : BitVec 5) (b : BitVec 5) : Encodes.Statement (.aorM t d a b) := fun _ => decode_packFields _ rfl
theorem Encodes.aorG (t : BitVec 6) (d : BitVec 5) (a : BitVec 5) (b : BitVec 5) : Encodes.Statement (.aorG t d a b) := fun _ => decode_packFields _ rfl
theorem Encodes.axorX (t : BitVec 6) (d : BitVec 5) (a : BitVec 5) (b : BitVec 5) : Encodes.Statement (.axorX t d a b) := fun _ => decode_packFields _ rfl
theorem Encodes.axorM (t : BitVec 6) (d : BitVec 5) (a : BitVec 5) (b : BitVec 5) : Encodes.Statement (.axorM t d a b) := fun _ => decode_packFields _ rfl
theorem Encodes.axorG (t : BitVec 6) (d : BitVec 5) (a : BitVec 5) (b : BitVec 5) : Encodes.Statement (.axorG t d a b) := fun _ => decode_packFields _ rfl
theorem Encodes.afaddX (t : BitVec 6) (d : BitVec 5) (a : BitVec 5) (b : BitVec 5) : Encodes.Statement (.afaddX t d a b) := fun _ => decode_packFields _ rfl
theorem Encodes.afaddM (t : BitVec 6) (d : BitVec 5) (a : BitVec 5) (b : BitVec 5) : Encodes.Statement (.afaddM t d a b) := fun _ => decode_packFields _ rfl
theorem Encodes.afaddG (t : BitVec 6) (d : BitVec 5) (a : BitVec 5) (b : BitVec 5) : Encodes.Statement (.afaddG t d a b) := fun _ => decode_packFields _ rfl
theorem Encodes.axchX (t : BitVec 6) (d : BitVec 5) (a : BitVec 5) (b : BitVec 5) : Encodes.Statement (.axchX t d a b) := fun _ => decode_packFields _ rfl
theorem Encodes.axchM (t : BitVec 6) (d : BitVec 5) (a : BitVec 5) (b : BitVec 5) : Encodes.Statement (.axchM t d a b) := fun _ => decode_packFields _ rfl
theorem Encodes.axchG (t : BitVec 6) (d : BitVec 5) (a : BitVec 5) (b : BitVec 5) : Encodes.Statement (.axchG t d a b) := fun _ => decode_packFields _ rfl
theorem Encodes.acasX (t : BitVec 6) (d : BitVec 5) (a : BitVec 5) (b : BitVec 5) : Encodes.Statement (.acasX t d a b) := fun _ => decode_packFields _ rfl
theorem Encodes.acasM (t : BitVec 6) (d : BitVec 5) (a : BitVec 5) (b : BitVec 5) : Encodes.Statement (.acasM t d a b) := fun _ => decode_packFields _ rfl
theorem Encodes.acasG (t : BitVec 6) (d : BitVec 5) (a : BitVec 5) (b : BitVec 5) : Encodes.Statement (.acasG t d a b) := fun _ => decode_packFields _ rfl
theorem Encodes.falloc (t : BitVec 6) (d : BitVec 5) (b : BitVec 5) : Encodes.Statement (.falloc t d b) := fun _ => decode_packFields _ rfl
theorem Encodes.fput (t : BitVec 6) (a : BitVec 5) (b : BitVec 5) : Encodes.Statement (.fput t a b) := fun _ => decode_packFields _ rfl
theorem Encodes.ffree (t : BitVec 6) (a : BitVec 5) : Encodes.Statement (.ffree t a) := fun _ => decode_packFields _ rfl
theorem Encodes.otokFork (t : BitVec 6) : Encodes.Statement (.otokFork t) := fun _ => decode_packFields _ rfl
theorem Encodes.otokJoin (t : BitVec 6) : Encodes.Statement (.otokJoin t) := fun _ => decode_packFields _ rfl
theorem Encodes.fence (t : BitVec 6) (c : BitVec 3) : Encodes.Statement (.fence t c) := by
  intro h
  have hf := fnOk_of_wf h rfl
  rcases bv3 c with rfl | rfl | rfl | rfl | rfl | rfl | rfl | rfl <;>
  first
    | with_unfolding_all exact absurd hf Bool.false_ne_true
    | (refine (decode_packFields _ ?_).trans ?_ <;> with_unfolding_all rfl)
theorem Encodes.arvX (t : BitVec 6) (d : BitVec 5) (a : BitVec 5) (b : BitVec 5) : Encodes.Statement (.arvX t d a b) := fun _ => decode_packFields _ rfl
theorem Encodes.arvM (t : BitVec 6) (d : BitVec 5) (a : BitVec 5) (b : BitVec 5) : Encodes.Statement (.arvM t d a b) := fun _ => decode_packFields _ rfl
theorem Encodes.arvG (t : BitVec 6) (d : BitVec 5) (a : BitVec 5) (b : BitVec 5) : Encodes.Statement (.arvG t d a b) := fun _ => decode_packFields _ rfl
theorem Encodes.awtX (t : BitVec 6) (d : BitVec 5) (a : BitVec 5) (b : BitVec 5) : Encodes.Statement (.awtX t d a b) := fun _ => decode_packFields _ rfl
theorem Encodes.awtM (t : BitVec 6) (d : BitVec 5) (a : BitVec 5) (b : BitVec 5) : Encodes.Statement (.awtM t d a b) := fun _ => decode_packFields _ rfl
theorem Encodes.awtG (t : BitVec 6) (d : BitVec 5) (a : BitVec 5) (b : BitVec 5) : Encodes.Statement (.awtG t d a b) := fun _ => decode_packFields _ rfl
theorem Encodes.arwX (t : BitVec 6) (d : BitVec 5) (a : BitVec 5) (b : BitVec 5) : Encodes.Statement (.arwX t d a b) := fun _ => decode_packFields _ rfl
theorem Encodes.arwM (t : BitVec 6) (d : BitVec 5) (a : BitVec 5) (b : BitVec 5) : Encodes.Statement (.arwM t d a b) := fun _ => decode_packFields _ rfl
theorem Encodes.arwG (t : BitVec 6) (d : BitVec 5) (a : BitVec 5) (b : BitVec 5) : Encodes.Statement (.arwG t d a b) := fun _ => decode_packFields _ rfl
theorem Encodes.ioread (t : BitVec 6) (a : BitVec 5) : Encodes.Statement (.ioread t a) := fun _ => decode_packFields _ rfl
theorem Encodes.iowaitX (t : BitVec 6) (d : BitVec 5) (a : BitVec 5) : Encodes.Statement (.iowaitX t d a) := fun _ => decode_packFields _ rfl
theorem Encodes.iowaitM (t : BitVec 6) (d : BitVec 5) (a : BitVec 5) : Encodes.Statement (.iowaitM t d a) := fun _ => decode_packFields _ rfl
theorem Encodes.scfg (t : BitVec 6) (a : BitVec 5) (b : BitVec 5) : Encodes.Statement (.scfg t a b) := fun _ => decode_packFields _ rfl
theorem Encodes.sbind (t : BitVec 6) (a : BitVec 5) (b : BitVec 5) : Encodes.Statement (.sbind t a b) := fun _ => decode_packFields _ rfl
theorem Encodes.sgo (t : BitVec 6) (a : BitVec 5) (b : BitVec 5) : Encodes.Statement (.sgo t a b) := fun _ => decode_packFields _ rfl
theorem Encodes.sstop (t : BitVec 6) (b : BitVec 5) : Encodes.Statement (.sstop t b) := fun _ => decode_packFields _ rfl
theorem Encodes.cpy (t : BitVec 6) (a : BitVec 5) (b : BitVec 5) : Encodes.Statement (.cpy t a b) := fun _ => decode_packFields _ rfl
theorem Encodes.sbwait (t : BitVec 6) (d : BitVec 5) (a : BitVec 5) : Encodes.Statement (.sbwait t d a) := fun _ => decode_packFields _ rfl
theorem Encodes.sbtest (t : BitVec 6) (d : BitVec 5) : Encodes.Statement (.sbtest t d) := fun _ => decode_packFields _ rfl
theorem Encodes.gsendEnt0 (t : BitVec 6) (d : BitVec 5) (a : BitVec 5) (b : BitVec 5) : Encodes.Statement (.gsendEnt0 t d a b) := fun _ => decode_packFields _ rfl
theorem Encodes.gsendEnt1 (t : BitVec 6) (d : BitVec 5) (a : BitVec 5) (b : BitVec 5) : Encodes.Statement (.gsendEnt1 t d a b) := fun _ => decode_packFields _ rfl
theorem Encodes.gsendEnt2 (t : BitVec 6) (d : BitVec 5) (a : BitVec 5) (b : BitVec 5) : Encodes.Statement (.gsendEnt2 t d a b) := fun _ => decode_packFields _ rfl
theorem Encodes.gsendEnt3 (t : BitVec 6) (d : BitVec 5) (a : BitVec 5) (b : BitVec 5) : Encodes.Statement (.gsendEnt3 t d a b) := fun _ => decode_packFields _ rfl
theorem Encodes.rmwcfg (t : BitVec 6) (a : BitVec 5) (b : BitVec 5) : Encodes.Statement (.rmwcfg t a b) := fun _ => decode_packFields _ rfl
theorem Encodes.mma (t : BitVec 6) (n : BitVec 1) (a : BitVec 5) (b : BitVec 5) (f : BitVec 5) : Encodes.Statement (.mma t n a b f) := by
  intro h
  have hf := fnOk_of_wf h rfl
  rcases bv1 n with rfl | rfl <;>
  rcases bv5 f with rfl | rfl | rfl | rfl | rfl | rfl | rfl | rfl | rfl | rfl | rfl | rfl | rfl | rfl | rfl | rfl | rfl | rfl | rfl | rfl | rfl | rfl | rfl | rfl | rfl | rfl | rfl | rfl | rfl | rfl | rfl | rfl <;>
  first
    | with_unfolding_all exact absurd hf Bool.false_ne_true
    | (refine (decode_packFields _ ?_).trans ?_ <;> with_unfolding_all rfl)
theorem Encodes.mmam (t : BitVec 6) (n : BitVec 1) (a : BitVec 5) (b : BitVec 5) (f : BitVec 5) : Encodes.Statement (.mmam t n a b f) := by
  intro h
  have hf := fnOk_of_wf h rfl
  rcases bv1 n with rfl | rfl <;>
  rcases bv5 f with rfl | rfl | rfl | rfl | rfl | rfl | rfl | rfl | rfl | rfl | rfl | rfl | rfl | rfl | rfl | rfl | rfl | rfl | rfl | rfl | rfl | rfl | rfl | rfl | rfl | rfl | rfl | rfl | rfl | rfl | rfl | rfl <;>
  first
    | with_unfolding_all exact absurd hf Bool.false_ne_true
    | (refine (decode_packFields _ ?_).trans ?_ <;> with_unfolding_all rfl)
theorem Encodes.mmas (t : BitVec 6) (n : BitVec 1) (a : BitVec 5) (b : BitVec 5) (f : BitVec 5) : Encodes.Statement (.mmas t n a b f) := by
  intro h
  have hf := fnOk_of_wf h rfl
  rcases bv1 n with rfl | rfl <;>
  rcases bv5 f with rfl | rfl | rfl | rfl | rfl | rfl | rfl | rfl | rfl | rfl | rfl | rfl | rfl | rfl | rfl | rfl | rfl | rfl | rfl | rfl | rfl | rfl | rfl | rfl | rfl | rfl | rfl | rfl | rfl | rfl | rfl | rfl <;>
  first
    | with_unfolding_all exact absurd hf Bool.false_ne_true
    | (refine (decode_packFields _ ?_).trans ?_ <;> with_unfolding_all rfl)
theorem Encodes.maclClr (t : BitVec 6) (n : BitVec 1) : Encodes.Statement (.maclClr t n) := by
  intro _
  rcases bv1 n with rfl | rfl <;>
  (refine (decode_packFields _ ?_).trans ?_ <;> with_unfolding_all rfl)
theorem Encodes.maclLd (t : BitVec 6) (n : BitVec 1) (a : BitVec 5) : Encodes.Statement (.maclLd t n a) := by
  intro _
  rcases bv1 n with rfl | rfl <;>
  (refine (decode_packFields _ ?_).trans ?_ <;> with_unfolding_all rfl)
theorem Encodes.mld (t : BitVec 6) (a : BitVec 5) : Encodes.Statement (.mld t a) := fun _ => decode_packFields _ rfl
theorem Encodes.mdrnF32 (t : BitVec 6) (n : BitVec 1) (a : BitVec 5) : Encodes.Statement (.mdrnF32 t n a) := by
  intro _
  rcases bv1 n with rfl | rfl <;>
  (refine (decode_packFields _ ?_).trans ?_ <;> with_unfolding_all rfl)
theorem Encodes.mdrnBf16 (t : BitVec 6) (n : BitVec 1) (a : BitVec 5) (r : BitVec 2) : Encodes.Statement (.mdrnBf16 t n a r) := by
  intro _
  rcases bv1 n with rfl | rfl <;>
  rcases bv2 r with rfl | rfl | rfl | rfl <;>
  (refine (decode_packFields _ ?_).trans ?_ <;> with_unfolding_all rfl)
theorem Encodes.mdrnF16 (t : BitVec 6) (n : BitVec 1) (a : BitVec 5) (r : BitVec 2) : Encodes.Statement (.mdrnF16 t n a r) := by
  intro _
  rcases bv1 n with rfl | rfl <;>
  rcases bv2 r with rfl | rfl | rfl | rfl <;>
  (refine (decode_packFields _ ?_).trans ?_ <;> with_unfolding_all rfl)
theorem Encodes.mchk (t : BitVec 6) (n : BitVec 1) (a : BitVec 5) : Encodes.Statement (.mchk t n a) := by
  intro _
  rcases bv1 n with rfl | rfl <;>
  (refine (decode_packFields _ ?_).trans ?_ <;> with_unfolding_all rfl)
theorem Encodes.prune (t : BitVec 6) (n : BitVec 1) (a : BitVec 5) : Encodes.Statement (.prune t n a) := by
  intro _
  rcases bv1 n with rfl | rfl <;>
  (refine (decode_packFields _ ?_).trans ?_ <;> with_unfolding_all rfl)
theorem Encodes.launch (t : BitVec 6) (a : BitVec 5) : Encodes.Statement (.launch t a) := fun _ => decode_packFields _ rfl
theorem Encodes.ptask (t : BitVec 6) (d : BitVec 5) : Encodes.Statement (.ptask t d) := fun _ => decode_packFields _ rfl
theorem Encodes.tdone (t : BitVec 6) (a : BitVec 5) : Encodes.Statement (.tdone t a) := fun _ => decode_packFields _ rfl
theorem Encodes.yieldFX (t : BitVec 6) (a : BitVec 5) : Encodes.Statement (.yieldFX t a) := fun _ => decode_packFields _ rfl
theorem Encodes.yieldFM (t : BitVec 6) (a : BitVec 5) : Encodes.Statement (.yieldFM t a) := fun _ => decode_packFields _ rfl
theorem Encodes.yieldSb (t : BitVec 6) (a : BitVec 5) : Encodes.Statement (.yieldSb t a) := fun _ => decode_packFields _ rfl
theorem Encodes.yieldRel (t : BitVec 6) : Encodes.Statement (.yieldRel t) := fun _ => decode_packFields _ rfl
theorem Encodes.tagset (t : BitVec 6) (a : BitVec 5) : Encodes.Statement (.tagset t a) := fun _ => decode_packFields _ rfl
theorem Encodes.tagsetReq (t : BitVec 6) (a : BitVec 5) : Encodes.Statement (.tagsetReq t a) := fun _ => decode_packFields _ rfl
theorem Encodes.tagsetIter (t : BitVec 6) (a : BitVec 5) : Encodes.Statement (.tagsetIter t a) := fun _ => decode_packFields _ rfl
theorem Encodes.rset (t : BitVec 6) (d : BitVec 5) (a : BitVec 5) : Encodes.Statement (.rset t d a) := fun _ => decode_packFields _ rfl
theorem Encodes.rget (t : BitVec 6) (d : BitVec 5) (a : BitVec 5) : Encodes.Statement (.rget t d a) := fun _ => decode_packFields _ rfl
theorem Encodes.rfree (t : BitVec 6) (a : BitVec 5) : Encodes.Statement (.rfree t a) := fun _ => decode_packFields _ rfl
theorem Encodes.sealR (t : BitVec 6) (d : BitVec 5) (a : BitVec 5) : Encodes.Statement (.sealR t d a) := fun _ => decode_packFields _ rfl
theorem Encodes.unsealR (t : BitVec 6) (a : BitVec 5) : Encodes.Statement (.unsealR t a) := fun _ => decode_packFields _ rfl
theorem Encodes.trap (t : BitVec 6) (a : BitVec 5) : Encodes.Statement (.trap t a) := fun _ => decode_packFields _ rfl
theorem Encodes.hret (t : BitVec 6) : Encodes.Statement (.hret t) := fun _ => decode_packFields _ rfl
theorem Encodes.hretDrop (t : BitVec 6) : Encodes.Statement (.hretDrop t) := fun _ => decode_packFields _ rfl
theorem Encodes.hretEnd (t : BitVec 6) : Encodes.Statement (.hretEnd t) := fun _ => decode_packFields _ rfl
theorem Encodes.scout (t : BitVec 6) (n : BitVec 1) (a : BitVec 5) (b : BitVec 5) : Encodes.Statement (.scout t n a b) := by
  intro _
  rcases bv1 n with rfl | rfl <;>
  (refine (decode_packFields _ ?_).trans ?_ <;> with_unfolding_all rfl)
theorem Encodes.threshAbs (t : BitVec 6) (d : BitVec 5) (a : BitVec 5) (n : BitVec 1) : Encodes.Statement (.threshAbs t d a n) := by
  intro _
  rcases bv1 n with rfl | rfl <;>
  (refine (decode_packFields _ ?_).trans ?_ <;> with_unfolding_all rfl)
theorem Encodes.threshTop (t : BitVec 6) (d : BitVec 5) (a : BitVec 5) (n : BitVec 1) : Encodes.Statement (.threshTop t d a n) := by
  intro _
  rcases bv1 n with rfl | rfl <;>
  (refine (decode_packFields _ ?_).trans ?_ <;> with_unfolding_all rfl)
theorem Encodes.pgsel (t : BitVec 6) (a : BitVec 5) (b : BitVec 5) : Encodes.Statement (.pgsel t a b) := fun _ => decode_packFields _ rfl
theorem Encodes.hrow (t : BitVec 6) (d : BitVec 5) (a : BitVec 5) : Encodes.Statement (.hrow t d a) := fun _ => decode_packFields _ rfl
theorem Encodes.hins (t : BitVec 6) (d : BitVec 5) (a : BitVec 5) (b : BitVec 5) : Encodes.Statement (.hins t d a b) := fun _ => decode_packFields _ rfl
theorem Encodes.hspill (t : BitVec 6) (d : BitVec 5) (a : BitVec 5) : Encodes.Statement (.hspill t d a) := fun _ => decode_packFields _ rfl
theorem Encodes.qprobe (t : BitVec 6) (d : BitVec 5) : Encodes.Statement (.qprobe t d) := fun _ => decode_packFields _ rfl
theorem Encodes.qprobeClr (t : BitVec 6) (d : BitVec 5) : Encodes.Statement (.qprobeClr t d) := fun _ => decode_packFields _ rfl
theorem Encodes.monCfg (t : BitVec 6) (a : BitVec 5) : Encodes.Statement (.monCfg t a) := fun _ => decode_packFields _ rfl
theorem Encodes.monMark (t : BitVec 6) (a : BitVec 5) : Encodes.Statement (.monMark t a) := fun _ => decode_packFields _ rfl
theorem Encodes.loadWaitExpiry (region : Nat) : Encodes.Statement (.loadWaitExpiry region) := fun _ => rfl
theorem Encodes.tdoneSettlingExpiry (region : Nat) : Encodes.Statement (.tdoneSettlingExpiry region) := fun _ => rfl
theorem Encodes.unsealRequest (req : Nat) : Encodes.Statement (.unsealRequest req) := fun _ => rfl
theorem Encodes.spaceDescriptorCleared (space : BitVec 14) : Encodes.Statement (.spaceDescriptorCleared space) := fun _ => rfl
theorem Encodes.monitorOccupancySample (tile : TileId) : Encodes.Statement (.monitorOccupancySample tile) := fun _ => rfl
theorem Encodes.unassignedCommand (die : Nat) : Encodes.Statement (.unassignedCommand die) := fun _ => rfl

end Sys2Proof.Laws
end

