-- ==== Sys2Proof/Tests/Slice0.lean ====
section
/-!
SUPPORT. Tests: words of the spec's worked encodings and of its encoding tables, ill-formed terms, single steps on small states,
and for each statement that has hypotheses a witness, a state and operands that meet them.
-/

set_option Elab.async false
set_option maxRecDepth 100000

namespace Sys2Proof.Tests

open Sys2Proof Sys2Proof.Machine Sys2Proof.Claims

/-! ## Words -/

/-- The worked slot encodings of spec/02 to spec/17. (Spec/15 prints 0x0733F001 for `mchk ac1, k0` beside the fields trig 1, major 0x33, d 1,
a 28, function 1, which make 0x0730F001: log entry 26.) -/
theorem test_worked_words :
    decode 0x2481C3FB = .ok (.addi 9 3 16 0x3FB) ∧ decode 0x14194001 = .ok (.fwd 5 18 16) ∧
    decode 0x30CC8CA1 = .ok (.pand 12 25 3 5) ∧ decode 0x0A02078B = .ok (.ld 2 4 1 28 1 3) ∧
    decode 0x0241A9EA = .ok (.ldf 0 3 10 15 1 1) ∧ decode 0x1D128BA4 = .ok (.ffmaF32 7 5 2 29 0) ∧
    decode 0x0DB3044C = .ok (.mxqE4m3 3 6 1 2 0) ∧ decode 0x06C008A3 = .ok (.sgo 1 2 5) ∧
    decode 0x12D00C21 = .ok (.cpy 4 3 1) ∧ decode 0x1B00D201 = .ok (.mma 6 1 20 16 1) ∧
    decode 0x23204C04 = .ok (.mdrnBf16 8 0 19 0) ∧ decode 0x0F600801 = .ok (.launch 3 2) ∧
    decode 0x17720C05 = .ok (.rget 5 4 3) ∧ decode 0x0B828401 = .ok (.sealR 2 5 1) ∧
    decode 0x03900002 = .ok (.hret 0) ∧ decode 0x07A05261 = .ok (.scout 1 0 20 19) ∧
    decode 0x0BA37003 = .ok (.threshTop 2 6 28 0) ∧ decode 0x13B00861 = .ok (.pgsel 4 2 3) ∧
    decode 0x27CB8862 = .ok (.hins 9 23 2 3) ∧ decode 0x0730F001 = .ok (.mchk 1 1 28) ∧
    decode 0x1B10D002 = .ok (.maclLd 6 1 20) ∧ decode 0x1F20C001 = .ok (.mdrnF32 7 1 16) ∧
    decode 0x16F07005 = .ok (.rmwcfg 5 28 0) ∧ decode 0x1AF78441 = .ok (.gsendEnt0 6 15 1 2) := by
  repeat' (first | rfl | apply And.intro)

/-- The worked trigger of spec/02: iq0 named and primary, tag bit 2 clear, e0 set, no guard, e1 set at the fire. -/
theorem test_worked_trigger :
    Trig.ofWord 0x000011C040402041 =
      { inq := 1, prim := true, tagv := 0, tagm := 4, bfix := false, outq := 0, stm := 1, stv := 1, gsel := 7, gneg := false
        gall := false, sset := 2, sclr := 0, otag := 0 } := by decide

/-- The fields of the trigger of spec/17: iq4, tags 01xx, bank 0, state bits 0 to 3 equal to 6, no guard, e0 set. -/
theorem test_worked_trigger_tags :
    Trig.ofWord 0x000009C183C0E250 =
      { inq := 16, prim := true, tagv := 4, tagm := 12, bfix := true, outq := 0, stm := 15, stv := 6, gsel := 7, gneg := false
        gall := false, sset := 1, sclr := 0, otag := 0 } := by decide

/-- A word of each major from its field layout in Table 2.1 and the function tables: majors 0x00 to 0x0F. -/
theorem test_words_element :
    decode 0x94000001 = .ok (.nop 37) ∧
    decode 0x94194001 = .ok (.fwd 37 18 16) ∧
    decode 0x942C8401 = .ok (.cfgsw 37 25 1) ∧
    decode 0x94300041 = .ok (.ctok 37 2) ∧
    decode 0x94418401 = .ok (.mov 37 3 1) ∧
    decode 0x94518155 = .ok (.movi 37 3 341) ∧
    decode 0x94618155 = .ok (.movl 37 3 341) ∧
    decode 0x94718441 = .ok (.add 37 3 1 2) ∧
    decode 0x94818555 = .ok (.addi 37 3 1 341) ∧
    decode 0x94918441 = .ok (.mul 37 3 1 2) ∧
    decode 0x94AC8441 = .ok (.ceq 37 25 1 2) ∧
    decode 0x94B18555 = .ok (.andi 37 3 1 341) ∧
    decode 0x94CC90A1 = .ok (.pand 37 25 4 5) ∧
    decode 0x94D18441 = .ok (.bcast 37 3 1 2) ∧
    decode 0x94E18401 = .ok (.cset 37 3 1) ∧
    decode 0x94F18401 = .ok (.popc 37 3 1) := by
  repeat' (first | rfl | apply And.intro)

/-- A word of each major from its field layout in Table 2.1 and the function tables: majors 0x10 to 0x1F. -/
theorem test_words_vector :
    decode 0x95018446 = .ok (.faddF32 37 3 1 2 2) ∧
    decode 0x95118446 = .ok (.ffmaF32 37 3 1 2 2) ∧
    decode 0x95218441 = .ok (.fminF32 37 3 1 2) ∧
    decode 0x95318446 = .ok (.faddBf16x2 37 3 1 2 2) ∧
    decode 0x95418446 = .ok (.faddF16x2 37 3 1 2 2) ∧
    decode 0x95518446 = .ok (.fdot2Bf16 37 3 1 2 2) ∧
    decode 0x956C8441 = .ok (.fceqF32 37 25 1 2) ∧
    decode 0x95718401 = .ok (.fclassF32 37 3 1) ∧
    decode 0x95818421 = .ok (.cvtF32Bf16 37 3 1 1) ∧
    decode 0x95918406 = .ok (.cvtS32F32 37 3 1 2) ∧
    decode 0x95A19041 = .ok (.cvtStochBf16x2F32 37 3 4 2) ∧
    decode 0x95B18401 = .ok (.mxscE4m3 37 3 1) ∧
    decode 0x95C18401 = .ok (.frcpF32 37 3 1) ∧
    decode 0x95D18401 = .ok (.frmaxF32 37 3 1) ∧
    decode 0x95E18401 = .ok (.iradd 37 3 1) ∧
    decode 0x95F18401 = .ok (.fgetexpF32 37 3 1) := by
  repeat' (first | rfl | apply And.intro)

/-- A word of each major from its field layout in Table 2.1 and the function tables: majors 0x20 to 0x2B. -/
theorem test_words_memory :
    decode 0x9601844B = .ok (.ld 37 3 1 2 1 3) ∧
    decode 0x9610044B = .ok (.st 37 1 2 1 3) ∧
    decode 0x96218443 = .ok (.ldg 37 3 1 2 3) ∧
    decode 0x96300443 = .ok (.stg 37 1 2 3) ∧
    decode 0x9641844A = .ok (.ldf 37 3 1 2 1 1) ∧
    decode 0x96500441 = .ok (.touchX 37 1 2) ∧
    decode 0x96618441 = .ok (.aaddX 37 3 1 2) ∧
    decode 0x96718441 = .ok (.axchX 37 3 1 2) ∧
    decode 0x96818041 = .ok (.falloc 37 3 2) ∧
    decode 0x96900001 = .ok (.otokFork 37) ∧
    decode 0x96A18441 = .ok (.arvX 37 3 1 2) ∧
    decode 0x96B00401 = .ok (.ioread 37 1) := by
  repeat' (first | rfl | apply And.intro)

/-- A word of each major from its field layout in Table 2.1 and the function tables: majors 0x2C to 0x33. -/
theorem test_words_commands :
    decode 0x96C00441 = .ok (.scfg 37 1 2) ∧
    decode 0x96D00441 = .ok (.cpy 37 1 2) ∧
    decode 0x96E18401 = .ok (.sbwait 37 3 1) ∧
    decode 0x96F18441 = .ok (.gsendEnt0 37 3 1 2) ∧
    decode 0x9700D201 = .ok (.mma 37 1 20 16 1) ∧
    decode 0x97108001 = .ok (.maclClr 37 1) ∧
    decode 0x97208401 = .ok (.mdrnF32 37 1 1) ∧
    decode 0x97308401 = .ok (.mchk 37 1 1) := by
  repeat' (first | rfl | apply And.intro)

/-- A word of each major from its field layout in Table 2.1 and the function tables: majors 0x36 to 0x3D. -/
theorem test_words_tasks :
    decode 0x97600401 = .ok (.launch 37 1) ∧
    decode 0x97700401 = .ok (.tagset 37 1) ∧
    decode 0x97818401 = .ok (.sealR 37 3 1) ∧
    decode 0x97900401 = .ok (.trap 37 1) ∧
    decode 0x97A0D261 = .ok (.scout 37 1 20 19) ∧
    decode 0x97B00441 = .ok (.pgsel 37 1 2) ∧
    decode 0x97C18401 = .ok (.hrow 37 3 1) ∧
    decode 0x97D18001 = .ok (.qprobe 37 3) := by
  repeat' (first | rfl | apply And.intro)

/-! ## Ill-formed terms: one for each check -/

/-- An operand code outside its set (check 0x4): a register as the destination of a comparison, and a predicate code as a source. -/
theorem test_ill_destination : (Instr.ceq 1 3 1 2).wf = false ∧ (Instr.ceq 1 25 1 2).wf = true := by decide
theorem test_ill_source : (Instr.fwd 1 18 3).wf = false ∧ (Instr.fwd 1 18 16).wf = true := by decide
theorem test_ill_second : (Instr.bcast 1 3 1 9).wf = false ∧ (Instr.bcast 1 3 1 7).wf = true := by decide

/-- The two queues of a matrix operation are distinct (R267). -/
theorem test_ill_queues : (Instr.mma 1 0 16 16 1).wf = false ∧ (Instr.mma 1 0 20 16 1).wf = true := by decide

/-- An unassigned type code of `ld` (check 0x2). -/
theorem test_ill_function : (Instr.ld 1 3 1 2 0 6).wf = false ∧ (Instr.ld 1 3 1 2 0 5).wf = true := by decide

/-- A word that an element of another kind would have to accept (check 0x3). -/
theorem test_ill_kind : (Instr.mma 1 0 20 16 1).acceptedBy .v = false ∧ (Instr.add 1 3 1 2).acceptedBy .v = true := by decide

/-- Agents that the package does not have (R7). -/
theorem test_ill_agent :
    (Instr.boot 8).wf = false ∧ (Instr.boot 7).wf = true ∧ (Instr.frameEmit ⟨⟨0, 0, 1⟩, 3⟩).wf = false ∧
      (Instr.frameEmit ⟨⟨0, 0, 0⟩, 128⟩).wf = false ∧ (Instr.fifoEmit ⟨0, 0, 0⟩ 0).wf = false ∧
      (Instr.linkLost 4).wf = false ∧ (Instr.linkLost 27).wf = true := by decide

/-! ## Small states -/

/-- Lanes by their number. -/
def vec (f : Nat → Nat) : Vec := Lanes.ofFn fun i => BitVec.ofNat 32 (f i.val)

/-- The V-, S-, A- and M-element of tile c(1, 1) of d0 that the tests use. -/
def c11 : TileId := ⟨0, 1, 1⟩
def elV : ElemId := ⟨c11, 17⟩
def elS : ElemId := ⟨c11, 113⟩
def elA : ElemId := ⟨c11, 121⟩
/-- The element in which `withFetchWord` places a word. -/
def elP : ElemId := ⟨⟨0, 0, 0⟩, 17⟩
def elM : ElemId := ⟨c11, 125⟩

/-- A valid register. -/
def reg (v : Vec) : Reg := { val := v, valid := true }

/-- Registers v0 to v5 and v9 valid, v6 poisoned, v7 link-lost, v8 not valid; predicates q0 all 1, q1 alternating. -/
def bank0 : Bank :=
  { regs := [(0, reg (vec fun _ => 0)), (1, reg (vec fun i => i + 1)), (2, reg (vec fun i => 10 * i)),
      (3, reg (vec fun _ => 0xFFFFFFFB)), (4, reg (vec fun i => 64 * i)), (5, reg (vec fun i => 0x3F800000 + i)),
      (6, { val := vec id, valid := true, poison := .data }), (7, { val := vec id, valid := true, poison := .link }),
      (9, reg (vec fun i => if i = 1 then 0x2000000 else 0))]
    preds := [(0, { val := Lanes.fill true }), (1, { val := Lanes.ofFn fun i => i.val % 2 == 1 })] }

/-- A token of one value in every lane. -/
def token (n : Nat) : Tok := { data := vec fun _ => n, tag := 5, reqtag := 7, itertag := 9, head := true, tail := false }

/-- An element with that bank. Trigger 1 names no queue and no guard; trigger 2 is guarded by q1; trigger 3 names iq0, its primary
input, and iq1; each fixes bank 0. -/
def elem0 : Elem :=
  { banks := [(0, bank0)]
    iq := [(0, [.tok (token 40)]), (1, [.tok (token 41)]), (4, [.tok (token 42)])]
    trigs := [(1, 0x1C000008000), (2, 0x4000008000), (3, 0x1C000008043)]
    ctl := [(2, 1)] }

/-- A one-block region at the northwest block of d0, running cc0. -/
def region0 : Region := { live := true, rows := 1, cols := 1, loaded := 1, first := false, ctxno := 3, reqtag := 7 }

/-- The state in which an element fires. -/
def lab (e : ElemId) : State := { cur := { elem := e }, elems := [(e.key, elem0)], regions := [(0, region0)], nextId := 5 }

/-- The same, with the region or the element changed. -/
def labR (e : ElemId) (f : Region → Region) : State := (lab e).modRegion 0 f
def labE (e : ElemId) (f : Elem → Elem) : State := (lab e).modElem e f

/-- The state that a run answers. -/
def result (o : Host.Outcome State Fault Refusal) : State :=
  match o with
  | .next t => t
  | _ => State.reset

/-- The register of bank 0 after a run. -/
def regAfter (e : ElemId) (i : Instr) (n : Nat) : Vec := ((((result (exec i (lab e))).elem e).bank 0).reg n).val
def predAfter (e : ElemId) (i : Instr) (n : Nat) : Mask := ((((result (exec i (lab e))).elem e).bank 0).pred n).val

/-! ## Single fires: values by hand from the rules -/

/-- R68, R71: immediates are sign-extended; sums wrap (R70). -/
theorem test_movi_sign : regAfter elV (.movi 1 4 0x3FB) 4 = vec fun _ => 0xFFFFFFFB := by decide
theorem test_addi_wraps : regAfter elV (.addi 1 4 3 5) 4 = vec fun _ => 0 := by decide
theorem test_subs_clamps : regAfter elV (.subsN32 1 9 2 4) 9 = vec fun _ => 0 := by decide

/-- R51, R54: lanes outside the guard keep the register's value, here where the source is also the destination. -/
theorem test_guarded_add : regAfter elV (.add 2 1 1 1) 1 = vec fun i => if i % 2 = 1 then 2 * i + 2 else i + 1 := by decide

/-- R72: a shift uses the low five bits of the amount: 64 × i shifts by nothing. -/
theorem test_shift_modulo : regAfter elV (.shl 1 9 1 4) 9 = vec fun i => i + 1 := by decide

/-- R72: the high half of −5 × (i + 1), signed and unsigned. -/
theorem test_mulh_signed : regAfter elV (.mulhS32 1 9 3 1) 9 = vec fun _ => 0xFFFFFFFF := by decide
theorem test_mulh_unsigned : regAfter elV (.mulhN32 1 9 3 1) 9 = vec fun i => i := by decide

/-- R73: 10 × i < 64 × i in every lane but lane 0. -/
theorem test_compare : predAfter elV (.cltN32 1 24 2 4) 2 = Lanes.ofFn fun i => i.val != 0 := by decide

/-- R79: leading zeros of 1 to 8. -/
theorem test_clz : regAfter elV (.clz 1 9 1) 9 = ⟨31, 30, 30, 29, 29, 29, 29, 28⟩ := by decide

/-- R75: `perm` takes the low three bits of each index: (i + 1) modulo 8 of 10 × i. -/
theorem test_perm : regAfter elV (.perm 1 9 2 1) 9 = ⟨10, 20, 30, 40, 50, 60, 70, 0⟩ := by decide

/-- R173, R177: doubling is exact and raises nothing; x / 0 is an infinity with dz (bit 1 of Table 8.2), 0 / 0 a NaN with nv. -/
theorem test_fadd_exact : regAfter elV (.faddF32 1 9 5 5 0) 9 = vec fun i => 0x40000000 + i := by decide
theorem test_fdiv_zero :
    regAfter elV (.fdivF32 1 4 5 0 0) 4 = (vec fun _ => 0x7F800000) ∧
      (((result (exec (.fdivF32 1 4 5 0 0) (lab elV))).elem elV).bank 0).flags = Flags.dz ∧
      regAfter elV (.fdivF32 1 4 0 0 0) 4 = vec fun _ => 0x7FC00000 := by decide

/-- R52, R53, R421: a source that is not valid is fault 0x01; the bank halts and its registers stay. -/
theorem test_invalid_source :
    let t := result (exec (.add 1 1 1 8) (lab elV))
    t.faults.map (fun f => (f.cause, f.bank)) = [(0x01, 0)] ∧ ((t.elem elV).bank 0).halted = true ∧
      ((t.elem elV).bank 0).regs = bank0.regs := by decide

/-- R33: a queue that two operands pop loses one token, and one that a trigger names and no operand pops keeps its head. -/
theorem test_pop_once :
    let t := result (exec (.add 3 9 16 16) (lab elV))
    (t.elem elV).inq 0 = [] ∧ (t.elem elV).inq 1 = [.tok (token 41)] ∧ (((t.elem elV).bank 0).reg 9).val = vec (fun _ => 80) := by
  decide

/-- R95: `ld.x.n32` sends one request with the sums of its operands as addresses, and its destination becomes pending. -/
theorem test_load_request :
    let t := result (exec (.ld 1 3 4 0 0 5) (lab elV))
    t.reqs.map (fun q => (q.op, q.addr)) = [(.load 4 false false .data, Lanes.ofFn fun i => 64 * i.val)] ∧
      (((t.elem elV).bank 0).reg 3).pending = true ∧ (((t.elem elV).bank 0).reg 3).val = vec (fun _ => 0xFFFFFFFB) := by decide

/-- R338: `trap` records fault 0x12 with its code in info. -/
theorem test_trap_code : (result (exec (.trap 1 1) (lab elV))).faults.map (fun f => (f.cause, f.info)) = [(0x12, 1)] := by decide

/-- A step in which an element fires runs the word that its slot holds. -/
theorem test_step_runs_word :
    ((((result (step (State.reset.withFetchWord 32 0x005183FB))).elem elP).bank 0).reg 3).val = vec fun _ => 0xFFFFFFFB := by decide

/-! ## Witnesses: decoding, steps and fires -/

theorem witness_DecodeEncode : (Instr.add 1 3 1 2).wf = true ∧ encode (.add 1 3 1 2) = some 0x04718441 := by decide
theorem witness_EncodeDecode : decode 0x04718441 = .ok (.add 1 3 1 2) := rfl
theorem witness_FormOfDecoded : decode 0x04718441 = .ok (.add 1 3 1 2) := rfl
theorem witness_NoInstruction :
    0x3E ≤ (fieldsOf 0x03E00000).major.toNat ∧ 0x3E ≤ (fieldsOf 0x03F00000).major.toNat ∧ (fieldsOf 0x03400000).major = 0x34 ∧
      (fieldsOf 0x03500000).major = 0x35 := by decide

/-- The state with the word of `movi v3, −5` placed. -/
def placed : State := State.reset.withFetchWord 32 0x005183FB

theorem witness_StepRunsDecoded :
    placed.nextAgent = .element elP ∧ placed.turn.pick elP = .fire ⟨elP, 0, 0⟩ ∧
      decode (placed.turn.wordAt ⟨elP, 0, 0⟩) = .ok (.movi 0 3 0x3FB) := ⟨by decide, by decide, rfl⟩

/-- A state in which another agent acts. -/
def eventful : State := { lab elV with agenda := [.event .schedulerCycle] }

theorem witness_StepRunsEvent :
    eventful.nextAgent = .event .schedulerCycle ∧ Instr.schedulerCycle.form = none ∧ Instr.schedulerCycle.wf = true ∧
      exec .schedulerCycle eventful.turn = .next (result (exec .schedulerCycle eventful.turn)) := ⟨rfl, rfl, rfl, rfl⟩

/-- The picker fires, switches to the bank of a ready slot that is not preferred, and is idle. -/
theorem witness_PickerFires :
    elP.ok = true ∧ elV.ok = true ∧ placed.pick elP = .fire ⟨elP, 0, 0⟩ ∧
      (placed.modElem elP fun x => { x with pref := 1 }).pick elP = .switch ⟨elP, 0, 0⟩ ∧ (lab elV).pick elV = .idle ∧
      (placed.modRegion 0 fun r => { r with sw := .settling }).regions.any (fun p => p.2.quiet) = true := by decide

theorem witness_StepKeepsMemory : placed.MemOk ∧ step placed = .next (result (step placed)) := ⟨rfl, rfl⟩

theorem witness_FiresLeaveMemory :
    (Instr.add 1 3 1 2).form.isSome = true ∧ exec (.add 1 3 1 2) (lab elV) = .next (result (exec (.add 1 3 1 2) (lab elV))) := ⟨rfl, rfl⟩
theorem witness_FiresLeavePackage :
    (Instr.st 1 4 1 0 5).form.isSome = true ∧ exec (.st 1 4 1 0 5) (lab elV) = .next (result (exec (.st 1 4 1 0 5) (lab elV))) := ⟨rfl, rfl⟩

/-- Destinations of each kind, at the ends of their ranges; with and without a primary head. -/
theorem witness_Writing :
    ((0 : BitVec 5).toNat = 0 ∧ (14 : BitVec 5).toNat = 14) ∧ ((22 : BitVec 5).toNat = 22 + 0 ∧ (28 : BitVec 5).toNat = 22 + 6) ∧
      ((16 : BitVec 5).toNat = 16 + 0 ∧ (21 : BitVec 5).toNat = 16 + 5) ∧ (15 : BitVec 5).toNat = 15 ∧ (29 : BitVec 5).toNat = 29 ∧
      (fireAt (lab elV) 3).prim = some (token 40) ∧ (fireAt (lab elV) 1).prim = none := by decide

theorem witness_TrapChangesNothing : elA.key ≠ (lab elV).cur.elem.key ∧ 1 ≠ (fireAt (lab elV) 1).b := by decide

/-- v8 is not valid, v6 is poisoned, v7 is link-lost. -/
theorem witness_SourceTraps :
    (fireAt (lab elV) 1).tagBank (lab elV) = false ∧ ((fireAt (lab elV) 1).src 8).valid = false ∧
      ((fireAt (lab elV) 1).src 6).valid = true ∧ ((fireAt (lab elV) 1).src 6).poison = .data ∧
      ((fireAt (lab elV) 1).src 7).valid = true ∧ ((fireAt (lab elV) 1).src 7).poison = .link := by decide

theorem witness_ElementFrame : ∃ F, (Instr.add 1 3 1 2).form = some F ∧ F.fields.major.toNat < 0x20 ∧ F.dS.isDst = true ∧
    exec (.add 1 3 1 2) (lab elV) = .next (result (exec (.add 1 3 1 2) (lab elV))) := ⟨_, rfl, by decide, by decide, rfl⟩
theorem witness_MemoryFireFrame : ∃ F, (Instr.ld 1 3 4 0 0 5).form = some F ∧ 0x20 ≤ F.fields.major.toNat ∧
    F.fields.major.toNat < 0x2C ∧ exec (.ld 1 3 4 0 0 5) (lab elV) = .next (result (exec (.ld 1 3 4 0 0 5) (lab elV))) :=
  ⟨_, rfl, by decide, by decide, rfl⟩

/-- No sources, one, two and three clean sources: what the fires of majors 0x00 to 0x1F ask. -/
theorem clean_sources (t : BitVec 6) (h : t = 1 ∨ t = 2 ∨ t = 3) :
    Clean (lab elV) t [] ∧ Clean (lab elV) t [(fireAt (lab elV) t).src 1] ∧ Clean (lab elV) t ([1, 2].map (fireAt (lab elV) t).src) ∧
      Clean (lab elV) t [(fireAt (lab elV) t).src 1, (fireAt (lab elV) t).src 2, (fireAt (lab elV) t).regSrc 3] ∧
      Clean (lab elV) t [(fireAt (lab elV) t).src 4, (fireAt (lab elV) t).regSrc (4 + 1), (fireAt (lab elV) t).src 1] := by
  unfold Clean
  rcases h with rfl | rfl | rfl <;> decide

theorem witness_IntegerTwoOperand : Clean (lab elV) 1 ([1, 2].map (fireAt (lab elV) 1).src) := (clean_sources 1 (by decide)).2.2.1
theorem witness_IntegerOneOperand : Clean (lab elV) 2 [(fireAt (lab elV) 2).src 1] := (clean_sources 2 (by decide)).2.1
theorem witness_ComparesAndPredicates : Clean (lab elV) 3 ([1, 2].map (fireAt (lab elV) 3).src) ∧ Clean (lab elV) 3 [] :=
  ⟨(clean_sources 3 (by decide)).2.2.1, (clean_sources 3 (by decide)).1⟩
theorem witness_MovesAndLanes :
    Clean (lab elV) 3 [] ∧ Clean (lab elV) 3 [(fireAt (lab elV) 3).src 1] ∧ ((0 : BitVec 5).toNat < 8 ∧ (7 : BitVec 5).toNat < 8) ∧
      Clean (lab elV) 3 ([1, 2].map (fireAt (lab elV) 3).src) :=
  ⟨(clean_sources 3 (by decide)).1, (clean_sources 3 (by decide)).2.1, by decide, (clean_sources 3 (by decide)).2.2.1⟩

/-- The end of a fire with and without a primary head, of a bank that was free and of one that was active; a queue that is popped. -/
theorem witness_EndsAndPops :
    (fireAt (lab elV) 3).prim = some (token 40) ∧ (fireAt (lab elV) 1).prim = none ∧
      (elem0.bank (fireAt (lab elV) 1).b).st ≠ .free ∧ ((elem0.modBank 0 fun k => { k with st := .free }).bank (fireAt (lab elV) 1).b).st = .free ∧
      [(16 : BitVec 5), 16].any (fun c => c.toNat == 16 + 0) = true := by decide

theorem witness_ControlAndMoves :
    Clean (lab elV) 1 [] ∧ Clean (lab elV) 1 [(fireAt (lab elV) 1).src 1] ∧
      ((16 : BitVec 5).toNat = 16 + 0 ∧ (20 : BitVec 5).toNat = 16 + 4 ∧ (lab elV |>.elem elV).head 0 = some (token 40) ∧
        (fireAt (lab elV) 3).tagBank (lab elV) = false) :=
  ⟨(clean_sources 1 (by decide)).1, (clean_sources 1 (by decide)).2.1, by decide⟩

/-- A context whose control block enables trap handling (R427), for the privileged forms. -/
def handling (e : ElemId) (f : Region → Region) : State :=
  { labR e f with ctxs := [(3, 0x1000000000000)], mem := [(0x1000000000001, 0x40)] }

theorem witness_SwitchesAndControl :
    ((22 : BitVec 5).toNat = 22 + 0 ∧ (28 : BitVec 5).toNat = 22 + 6) ∧ Clean (lab elV) 1 [(fireAt (lab elV) 1).src 1] ∧
      ((fireAt (lab elV) 1).src 1).val.l0.extractLsb' 0 2 ≠ 3 ∧ (labR elV fun r => { r with handler := true }).regions.all (fun p => p.2.handler) = true ∧
      (lab elV).th 3 = false ∧ Clean (lab elV) 1 [] ∧
      (fireAt (handling elV id) 1).bk.waive = none ∧ ((handling elV id).regionAt c11).handler = false ∧ (handling elV id).th 3 = true :=
  ⟨by decide, (clean_sources 1 (by decide)).2.1, by decide, by decide, by decide, (clean_sources 1 (by decide)).1, by decide, by decide, by decide⟩

theorem witness_CounterStep : Clean (lab elA) 1 [(fireAt (lab elA) 1).src 1] ∧ Clean (lab elA) 1 [] ∧
    ((0 : BitVec 5).toNat < 4 ∧ (3 : BitVec 5).toNat < 4) := by unfold Clean; decide

/-- Float fires with a flag raised, masked and not; a trap mask of all ones in the context's control block. -/
theorem witness_FloatArithmetic :
    Clean (lab elV) 1 ([5, 0].map (fireAt (lab elV) 1).src) ∧ Clean (lab elV) 1 [(fireAt (lab elV) 1).src 5] ∧
      Clean (lab elV) 1 [(fireAt (lab elV) 1).src 5, (fireAt (lab elV) 1).src 0, (fireAt (lab elV) 1).regSrc 2] ∧
      raisedIn (guardAt (lab elV) 1) (on2 (lab elV) 1 (fun x y => lane32 (rounded Fmt.f32 0 (divX (f32Of x) (f32Of y)))) 5 0) = Flags.dz ∧
      (lab elV).tmask 3 = 0 ∧ (fireAt (lab elV) 1).waived 0x0D = false ∧
      Flags.dz &&& ({ lab elV with ctxs := [(3, 0x1000000000000)], mem := [(0x1000000000002, 0x3F)] } : State).tmask 3 ≠ 0 := by
  unfold Clean; decide
theorem witness_FloatOrderAndSign : Clean (lab elV) 1 ([5, 0].map (fireAt (lab elV) 1).src) ∧
    Clean (lab elV) 1 [(fireAt (lab elV) 1).src 5] := by unfold Clean; decide
theorem witness_Conversions :
    Clean (lab elV) 1 [(fireAt (lab elV) 1).src 5] ∧ ((0 : BitVec 5).toNat < 2 ∧ (1 : BitVec 5).toNat < 2) ∧
      Clean (lab elV) 1 ([5, 0].map (fireAt (lab elV) 1).src) ∧
      Clean (lab elV) 1 [(fireAt (lab elV) 1).src 4, (fireAt (lab elV) 1).regSrc (4 + 1), (fireAt (lab elV) 1).src 1] ∧
      ((lab elV).regionAt c11).pure = false ∧
      ((labR elV fun r => { r with pure := true }).regionAt c11).pure = true ∧ ((labR elV fun r => { r with pure := true }).regionAt c11).nsc = 0 ∧
      (fireAt (labR elV fun r => { r with pure := true }) 1).waived 0x08 = false := by unfold Clean; decide
theorem witness_Microscaling : Clean (lab elV) 1 [(fireAt (lab elV) 1).src 5] ∧ Clean (lab elV) 1 ([5, 0].map (fireAt (lab elV) 1).src) ∧
    Clean (lab elV) 1 [(fireAt (lab elV) 1).src 5, (fireAt (lab elV) 1).src 0, (fireAt (lab elV) 1).regSrc 2] := by unfold Clean; decide

/-- A NaN, a negative number, operands of `fexp2` and `frcp` that overflow, a power of two, and a number that is none. -/
theorem witness_SpecialFunctions :
    Clean (lab elV) 1 [(fireAt (lab elV) 1).src 5] ∧ (f32Of 0x7FC00000).isNan = true ∧
      ((f32Of 0xBF800000).isNan = false ∧ (0xBF800000 : Word).msb = true) ∧ f32Of 0x3F800000 = .fin false (2 ^ 23) (-23) false ∧
      (2 ^ 23 = 2 ^ Nat.log2 (2 ^ 23)) ∧ (f32Of 0x40400000 = .fin false (3 * 2 ^ 22) (-22) false) ∧
      -128 ≤ (Nat.log2 (3 * 2 ^ 22) : Int) + -22 := by unfold Clean; decide
theorem witness_ExponentAndScale : Clean (lab elV) 1 [(fireAt (lab elV) 1).src 5] ∧ Clean (lab elV) 1 ([5, 2].map (fireAt (lab elV) 1).src) := by
  unfold Clean; decide

/-- A guard of four lanes; the first of them holds the least and the last the greatest value. -/
theorem guarded_lanes : ((laneIdx.filter fun i => (guardAt (lab elV) 2).get i).map fun i => (lanesOf (lab elV) 2 1).get i) =
    [(2 : Word), 4, 6, 8] := by decide
theorem witness_Reductions :
    (guardAt (lab elV) 2).get 1 = true ∧ Clean (lab elV) 2 [(fireAt (lab elV) 2).src 1] ∧ Clean (lab elV) 2 [] ∧
      (∀ x ∈ [(2 : Word), 4, 6, 8], (2 : Word).toInt ≤ x.toInt ∧ (2 : Word).toNat ≤ x.toNat) ∧
      ∀ x ∈ [(2 : Word), 4, 6, 8], x.toInt ≤ (8 : Word).toInt ∧ x.toNat ≤ (8 : Word).toNat :=
  ⟨by decide, (clean_sources 2 (by decide)).2.1, (clean_sources 2 (by decide)).1, by simp, by simp⟩

/-- Encodings at the ends of a format's range, and a value beyond it. -/
theorem witness_Rounding :
    (0 < 2 ^ (Fmt.e2m1.signAt + 1) ∧ Fmt.e2m1.isNan 0 = false) ∧ (15 < 2 ^ (Fmt.e2m1.signAt + 1) ∧ Fmt.e2m1.isNan 15 = false) ∧
      (1 ≠ 0 ∧ (2 : Int) ^ Fmt.e2m1.eb ≤ (Nat.log2 1 : Int) + 4) ∧ (2 : Int) ^ Fmt.e4m3.eb ≤ (Nat.log2 1 : Int) + 16 ∧
      (2 : Int) ^ Fmt.f16.eb ≤ (Nat.log2 3 : Int) + 31 := by decide

/-! ## Witnesses: memory, command and task fires -/

/-- The region is that of a pure task. -/
def pureLab (e : ElemId) : State := labR e fun r => { r with pure := true }

theorem witness_Reservations :
    ((0 : BitVec 5).toNat < 15 ∧ (14 : BitVec 5).toNat < 15) ∧ ((22 : BitVec 5).toNat = 22 + 0 ∧ (28 : BitVec 5).toNat = 22 + 6) ∧
      (21 : BitVec 5).toNat = 21 ∧ (20 : BitVec 5).toNat ≠ 21 ∧ ((0 < 6 ∧ 0 ≠ 5) ∧ (4 < 6 ∧ 4 ≠ 5)) := by decide

/-- Every form with its addresses reached, at both ends of the type codes; v9 is the global base 2^57, which is beyond the space. -/
theorem witness_LoadsAndStores :
    ((1 ≤ (1 : BitVec 3).toNat ∧ (1 : BitVec 3).toNat ≤ 5) ∧ (1 ≤ (5 : BitVec 3).toNat ∧ (5 : BitVec 3).toNat ≤ 5)) ∧
      Clean (lab elV) 1 ([4, 0].map (fireAt (lab elV) 1).src) ∧ (isData 3 ∧ isData 21 ∧ ¬isData 15 ∧ ¬isData 29) ∧
      LanesReach (lab elV) 1 .x (fun i => ((lanesOf (lab elV) 1 4).get i + (lanesOf (lab elV) 1 0).get i).toNat) 4 ∧
      LanesReach (lab elV) 1 .m (fun i => ((lanesOf (lab elV) 1 4).get i + (lanesOf (lab elV) 1 0).get i).toNat) 1 ∧
      LanesReach (lab elV) 1 .x (fun i => ((lanesOf (lab elV) 1 4).get 0 + (lanesOf (lab elV) 1 0).get 0).toNat + 4 * i.val) 4 ∧
      LanesReach (lab elV) 1 .x (fun i => ((lanesOf (lab elV) 1 4).get i).toNat) 4 ∧
      LanesReach (lab elV) 1 .x (fun i => (lanesOf (lab elV) 1 4).l0.toNat + 4 * i.val) 4 := by
  unfold Clean LanesReach Reaches isData; decide
theorem witness_LoadsAndStores_global :
    Clean (lab elV) 1 ([4, 0].map (fireAt (lab elV) 1).src) ∧ base57 (lanesOf (lab elV) 1 4) < 2 ^ 57 ∧
      (∀ i, (guardAt (lab elV) 1).get i = true →
        0 ≤ (base57 (lanesOf (lab elV) 1 4) : Int) + ((lanesOf (lab elV) 1 0).get i).toInt ∧
          (base57 (lanesOf (lab elV) 1 4) : Int) + ((lanesOf (lab elV) 1 0).get i).toInt + 4 ≤ 2 ^ 57) ∧
      (∀ i : Fin 8, (guardAt (lab elV) 1).get i = true →
        0 ≤ (base57 (lanesOf (lab elV) 1 4) : Int) + ((lanesOf (lab elV) 1 0).get 0).toInt + 4 * i.val ∧
          (base57 (lanesOf (lab elV) 1 4) : Int) + ((lanesOf (lab elV) 1 0).get 0).toInt + 4 * i.val + 4 ≤ 2 ^ 57) ∧
      LanesReach (lab elV) 1 .g (fun i => base57 (lanesOf (lab elV) 1 4) + 4 * i.val) 4 ∧
      Clean (lab elV) 1 ([9, 0].map (fireAt (lab elV) 1).src) ∧ 2 ^ 57 ≤ base57 (lanesOf (lab elV) 1 9) ∧
      (fireAt (lab elV) 1).waived 0x03 = false := by
  unfold Clean LanesReach Reaches; decide

theorem witness_Atomics :
    ((0 : BitVec 5).toNat ≤ 15 ∧ (15 : BitVec 5).toNat ≤ 15) ∧
      Clean (lab elV) 1 ([(fireAt (lab elV) 1).src 4, (fireAt (lab elV) 1).src 1] ++ [(fireAt (lab elV) 1).regSrc 3]) ∧
      ((lab elV).regionAt c11).pure = false ∧ base57 (lanesOf (lab elV) 1 4) < 2 ^ 57 ∧
      LanesReach (lab elV) 1 .x (fun i => ((lanesOf (lab elV) 1 4).get i).toNat / 4 * 4) 4 ∧
      LanesReach (lab elV) 1 .m (fun i => ((lanesOf (lab elV) 1 4).get i).toNat / 4 * 4) 4 ∧
      LanesReach (lab elV) 1 .g (fun i => (base57 (lanesOf (lab elV) 1 4) + 4 * i.val) / 4 * 4) 4 ∧
      Clean (pureLab elV) 1 ([(fireAt (pureLab elV) 1).src 4, (fireAt (pureLab elV) 1).src 1] ++ []) ∧
      ((pureLab elV).regionAt c11).pure = true ∧ (fireAt (pureLab elV) 1).waived 0x08 = false := by
  unfold Clean LanesReach Reaches; decide

theorem witness_Synchronisation :
    Clean (lab elV) 1 ([4, 0].map (fireAt (lab elV) 1).src) ∧
      Reaches (lab elV) .x (((lanesOf (lab elV) 1 4).l0 + (lanesOf (lab elV) 1 0).l0).toNat / 4 * 4) 4 ∧
      Reaches (lab elV) .m ((lanesOf (lab elV) 1 4).l0.toNat / 4 * 4) 4 ∧ Clean (lab elV) 1 [(fireAt (lab elV) 1).src 4] ∧
      Reaches (lab elV) .x ((lanesOf (lab elV) 1 4).l0.toNat / 8 * 8) 8 ∧ Reaches (lab elV) .m ((lanesOf (lab elV) 1 4).l0.toNat / 8 * 8) 8 ∧
      base57 (lanesOf (lab elV) 1 4) < 2 ^ 57 ∧ Reaches (lab elV) .g (base57 (lanesOf (lab elV) 1 4) / 8 * 8) 8 ∧
      ((lab elV).regionAt c11).pure = false ∧ Reaches (lab elV) .x ((lanesOf (lab elV) 1 4).l6.toNat / 4 * 4) 4 ∧
      Clean (pureLab elV) 1 [(fireAt (pureLab elV) 1).src 4] ∧ ((pureLab elV).regionAt c11).pure = true ∧
      (fireAt (pureLab elV) 1).waived 0x08 = false := by
  unfold Clean Reaches; decide

theorem witness_TouchesFramesFences :
    Clean (lab elV) 3 ([4, 1].map (fireAt (lab elV) 3).src) ∧ Clean (lab elV) 3 [(fireAt (lab elV) 3).src 1] ∧ Clean (lab elV) 3 [] := by
  unfold Clean; decide

/-- A stream that runs at port 0 of the tile. -/
def streaming : State :=
  ((lab elA).modPort c11 0 fun p => { p with running := some 3 }).putReq { id := 3 } |> fun s => { s with reqs := [{ id := 3, op := .stream 0, elem := elA }] }

theorem witness_CopyAndStreams :
    Clean (lab elA) 1 [(fireAt (lab elA) 1).src 1] ∧ Clean (lab elA) 1 [] ∧ ((0 : BitVec 5).toNat = (0 : Fin 4).val ∧ (3 : BitVec 5).toNat = (3 : Fin 4).val) ∧
      (((lab elA).port c11 0).waiting = none ∧ ((lab elA).port c11 0).owner = none ∧ ((lab elA).port c11 0).running = none) ∧
      ((streaming.port c11 0).waiting = none ∧ (streaming.port c11 0).owner = none ∧ (streaming.port c11 0).running = some 3 ∧
        streaming.req? 3 = some { id := 3, op := .stream 0, elem := elA }) ∧
      Clean (lab elA) 1 ([4, 1].map (fireAt (lab elA) 1).src) ∧ ((lab elA).regionAt c11).pure = false ∧
      LanesReach (lab elA) 1 .m
        (fun i => ((Table.get ((lab elA).tile c11).ents 0).2 + 4 * ((lanesOf (lab elA) 1 4).get i).toNat) % 2 ^ 32 / 4 * 4) 4 := by
  unfold Clean LanesReach Reaches; decide

/-- `cpy`: a reserved space (v1), a block that is not aligned (v2), and an aligned block (v4). -/
theorem witness_CopyAndStreams_copy :
    (Clean (lab elA) 1 [(fireAt (lab elA) 1).src 1] ∧ (lanesOf (lab elA) 1 1).l6.toNat % 4 = 3) ∧
      (Clean (lab elA) 1 [(fireAt (lab elA) 1).src 2] ∧ (lanesOf (lab elA) 1 2).l6.toNat % 4 = 0 ∧
        Reaches (lab elA) .x (lanesOf (lab elA) 1 2).l4.toNat 64 ∧ (lanesOf (lab elA) 1 2).l4.toNat % 64 ≠ 0) ∧
      (Clean (lab elA) 1 [(fireAt (lab elA) 1).src 4] ∧ (lanesOf (lab elA) 1 4).l6.toNat % 4 = 0 ∧
        Reaches (lab elA) .x (lanesOf (lab elA) 1 4).l4.toNat 64 ∧ (lanesOf (lab elA) 1 4).l4.toNat % 64 = 0) := by
  unfold Clean Reaches; decide

/-- A mask that takes every tile and one that takes none; checksums switched on and off. -/
theorem witness_MatrixInstructions :
    0 < (own (lab elM)).nk ∧ Clean (lab elM) 1 [] ∧ ((List.range 1).filter fun j => (own (lab elM)).kmask.getLsbD j) ≠ [] ∧
      ((List.range 1).filter fun j => (own (labE elM fun x => { x with kmask := 0 })).kmask.getLsbD j) = [] ∧
      Clean (lab elM) 1 [(fireAt (lab elM) 1).src 1] ∧ (lanesOf (lab elM) 1 0).l0.getLsbD 0 = false ∧
      (lanesOf (lab elM) 1 1).l0.getLsbD 0 = true := by unfold Clean; decide

theorem witness_TasksAndYields :
    (Clean (lab elV) 1 [(fireAt (lab elV) 1).src 1] ∧ ((lab elV).regionAt c11).pure = false ∧ ((lab elV).regionAt c11).handler = false ∧
        (fireAt (lab elV) 1).bk.waive = none ∧ (fireAt (lab elV) 1).waived 0x12 = false) ∧
      (Clean (labR elV fun r => { r with handler := true }) 1 [(fireAt (labR elV fun r => { r with handler := true }) 1).src 1] ∧
        ((labR elV fun r => { r with handler := true }).regionAt c11).handler = true ∧
        ((labR elV fun r => { r with handler := true }).regionAt c11).twin = none) ∧
      (Clean (labR elV fun r => { r with handler := true, twin := some (1, true) }) 1 [] ∧
        ((labR elV fun r => { r with handler := true, twin := some (1, true) }).regionAt c11).handler = true ∧
        ((labR elV fun r => { r with handler := true, twin := some (1, true) }).regionAt c11).twin = some (1, true)) ∧
      (({ region0 with done := some 1 } : Region).done ≠ none ∧ region0.done = none ∧ region0.life = .running) := by
  unfold Clean; decide
theorem witness_TasksAndYields_yield :
    (own (labE elV fun x => { x with offer := some 0 })).offer = some 0 ∧
      ((labE elV fun x => { x with offer := some 0 }).regionAt c11).handler = false ∧
      Clean (labE elV fun x => { x with offer := some 0 }) 1 [(fireAt (labE elV fun x => { x with offer := some 0 }) 1).src 4] ∧
      Clean (labE elV fun x => { x with offer := some 0 }) 1 [] ∧
      Reaches (labE elV fun x => { x with offer := some 0 }) .x
        ((lanesOf (labE elV fun x => { x with offer := some 0 }) 1 4).l0.toNat / 4 * 4) 4 ∧
      Reaches (labE elV fun x => { x with offer := some 0 }) .m
        ((lanesOf (labE elV fun x => { x with offer := some 0 }) 1 4).l0.toNat / 4 * 4) 4 := by
  unfold Clean Reaches; decide

/-- A page descriptor of one page and one pick in v10, with a staging descriptor of `.g` in port 0. -/
def paging : State :=
  ((labE elS fun x => x.modBank 0 fun b => { b with regs := (10, reg ⟨0, 0, 0x10001, 0, 0, 0, 0, 0⟩) :: b.regs }).modPort c11 0
    fun p => { p with staging := 4 })

theorem witness_UnitInstructions :
    Clean (lab elS) 1 [(fireAt (lab elS) 1).src 4] ∧ ((lab elS).regionAt c11).pure = false ∧
      Reaches (lab elS) .m ((lanesOf (lab elS) 1 4).l0.toNat / 0x40000 * 0x40000) 4 ∧
      pdBad (natOfVec (lanesOf (lab elS) 1 4)) ((lab elS).port c11 (natOfVec (lanesOf (lab elS) 1 4) / 2 ^ 160 % 16)).staging = true ∧
      Clean (lab elS) 1 ([4, 1].map (fireAt (lab elS) 1).src) ∧ Clean (lab elS) 1 [] := by
  unfold Clean Reaches; decide
theorem witness_UnitInstructions_page :
    Clean paging 1 [(fireAt paging 1).src 10] ∧
      pdBad (natOfVec (lanesOf paging 1 10)) (paging.port c11 (natOfVec (lanesOf paging 1 10) / 2 ^ 160 % 16)).staging = false ∧
      Reaches paging .x (natOfVec (lanesOf paging 1 10) / 2 ^ 96 % 2 ^ 17) (natOfVec (lanesOf paging 1 10) / 2 ^ 88 % 2 ^ 7 + 1) ∧
      Reaches paging .x (natOfVec (lanesOf paging 1 10) / 2 ^ 128 % 2 ^ 17)
        (2 * min (natOfVec (lanesOf paging 1 10) / 2 ^ 80 % 2 ^ 7) (natOfVec (lanesOf paging 1 10) / 2 ^ 64 % 2 ^ 12)) := by
  unfold Clean Reaches; decide

/-! ## Witnesses: requests at their homes -/

/-- The first scratch byte of tile c(1, 1), and a word there that holds 0x80000005. -/
def x0 : Nat := scratchAddr c11 0
def word0 : List Host.Cell := [(x0, 5), (x0 + 3, 0x80)]

/-- A state with requests and memory. -/
def withReqs (rs : List Req) (m : List Host.Cell) : State := { lab elV with reqs := rs, mem := m }

/-- A request of bank 0 of the V-element whose destination is v9. -/
def req (op : ReqOp) : Req := { id := 3, op := op, elem := elV, ctxno := 3, guard := Lanes.fill true, dest := 9, stage := .sent }

/-- The request at its home with one part. -/
def atHome (op : ReqOp) (p : Part) : Req := { req op with stage := .atHome, parts := [p], data := vec fun i => i + 7 }
def part0 (len : Nat) : Part := ⟨0, 0, x0, len⟩

/-- A translation of the first 64 KiB of space 0, which is not writable. -/
def page0 : TlbEnt := { space := 0, vbase := 0, size := 65536, frame := 0, rd := true, wr := false, atom := true }

/-- A state whose tile c(1, 1) has translations in its TLB. -/
def tlbState (s : State) (es : List TlbEnt) : State := s.modTile c11 fun x => { x with tlb := es }

/-- A load of `.g` that reads lane 0, and a store of `.g` into the bytes of seal entry 0. -/
def globalLoad : Req := { req (.load 4 false false .data) with space := .g, guard := Lanes.ofFn fun i => i.val == 0 }
def globalStore : Req := { req (.store 4 false) with space := .g, guard := Lanes.ofFn fun i => i.val == 0, dest := 15 }
def sealed0 : SealEnt := { space := 0, base := 0, len := 64, st := .sealed, gen := 2 }

theorem witness_RequestLife_release :
    ((withReqs [{ req .stf with stage := .held }] []).req? 3 = some { req .stf with stage := .held } ∧
        ∀ q ∈ (withReqs [{ req .stf with stage := .held }] []).earlier { req .stf with stage := .held }, q.performed = true) ∧
      (∃ q ∈ (withReqs [{ req .ldf with id := 2 }, { req .stf with stage := .held }] []).earlier { req .stf with stage := .held },
        q.performed = false ∧ q.isAccess = true) := by decide

/-- Lookups of the miss queue: with room, with a walker free, and without a page; with a page, and with a page whose byte is sealed; a
miss queue that is full. -/
theorem witness_RequestLife_translation :
    (globalLoad.stage = .sent ∧ globalLoad.suppressed = false ∧ globalLoad.isHome = true ∧ globalLoad.space = .g ∧ globalLoad.writes = false) ∧
      (let s := withReqs [globalLoad] []
       let z := s.modTile c11 fun x => { x with missq := s.missNow c11 }
       s.missFull c11 = false ∧ s.walkerFree globalLoad = true ∧ s.parkRoom c11 = true ∧ (s.tile c11).mon.src ≠ 2 ∧
         (s.missNow c11).contains 3 = true ∧ z.xlateAll (siteOf c11) 0 globalLoad.need globalLoad.ranges = .error ⟨0x03, 0, true⟩) ∧
      (let s := tlbState (withReqs [globalLoad] []) [page0]
       let z := s.modTile c11 fun x => { x with missq := s.missNow c11 }
       s.needsWalk globalLoad = false ∧ (s.regionAt c11).pure = false ∧
         z.xlateAll (siteOf c11) 0 globalLoad.need globalLoad.ranges = .ok ([(⟨0, 0, 0, 4⟩, [(0, 4)])], [page0])) :=
  ⟨by decide, ⟨by decide, by decide, by decide, by decide, by decide, rfl⟩, by decide, by decide, rfl⟩
theorem witness_RequestLife_seal :
    let s := { tlbState (withReqs [globalStore] []) [{ page0 with wr := true }] with seals := [(0, sealed0)] }
    let z := s.modTile c11 fun x => { x with missq := s.missNow c11 }
    globalStore.writes = true ∧ s.sealedByte 0 globalStore.ranges = some 0 ∧
      z.xlateAll (siteOf c11) 0 globalStore.need globalStore.ranges = .ok ([(⟨0, 0, 0, 4⟩, [(0, 4)])], [{ page0 with wr := true }]) := ⟨rfl, by decide, rfl⟩
theorem witness_RequestLife_full :
    let s := withReqs ((List.range 33).map fun n => { globalLoad with id := n }) []
    s.missFull c11 = true ∧ (s.missNow c11).contains 32 = false := by decide +kernel

/-- Responses to registers, predicates, output queues and iq5 at the ends of their ranges, of this allocation and of an earlier one. -/
def answered (d : BitVec 5) : Req := { req (.load 4 false false .data) with stage := .performed, dest := d }

theorem witness_RequestLife_response :
    (withReqs [answered 9] []).req? 3 = some (answered 9) ∧ (answered 9).stage = .performed ∧ ((withReqs [answered 9] []).tile c11).mon.src ≠ 1 ∧
      ((answered 0).dest.toNat < 15 ∧ (answered 14).dest.toNat < 15) ∧
      (16 ≤ (answered 16).dest.toNat ∧ (answered 20).dest.toNat < 21 ∧ (answered 21).dest.toNat = 21) ∧
      (22 ≤ (answered 22).dest.toNat ∧ (answered 28).dest.toNat < 29) ∧ (answered 9).image = none ∧
      (((withReqs [answered 9] []).elem elV).bank 0).epoch = (answered 9).epoch ∧ (answered 9).writesQ6 = false ∧
      (req (.atomic .add)).writesQ6 = true ∧ (((withReqs [answered 9] []).elem elV).bank 0).epoch ≠ ({ answered 9 with epoch := 1 } : Req).epoch := by
  decide

theorem word0_wf : Mem.wf word0 = true := by decide
theorem x0_local (s : State) : s.linkLost x0 = false := by
  unfold State.linkLost
  rw [show portOf x0 = none by decide]

/-- A part at its home that nothing delays: the same state serves each operation. -/
theorem home_ready (op : ReqOp) (p : Part)
    (ho : op = .load 4 false true .data ∨ op = .store 4 true ∨ op = .atomic .add ∨ op = .ldf ∨ op = .stf ∨ op = .arv) (h : (p = part0 4 ∨ p = part0 8 ∨ p = ⟨8, 0, x0, 32⟩)) :
    HomeReady (withReqs [atHome op p] word0) 3 0 (atHome op p) p := by
  unfold HomeReady
  refine ⟨word0_wf, ?_⟩
  rcases ho with rfl | rfl | rfl | rfl | rfl | rfl <;> rcases h with rfl | rfl | rfl <;> decide

/-- The words at x0 full or empty, clean or poisoned; no request waits. -/
theorem witness_HomeEffects :
    ((part0 4).lane < 8 ∧ (part0 4).off + (part0 4).len ≤ 4) ∧ ((⟨8, 0, x0, 32⟩ : Part).lane = 8 ∧ ∀ j : Fin 8, (atHome (.store 4 true) (part0 4)).guard.get j = true) ∧
      ((atHome (.atomic .add) (part0 4)).parts = [part0 4] ∧ (atHome (.atomic .add) (part0 4)).mate = none) ∧
      (withReqs [atHome (.atomic .add) (part0 4)] word0).poisonOf x0 4 = .clean ∧
      ({ withReqs [atHome (.atomic .add) (part0 4)] word0 with pois := [(x0, .data)] } : State).poisonOf x0 4 ≠ .clean ∧
      NoneWaits (withReqs [atHome .ldf (part0 4)] word0) ∧
      ({ withReqs [atHome .ldf (part0 4)] word0 with full := [x0] } : State).isFull x0 = true ∧
      (withReqs [atHome .ldf (part0 4)] word0).isFull x0 = false ∧
      ((atHome .arv (part0 8)).dest.toNat < 15 ∧ (atHome .arv (part0 8)).mate = none) := by
  unfold NoneWaits; decide
theorem witness_HomeEffects_values : (5 : Word) ≠ 6 := by decide
/-- A part whose turn has not come, for an earlier store of the bank to its bytes; a part that meets a seal; no generator waits. -/
theorem witness_HomeEffects_turn :
    let s := withReqs [{ atHome (.store 4 false) (part0 4) with id := 2 }, atHome (.load 4 false false .data) (part0 4)] []
    s.blocked (atHome (.load 4 false false .data) (part0 4)) (part0 4) = true ∧
      (let g : Req := { globalStore with stage := .atHome, parts := [⟨0, 0, 0, 4⟩] }
       let z := { withReqs [g] [] with seals := [(0, sealed0)] }
       z.homeFault g = some (0x07, 0) ∧ z.parkRoom c11 = true ∧ z.blocked g ⟨0, 0, 0, 4⟩ = false) ∧
      ∀ b, (withReqs [] []).generatorFirst x0 b 5 = false := by decide

/-! ## Witnesses: the units that serve requests, and seals -/

/-- Two frames at the S-element, of which frame 0 is allocated. -/
def frames0 : FrameUnit := { word := 4, frames := [(0, { alloc := true })] }
def frameState (u : FrameUnit) (op : ReqOp) : State :=
  { (labE elS fun x => { x with frame := u }) with reqs := [{ req op with elem := elS }] }

theorem witness_UnitRequests_frames :
    ((frameState frames0 (.falloc 1)).req? 3 = some { req (.falloc 1) with elem := elS } ∧
        ({ req (.falloc 1) with elem := elS } : Req).frameTarget = some elS ∧ ({ req (.falloc 1) with elem := elS } : Req).stage = .sent ∧
        (frameState frames0 (.falloc 1)).reqs.takeWhile (fun q => q.id != 3) = []) ∧
      (({ req (.falloc 1) with elem := elS } : Req).hasResponse = true ∧ frames0.loop = false ∧ 1 < frames0.count ∧
        (frames0.at 1).alloc = false ∧ ∀ m, m < 1 → (frames0.at m).alloc = true) ∧
      (∀ n, n < ({ frames0 with word := 2 } : FrameUnit).count → (frames0.at n).alloc = true) ∧
      frames0.isStale false 9 = true ∧
      (frames0.isStale false 1 = false ∧ (frames0.at (handleFrame 1)).emitting = false ∧ frames0.need = 0 ∧ frames0.isStale true 1 = false) := by
  decide

/-- A frame unit with an emission of two slots, and loop-nest counters at each end of three levels. -/
def emitting0 (todo : List Nat) : FrameUnit :=
  { frames0 with emitq := [{ frame := 0, todo := todo, first := true, ctxno := 3, reqtag := 7, itertag := 9 }] }
def nest (lnc : Nat) : FrameUnit := { word := 0x320000000081, lnc := lnc }

theorem witness_UnitRequests_emission :
    ((emitting0 [4, 5]).emitq = [{ frame := 0, todo := 4 :: [5], first := true, ctxno := 3, reqtag := 7, itertag := 9 }] ∧
        (labE elS fun x => { x with frame := emitting0 [4, 5] }).regions.length = 1 ∧
        ((labE elS fun x => { x with frame := emitting0 [4, 5] }).elem elS).outFree (emitting0 [4, 5]).out = true) ∧
      ((nest 0).loop = true ∧ (nest 0).emitq = [] ∧ (nest 0).enter = 2 ∧ (nest 0).leave = 3 ∧ (nest 0).levels = 3) ∧
      (0 < (Table.get elem0.ctl 2 : Nat) ∧ (nest 0).lnc + 1 < (nest 0).levels ∧ (nest 2).levels ≤ (nest 2).lnc + 1) ∧
      ((Table.get ([(3, 1)] : Table Nat) 2 : Nat) = 0 ∧ 0 < (Table.get ([(3, 1)] : Table Nat) 3 : Nat) ∧ 0 < (nest 2).lnc ∧ (nest 0).lnc = 0) := by
  decide

/-- A range unit whose first entry is taken, and a full one. -/
def ranges0 : Table RangeEnt := [(0, { live := true, next := 4, stop := 20, least := 2, cons := 3, gen := 1, owner := ⟨3, 7⟩ })]
def full0 : Table RangeEnt := (List.range 256).map fun n => (n, { live := true })
def rangeState (t : Table RangeEnt) (op : ReqOp) (x : Vec) : State :=
  { lab elV with reqs := [{ req op with data := x }], dies := [(0, { ranges := t })] }

theorem witness_UnitRequests_ranges :
    ((rangeState ranges0 .rset (vec id)).req? 3 = some { req .rset with data := vec id } ∧ 1 < 256 ∧
        ((rangeState ranges0 .rset (vec id)).range 0 1).live = false ∧
        ∀ m, m < 1 → ((rangeState ranges0 .rset (vec id)).range 0 m).live = true) ∧
      (rangeState ranges0 .rget ⟨0x200, 0, 0, 0, 0, 0, 0, 0⟩).rangeStale 3 0x200 = true ∧
      (rangeState ranges0 .rget ⟨0x100, 0, 0, 0, 0, 0, 0, 0⟩).rangeStale 3 0x100 = false := by decide
theorem witness_UnitRequests_ranges_full : ∀ n, n < 256 → ((rangeState full0 .rset (vec id)).range 0 n).live = true := by decide

/-- A hash row request of 16 slots at quarter 1 of the memory tile north of the tile, and an insert before any row is open. -/
def hrow0 : Req := { req .hrow with space := .m, addr := Lanes.fill 0x40000, data := ⟨0x40000, 4, 0, 0, 0, 0, 0, 0⟩ }
theorem witness_UnitRequests_hash :
    hrow0.hasResponse = true ∧ hrow0.mate = none ∧ ((withReqs [hrow0] []).quarterOf c11 0x40000).isSome = true ∧
      (4 ≤ hrow0.data.l1.toNat % 16 ∧ hrow0.data.l1.toNat % 16 ≤ 14) ∧
      (req .hins).hasResponse = true ∧ (req .hins).mate = none ∧ ((withReqs [req .hins] []).elem elV).hash.tile = none := by decide
/-- A level change that is due and one that is not; an engine that is busy with an earlier `hins`, and one with an open table. -/
theorem witness_UnitRequests_turns :
    (frameState frames0 (.falloc 1)).levelDue elS = false ∧
      (labE elS fun x => { x with frame := nest 0 }).levelDue elS = true ∧ (nest 0).steppedAt ≠ some 0 ∧
      (withReqs [req .hins] []).hashBusy (req .hins) = false ∧
      (withReqs [{ req .hins with id := 2, started := true }, req .hins] []).hashBusy (req .hins) = true ∧
      (let tl : TileId := ⟨0, 0, 1⟩
       let s := { (labE elV fun x => { x with hash := { tile := some tl, quarter := 1, lg := 4 } }) with
         reqs := [req .hins], mtiles := [(tl.key, { quarters := [(1, { row := .opened })] })] }
       s.hashBusy (req .hins) = false ∧ (s.elem elV).hash.tile = some tl ∧ (s.quarter tl (s.elem elV).hash.quarter).row = .opened) ∧
      (rangeState ranges0 .rfree ⟨0x100, 0, 0, 0, 0, 0, 0, 0⟩).rangeStale 3 0x100 = false := by decide

/-- Seal requests: of a free range, of a sealed one, of one that shares bytes with it, and for the hash engine. -/
def sealState (op : ReqOp) (t : Table SealEnt) : State := { tlbState (withReqs [req op] []) [page0] with seals := t }
def hashing0 : State :=
  { tlbState (withReqs [{ req (.sealRange 0 64) with prog := 0 }] [(1, 9)]) [page0] with
    seals := [(0, { base := 0, len := 64, st := .hashing })], dies := [(0, { sealq := [3] })] }
theorem witness_Seals :
    ((req (.sealRange 32 64)).started = false ∧ (sealState (.sealRange 64 64) []).writeUnderWay 0 64 64 = false ∧ (sealState (.sealRange 32 64) [(0, sealed0)]).sealOf 0 32 64 = none ∧
        (sealState (.sealRange 32 64) [(0, sealed0)]).sealHit 0 32 64 = true) ∧
      ((sealState (.sealRange 0 64) [(0, sealed0)]).sealOf 0 0 64 = some (0, sealed0) ∧ sealed0.st = .sealed) ∧
      ((sealState (.sealRange 64 64) [(0, sealed0)]).sealOf 0 64 64 = none ∧ (sealState (.sealRange 64 64) [(0, sealed0)]).sealHit 0 64 64 = false ∧
        (Table.get (sealState (.sealRange 64 64) [(0, sealed0)]).seals 1).st = .free ∧
        ∀ m, m < 1 → (Table.get (sealState (.sealRange 64 64) [(0, sealed0)]).seals m).st ≠ .free) ∧
      ((hashing0.die 0).sealq = 3 :: [] ∧ (hashing0.req? 3).isSome = true ∧ (∀ q ∈ hashing0.reqs, q.arrival = none) ∧
        ∃ segs, hashing0.engineRange (siteOf c11) 0 Need.read .clear 0 64 = .ok segs) :=
  ⟨by decide, by decide, by decide, by decide, by decide, by decide, _, rfl⟩

/-- A write of `.g` that is under way to a byte of the range. -/
theorem witness_Seals_write :
    ({ tlbState (withReqs [req (.sealRange 0 64), { globalStore with id := 4, stage := .atHome, started := true, parts := [⟨0, 2, 2, 2⟩] }] [])
      [page0] with seals := [] } : State).writeUnderWay 0 0 64 = true := by decide

/-! ## Witnesses: engines -/

/-- A stream descriptor of `.x`: its direction, its base, its tokens, for element 17; bursts of one token. -/
def sd (dir base n : Nat) : Nat := dir + 17 * 2 ^ 8 + 2 ^ 22 + base * 2 ^ 32 + n * 2 ^ 96 + 2 ^ 112 + 2 ^ 128
def stream (blk : Nat) : Req := { id := 3, op := .stream 0, elem := elA, ctxno := 3, stage := .sent, blk := blk, sb := 7, dest := 15 }
def streamState (r : Req) (f : Port → Port) : State := ({ lab elA with reqs := [r], mem := word0 }).modPort c11 0 f
def running (r : Req) (inbox : List Tok) : State := streamState r fun p => { p with running := some 3, inbox := inbox }

theorem witness_StreamsAndCopies_start :
    (((streamState (stream (sd 0 0 1)) fun p => { p with waiting := some 3 }).port c11 0).running = none ∧
        ((streamState (stream (sd 0 0 1)) fun p => { p with waiting := some 3 }).port c11 0).waiting = some 3 ∧
        (streamState (stream (sd 0 0 1)) fun p => { p with waiting := some 3 }).req? 3 = some (stream (sd 0 0 1))) ∧
      ((stream 0).stage = .sent ∧ (stream 0).elem.tile = c11 ∧ (stream 0).parent = none ∧ (stream 0).sb < 8) ∧
      sdBad (sd 0 0 1) = false ∧ sdBad (sd 0 0 1 + 8) = true := by decide

/-- Streams with a token to move; a base beyond the extent of `.x` is a final fault. -/
theorem witness_StreamsAndCopies_token :
    Streams (running (stream (sd 0 0 1)) []) c11 0 (stream (sd 0 0 1)) ∧ Streams (running (stream (sd 1 0 2)) [token 8]) c11 0 (stream (sd 1 0 2)) ∧
      Streams (running (stream (sd 1 0x20000 1)) [token 8]) c11 0 (stream (sd 1 0x20000 1)) :=
  ⟨⟨⟨3, by decide⟩, by decide⟩, ⟨⟨3, by decide⟩, by decide⟩, ⟨3, by decide⟩, by decide⟩
theorem witness_StreamsAndCopies_moves :
    (sdDir (sd 0 0 1) = 0 ∧ bits (sd 0 0 1) 21 1 = 0 ∧ ((running (stream (sd 0 0 1)) []).regionAt c11).hold = false ∧
        elV = ⟨c11, bits (sd 0 0 1) 8 7⟩ ∧ ((running (stream (sd 0 0 1)) []).elem elV).inFree 4 = true ∧
        (running (stream (sd 0 0 1)) []).engineRuns (stream (sd 0 0 1)) .x Need.read 0 32 = .ok [(x0, 32)] ∧
        (running (stream (sd 0 0 1)) []).linkLost x0 = false) ∧
      (sdDir (sd 1 0 2) = 1 ∧ ((running (stream (sd 1 0 2)) [token 8]).port c11 0).inbox = token 8 :: [] ∧
        (running (stream (sd 1 0 2)) [token 8]).engineRuns (stream (sd 1 0 2)) .x Need.write 0 32 = .ok [(x0, 32)] ∧
        Mem.wf (running (stream (sd 1 0 2)) [token 8]).mem = true) ∧
      (running (stream (sd 1 0x20000 1)) [token 8]).engineRuns (stream (sd 1 0x20000 1)) .x Need.write
        (sdAddr (sd 1 0x20000 1) 0 0) 32 = .final ∧
      (sdTotal (sd 0 0 1) ≤ ({ stream (sd 0 0 1) with prog := 1 } : Req).prog ∧ ({ stream (sd 0 0 1) with stop := true } : Req).stop = true ∧
        (stream (sd 0 0 1)).mate = none) := by decide

/-- A copy of one word from byte 0x400 to byte 0x800 of `.x`; its block, of 17 + 2^64, stands at byte 0. -/
def copy0 : Req :=
  { id := 3, op := .copy, elem := elA, ctxno := 3, stage := .sent, sb := 7, dest := 15, data := ⟨0x400, 0, 0x800, 0, 0, 0, 0, 0⟩ }
def copy1 : Req := { copy0 with started := true, blk := 17 + 2 ^ 64 }
def copyState (r : Req) (m : List Host.Cell) : State := { lab elA with reqs := [r], mem := m }
def block0 : List Host.Cell := [(x0, 17), (x0 + 8, 1), (x0 + 0x400, 0xAB), (x0 + 0x801, 0xCD)]

theorem witness_StreamsAndCopies_capture :
    Copies (copyState copy0 block0) elA 7 copy0 ∧ copy0.started = false ∧ (copyState copy0 block0).blockWaits copy0 = false ∧
      (copyState copy0 block0).blockRuns copy0 = .ok [(x0, 64)] ∧ ((copyState copy0 block0).regionAt c11).pure = false ∧
      remoteRefuses x0 = false ∧ copy0.sb < 8 ∧ ((copyState copy0 block0).engineRead [(x0, 64)]).2 = .clean ∧
      copyBad { copy0 with blk := numOf ((copyState copy0 block0).engineRead [(x0, 64)]).1, started := true, parts := [], svc := .clear } = false ∧
      copyBad { copy0 with blk := 0, started := true, parts := [], svc := .clear } = true ∧
      (({ copyState copy0 block0 with pois := [(x0, .data)] } : State).engineRead [(x0, 64)]).2 ≠ .clean := by
  exact ⟨by unfold Copies; decide, rfl, by decide, rfl, by decide, by decide, by decide, by decide, by decide, by decide, by decide⟩
theorem witness_StreamsAndCopies_chunk :
    Copies (copyState copy1 block0) elA 7 copy1 ∧ copy1.prog < copy1.chunks ∧ copy1.svc = .clear ∧
      (((copyState copy1 block0).regionAt c11).pure = false ∧ ((copyState copy1 block0).regionAt c11).life ≠ .folding ∧
        ((copyState copy1 block0).regionAt c11).enginesStop = false) ∧
      ((copyState copy1 block0).chunkTlb copy1 (copy1.chunkElems 0)).chunkService copy1 (copy1.chunkElems 0) = none ∧ copy1.chunkElems 0 = [0] ∧
      (copyState copy1 block0).elemRuns copy1 0 = (.ok [(x0 + 0x400, 4)], .ok [(x0 + 0x800, 4)]) ∧ Mem.wf block0 = true ∧
      cbDsp copy1.blk ≠ 2 ∧ copy1.lostPorts = [] ∧ (0 < 4 ∧ (x0 + 0x400) % 32 + 4 ≤ 32 ∧ (x0 + 0x800) % 32 + 4 ≤ 32) ∧ (copyState copy1 block0).linkLost ((x0 + 0x400) / 32 * 32) = false ∧
      (copyState copy1 block0).linkLost (x0 + 0x800) = false ∧ ({ copy1 with prog := 1 } : Req).chunks ≤ 1 ∧
      (cbNd copy1.blk = 1 ∧ 0 < cbW copy1.blk 0) :=
  ⟨by unfold Copies; decide, by decide, rfl, by decide, by decide, by decide, by decide, by decide, by decide, rfl, by decide, by decide, by decide, by decide, by decide⟩
theorem witness_StreamsAndCopies_update :
    (withReqs [atHome (.gsend 2) (part0 4)] word0).req? 3 = some (atHome (.gsend 2) (part0 4)) ∧ (atHome (.gsend 2) (part0 4)).parts = [part0 4] ∧
      (part0 4).lane < 8 ∧ Mem.wf word0 = true ∧ (withReqs [atHome (.gsend 2) (part0 4)] word0).poisonOf x0 4 = .clean ∧
      ({ withReqs [atHome (.gsend 2) (part0 4)] word0 with pois := [(x0, .data)] } : State).poisonOf x0 4 ≠ .clean := by decide

/-! ## Witnesses: matrix elements, page selection, fabric -/

/-- An operation of bf16 tiles that takes from iq4 and iq5, whose first operand's head stands in iq4. -/
def intake0 : Intake := { req := 3, kind := .mma, acc := 0, fmt := 1, aq := 4, bq := 5, nk := 1, kmask := 1, todo := [0] }
/-- A whole burst of `macl.ld`. -/
def loads0 : Intake :=
  { req := 3, kind := .macl, acc := 1, fmt := 0, aq := 4, bq := 0, nk := 1, kmask := 1, todo := []
    tiles := [((List.range 32).map token, [])] }
def drain0 (n : Nat) : Drain :=
  { req := 3, acc := 0, fmt := 0, rm := 0, cls := 2, keep := false, prune := 0, otag := 6, sent := n }
def matrixState (f : Elem → Elem) : State :=
  { (labE elM f).modTile c11 (fun x => { x with routes := [(2, 0x7020203)] }) with reqs := [{ req .drain with elem := elM }] }
def threshold0 : Req := { req (.thresh true 1) with elem := elM, prog := 3, off := 2 }

theorem witness_MatrixAndPages_intake :
    ((matrixState fun x => { x with intake := some intake0 }).elem elM).intake = some intake0 ∧ intake0.todo ≠ [] ∧ intake0.adone = false ∧
      intake0.aq ≠ intake0.bq ∧ ((matrixState fun x => { x with intake := some intake0 }).elem elM).inq 4 = .tok (token 42) :: [] ∧
      ((matrixState fun x => { x with intake := some intake0 }).elem elM).head 5 = none ∧ (token 42).tail = false ∧
      (token 42).poison = .clean ∧ intake0.acur.length + 1 ≠ intake0.asize ∧ intake0.bdone = false := by decide
theorem witness_MatrixAndPages_write :
    ((matrixState fun x => { x with intake := some loads0 }).elem elM).intake = some loads0 ∧ loads0.todo = [] ∧
      ((matrixState fun x => { x with intake := some loads0 }).elem elM).injw.getLsbD 0 = false ∧
      loads0.tiles = [((List.range 32).map token, [])] ∧ ((List.range 32).map token).length = 32 ∧
      (((matrixState fun x => { x with intake := some loads0 }).elem elM).acc 1).chk = false := by decide
theorem witness_MatrixAndPages_drain :
    (∀ n ∈ [0, 30, 31], ((matrixState fun x => { x with drain := some (drain0 n) }).elem elM).drain = some (drain0 n) ∧ (drain0 n).sent < 32) ∧
      (matrixState fun x => { x with drain := some (drain0 0) }).req? 3 = some { req .drain with elem := elM } ∧
      ((matrixState fun x => { x with drain := some (drain0 0) }).route c11 2).v = true ∧
      ((matrixState fun x => { x with drain := some (drain0 0) }).inClass c11 2).length <
        ((matrixState fun x => { x with drain := some (drain0 0) }).route c11 2).win ∧
      ((matrixState fun x => { x with drain := some (drain0 0) }).elem elM).acc 0 = {} := by decide
theorem witness_MatrixAndPages_threshold :
    (threshold0.elem = elM ∧ threshold0.op = .thresh true 1 ∧ threshold0.st ≠ 1 ∧ ({ threshold0 with st := 1 } : Req).st = 1) ∧
      ({ lab elM with reqs := [threshold0] } : State).reqs.find? (fun q => match q.op with
        | .thresh _ _ => q.elem.tile.block == elM.tile.block
        | _ => false) = some threshold0 ∧ (0 < 2 ∧ 1 < 2) := by decide

/-- A page selection of one page for one pick: to be scored, listed and handed over. -/
def page (started : Bool) (prog : Nat) : Req :=
  { id := 3, op := .pgsel, elem := elS, ctxno := 3, stage := .sent, sb := 7, dest := 15, started := started, prog := prog
    blk := 2 ^ 64 + 2 ^ 80 + 4 * 2 ^ 256, scores := if prog = 1 then [(0, 0x3F800000, 0x100)] else [] }
def pageState (r : Req) : State := tlbState { lab elS with reqs := [r], mem := word0 } [page0]
def handing : Req := { page true 1 with picks := [(0, 0x100)], addr := ⟨1, 0, 0, 0, 0, 0, 0, 0⟩ }

theorem witness_MatrixAndPages_score :
    (pageState (page true 0)).pageReq elS 7 = some (page true 0) ∧ (pageState (page true 0)).req? 3 = some (page true 0) ∧
      (page true 0).stage = .sent ∧ (page true 0).started = true ∧ (page true 0).prog < pdPages (page true 0).blk ∧
      ((pageState (page true 0)).regionAt c11).pure = false ∧
      ((pageState (page true 0)).fillTlb (page true 0) (pdBase (page true 0).blk + 256 * 0) 136).engineX (siteOf c11) 0 Need.read .clear (pdBase (page true 0).blk + 256 * 0) 136 = .ok [(0, 136)] ∧
      ((pageState (page true 0)).engineRead [(0, 136)]).2 = .clean := by decide
theorem witness_MatrixAndPages_query :
    let r := page false 0
    let segs := (pageState r).localRuns c11 .x (pdQ r.blk) (pdLen r.blk)
    (pageState r).pageReq elS 7 = some r ∧ r.started = false ∧ r.svc = .clear ∧ r.prog < pdPages r.blk ∧ segs = [(x0, 1)] ∧
      (pageState r).blocked r ⟨8, 0, x0, 1⟩ = false ∧ ((pageState r).engineRead segs).2 = .clean := by decide
theorem witness_MatrixAndPages_list :
    (pageState (page true 1)).pageReq elS 7 = some (page true 1) ∧ pdPages (page true 1).blk ≤ 1 ∧
      (selectPages (page true 1).scores (pdK (page true 1).blk))[(page true 1).addr.l0]? = some (0, 0x100) ∧
      (pageState (page true 1)).localRuns c11 .x (pdL (page true 1).blk + 2 * 0) 2 = [(x0, 2)] ∧ Mem.wf (pageState (page true 1)).mem = true ∧
      (pageState handing).pageReq elS 7 = some handing ∧ handing.picks[handing.addr.l1]? = some (0, 0x100) ∧
      handing.picks.length ≤ handing.addr.l0 ∧ handing.stop = false ∧ ((pageState handing).port c11 (pdPort handing.blk)).waiting = none ∧
      handing.id < (pageState handing).nextId ∧ ∀ q ∈ (pageState handing).reqs, q.id < (pageState handing).nextId := by decide

/-- A token of the region's context, and one of another. -/
def local3 : Tok := { token 50 with ctxno := 3 }
def routeWord (tk tgt : Nat) : BitVec 64 := BitVec.ofNat 64 (1 + tk * 2 + 1 * 8 + 1 * 2 ^ 9 + tgt * 2 ^ 17 + 2 ^ 24 + 17 * 2 ^ 25 + 2 ^ 32)
/-- Class 2 of the tile, to a target in the tile itself, with its tokens, and the head of oq4. -/
def fabric (tk tgt : Nat) (l : List Flit) : State :=
  ((labE elV fun x => { x with oq := [(1, [.tok local3]), (4, [.tok local3])] }).modTile c11 fun x =>
    { x with routes := [(2, routeWord tk tgt)], classes := [(2, l)] })
def flit (t : Tok) : Flit := { tok := t, skind := 0, sid := 17, src := c11 }
/-- A token that the target's router holds for delivery. -/
def landed (t : Tok) : Flit := { flit t with landed := true }

theorem witness_FabricTokens_move :
    (elV.hasQueue (1 : BitVec 2).toNat = true ∧ ((fabric 0 17 []).elem elV).outq 1 = .tok local3 :: [] ∧
        ((fabric 0 17 []).elem (elV.neighbour 1)).inFree 3 = true) ∧
      (((fabric 0 17 []).elem elV).outq 4 = .tok local3 :: [] ∧ (fabric 0 17 []).classOf elV = some 2 ∧ ((fabric 0 17 []).route c11 2).v = true ∧
        ((fabric 0 17 []).inClass c11 2).length < ((fabric 0 17 []).route c11 2).win) ∧
      ((fabric 0 17 [flit local3]).route c11 2).win ≤ ((fabric 0 17 [flit local3]).inClass c11 2).length := by decide
/-- The same with a write stream of two tokens at port 5. -/
def toPort : State :=
  ({ fabric 1 5 [landed local3] with reqs := [stream (sd 1 0 2)] }).modPort c11 5 fun p => { p with running := some 3 }
theorem witness_FabricTokens_router :
    (fabric 0 17 [flit local3]).asksFor c11 4 = [(4, ⟨c11, 2, 0, flit local3, c11⟩)] ∧
      nextAfter (Table.find ((fabric 0 17 [flit local3]).router c11).grants 4) [4] = some 4 ∧
      0 < ((fabric 0 17 [flit local3]).inClass c11 2).length ∧
      Table.get (((fabric 0 17 [flit local3]).modRouter c11 fun x => { x with memory := [(4, true)] }).router c11).memory 4 = true := by decide
/-- A token of context 0 on its way from the block of a region of context 3 into that of one of context 5. -/
def crossing : State :=
  { ((fabric 0 17 [flit (token 1)]).modTile c11 fun x => { x with routes := [(2, routeWord 0 17 + 2 ^ 9)] }) with
    regions := [(0, region0), (1, { region0 with origin := ⟨0, 1⟩, ctxno := 5 })] }
theorem witness_FabricTokens_delivery :
    ((fabric 0 17 [landed local3]).inClass c11 2 = landed local3 :: [] ∧ (landed local3).landed = true ∧
        (fabric 0 17 [landed local3]).targetAt c11 2 = some (.queue elV) ∧
        nextAfter ((fabric 0 17 [landed local3]).elem elV).granted ((fabric 0 17 [landed local3]).contenders (.queue elV)) =
          some (classRank c11 2) ∧
        ((fabric 0 17 [landed local3]).elem elV).inFree 4 = true ∧ (flit local3).landed = false) ∧
      (toPort.targetAt c11 2 = some (.port c11 5) ∧
        nextAfter (toPort.port c11 5).granted (toPort.contenders (.port c11 5)) = some (classRank c11 2) ∧ toPort.portTakes c11 5 = true ∧
        (fabric 1 5 [landed local3]).portTakes c11 5 = false) ∧
      (crossing.inClass c11 2 = flit (token 1) :: [] ∧ crossing.targetOf c11 2 = some ⟨0, 1, 2⟩ ∧ crossing.foreign c11 2 (flit (token 1)) = some ⟨0, 1⟩ ∧
        crossing.ccb 0 192 57 = 0) ∧
      ((elV, (2 : BitVec 4).toNat) ∈ ({ lab elV with ctlFlight := [(elV, 2)] } : State).ctlFlight ∧ (Table.get elem0.ctl 2 : Nat) < 15 ∧
        15 ≤ (Table.get ([(2, 15)] : Table Nat) 2 : Nat)) := by decide

/-- Quarter 1 of the memory tile north of the tile, in each mode, with its emission into class 2 of the tile. -/
def m01 : TileId := ⟨0, 0, 1⟩
def emits : Nat := 1 * 2 ^ 64 + 1 * 2 ^ 70 + 2 * 2 ^ 78 + 2 ^ 84
def quarterState (k : Quarter) (l : List Flit) (rt : BitVec 64) (m : List Host.Cell) : State :=
  { (lab elV).modTile c11 (fun x => { x with routes := [(2, rt)], classes := if l = [] then [] else [(2, l)] }) with
    mtiles := [(m01.key, { quarters := [(1, k)] })], mem := m }
def fifo (l : List Tok) : Quarter := { word := BitVec.ofNat 128 (1 + 2 * 2 ^ 4 + emits), held := l }
def lines (l : List Tok) : Quarter := { word := BitVec.ofNat 128 (2 + emits), bursts := [([], l)] }
def store (l : List Tok) : Quarter := { word := BitVec.ofNat 128 emits, held := l }
def toQuarter : BitVec 64 := BitVec.ofNat 64 (1 + 2 * 2 + 1 * 2 ^ 9 + 1 * 2 ^ 17 + 2 ^ 24 + 17 * 2 ^ 25 + 2 ^ 32)
def whole : Tok := { local3 with tail := true }
def word1 : Nat := (store []).bufWord m01 1 0

theorem witness_FabricTokens_accept :
    let s := quarterState (fifo []) [landed local3] toQuarter []
    s.quarter m01 1 = fifo [] ∧ nextAfter (fifo []).granted (s.contenders (.quarter m01 1)) = some (classRank c11 2) ∧ c11.key < 6400 ∧
      TileId.ofKey c11.key = c11 ∧ s.inClass c11 2 = landed local3 :: [] ∧ s.targetAt c11 2 = some (.quarter m01 1) ∧
      (fifo []).mode = 1 ∧ (fifo []).held.length < (fifo []).depth := by decide
theorem witness_FabricTokens_emit :
    (quarterState (fifo [local3]) [] (routeWord 0 17) []).quarter m01 1 = fifo [local3] ∧ (fifo [local3]).ev = true ∧
      ((quarterState (fifo [local3]) [] (routeWord 0 17) []).regionAt m01).hold = false ∧
      ((quarterState (fifo [local3]) [] (routeWord 0 17) []).regionAt m01).tileAt (fifo []).emitRow (fifo []).emitCol = some c11 ∧
      ((quarterState (fifo [local3]) [] (routeWord 0 17) []).route c11 (fifo []).emitClass).v = true ∧
      ((quarterState (fifo [local3]) [] (routeWord 0 17) []).inClass c11 (fifo []).emitClass).length <
        ((quarterState (fifo [local3]) [] (routeWord 0 17) []).route c11 (fifo []).emitClass).win ∧
      (fifo [local3]).held = local3 :: [] ∧ (lines [local3]).mode = 2 ∧ (lines [local3]).bursts = [([], local3 :: [])] ∧ (lines [local3]).ev = true := by
  decide
theorem witness_FabricTokens_store :
    let s := quarterState (store [whole]) [] 0 []
    let full := { quarterState (store []) [] 0 [(word1 + 4, 1)] with full := [word1] }
    let sends : Quarter := { store [] with sending := some (0, 2) }
    s.quarter m01 1 = store [whole] ∧ (store [whole]).mode = 0 ∧ (store [whole]).held = [whole] ∧
      whole.tail = true ∧ NoneWaits s ∧ Mem.wf s.mem = true ∧ s.isFull word1 = false ∧ s.waiterFirst word1 false 0 = false ∧
      ((store []).ev = true ∧ (store []).sending = none ∧ full.isFull word1 = true ∧ full.waiterFirst word1 true 0 = false ∧
        0 < full.peek (word1 + 4) 4) ∧
      (sends.mode = 0 ∧ sends.sending = some (0, 2) ∧ 0 + 1 < 2 ∧ 32 * (0 + 1) ≤ sends.bufSize) := by
  unfold NoneWaits; decide

/-! ## Witnesses: spills and switches -/

/-- A V-element whose slot 0 is a ready `yield.rel` (major 0x36, function 7), and the S-element that serves it, with two records. -/
def yields : Elem := { elem0 with ctxs := [(0, { slots := [(0, 0x07600007)] })] }
def spilling (m : Table SpillRec) : State :=
  { lab elV with elems := [(elV.key, yields), (elS.key, { frame := { word := BitVec.ofNat 64 (2 * 2 ^ 48), spill := m } })] }
def rec0 (st : SpillSt) (c : WaitCond) : SpillRec := { st := st, image := bank0, elem := elV, cond := c }

theorem witness_Spills_offer :
    (lab elV).cur.elem = elV ∧ elS.kind = .s ∧
      (((spilling [(0, rec0 .waiting .release), (1, rec0 .waiting .release)]).elem elS).frame.freeSpills.filter fun n =>
        !((servedBy elS).filterMap fun y => ((spilling []).elem y).offer).contains n) = [] ∧
      ((spilling []).elem elS).frame.freeSpills = 0 :: [1] ∧ (spilling []).wantsSpill elV = true ∧
      (servedBy elS).filter (fun y => ((spilling []).elem y).offer.isNone) = [⟨c11, 1⟩, ⟨c11, 9⟩] ++ elV :: ((servedBy elS).drop 3) ∧
      ∀ y ∈ [(⟨c11, 1⟩ : ElemId), ⟨c11, 9⟩], (spilling []).wantsSpill y = false := by decide
theorem witness_Spills_end :
    (spilling [(0, rec0 .filling (.word false 0 x0))]).fillingRec elV (0 : BitVec 2).toNat = some 0 ∧
      (spilling []).condMet (rec0 .filling (.word false 0 x0)) = false ∧ (spilling []).condMet (rec0 .filling .release) = true ∧
      ((rec0 .filling .release).elem = elV ∧ (rec0 .filling .release).bank = (0 : BitVec 2).toNat) := by decide
theorem witness_Spills_return :
    (Table.get ((spilling [(0, rec0 .eligible .release)]).elem (servingElem elV)).frame.spill 0 = rec0 .eligible .release) ∧
      (({ spilling [] with elems := [(elV.key, { banks := [(0, { st := .free })] })] } : State).elem elV |>.bank (rec0 .eligible .release).bank).st = .free ∧
      (∀ q ∈ (spilling [(0, rec0 .eligible .release)]).imagesOf elV 0, q.st = .eligible → (rec0 .eligible .release).order ≤ q.order) ∧
      (rec0 .reinstating .release).st = .reinstating ∧ (rec0 .reinstating .release).elem = elV := by decide

/-- A switch request for cc2, in a region that has cc0 and cc2 loaded. -/
def switch0 (c : BitVec 2) (st : Option Bool) : SwitchReq :=
  { elem := elV, bank := 0, epoch := 0, dest := 25, guard := Lanes.fill true, target := c, status := st }
def switching (c : BitVec 2) (st : Option Bool) (f : Region → Region) : State :=
  { labR elV (fun r => f { r with loaded := 5 }) with switches := [switch0 c st] }

theorem witness_Switches_request :
    ((switching 2 none id).switches = switch0 2 none :: [] ∧ (switch0 2 none).status = none ∧ (switching 2 none id).regionOf elV.tile = some 0) ∧
      (((switching 2 none id).region 0).handler = false ∧ ((switching 2 none id).region 0).hphase = .off ∧
        ((switching 2 none id).region 0).sw = .running ∧ ((switching 2 none id).region 0).loaded.getLsbD (2 : BitVec 2).toNat = true) ∧
      (2 : BitVec 2) ≠ ((switching 2 none id).region 0).active ∧ (0 : BitVec 2) = ((switching 0 none id).region 0).active ∧
      ((switching 1 none id).region 0).loaded.getLsbD (1 : BitVec 2).toNat = false ∧
      ((switch0 2 (some true)).image = none ∧ (((switching 2 (some true) id).elem elV).bank 0).epoch = 0 ∧
        22 ≤ (switch0 2 none).dest.toNat ∧ (switch0 2 none).dest.toNat < 29) := by decide

/-- A region that drains, settles, times out, and a dry stage with a token for cc2 in quarter 1. -/
def drying : State :=
  { labR elV (fun r => { r with loaded := 5, dry := 64 }) with
    mtiles := [(m01.key, { quarters := [(0, { word := BitVec.ofNat 128 (1 + 2 ^ 51) }),
      (1, { word := BitVec.ofNat 128 (1 + 2 ^ 51 + 2 * 2 ^ 52), held := [local3] })] })] }
def swRegion (x : SwSt) (n : Nat) : State := { labR elV (fun r => { r with sw := x, target := 2, swAge := n }) with elems := [] }

theorem witness_Switches_controller :
    ((swRegion .draining 0).region 0).live = true ∧ ((swRegion .draining 0).region 0).sw = .draining ∧
      (swRegion .draining 0).drained ((swRegion .draining 0).region 0) = true ∧
      (((swRegion .settling 2).region 0).sw = .settling ∧ 2 ≤ ((swRegion .settling 2).region 0).swAge) ∧
      ((swRegion .settling 1).region 0).swAge < 2 ∧
      2 ^ (min 12 ((swRegion .draining 256).ccb 3 22 4) + 8) ≤ ((swRegion .draining 256).region 0).swAge ∧
      (64 ≤ (drying.region 0).dry ∧ drying.stageDry (drying.region 0) = true ∧ (drying.region 0).handler = false ∧
        (drying.region 0).hphase = .off ∧ (drying.region 0).sw = .running ∧
        [1, 2, 3].find? (fun k => (drying.stageInputs (drying.region 0) (((drying.region 0).active.toNat + k) % 4)).any (!·.held.isEmpty)) = some 2 ∧
        (drying.region 0).loaded.getLsbD (((drying.region 0).active.toNat + 2) % 4) = true) := by decide

/-! ## Witnesses: launches, loads, folds and saves -/

/-- A launch of a context 3 and tag 7 whose image stands at 0 in its space, accepted in the queue of d0. -/
def launch0 : Launch := { acc := 9, recd := 3 * 2 ^ 128 + 7 * 2 ^ 142 }

/-- The bytes of a table of bytes, from an address on. -/
def cellsFrom (a : Nat) (bs : List Byte) : List Host.Cell :=
  match bs with
  | [] => []
  | b :: rest => if b = 0 then cellsFrom (a + 1) rest else (a, b) :: cellsFrom (a + 1) rest

/-- The item words of trigger 1 and of slot 3 of cc2, both of element 17 of tile (1, 1), and their payloads (Tables 14.3 and 14.4). -/
def section0 : List Byte := bytesOf 8 (2 + 1 * 2 ^ 6 + 17 * 2 ^ 12 + 1 * 2 ^ 19 + 1 * 2 ^ 25) ++ bytesOf 8 0x1C000008000 ++
  bytesOf 8 (1 + 2 * 2 ^ 4 + 3 * 2 ^ 6 + 17 * 2 ^ 12 + 1 * 2 ^ 19 + 1 * 2 ^ 25) ++ bytesOf 8 0x045183FB
/-- The same, but the slot's trigger is not defined. -/
def section1 : List Byte := section0.take 24 ++ bytesOf 8 0x085183FB

/-- An image of two variants, of 1 × 2 and of 1 × 1 blocks (Tables 14.1 and 14.2), with its digest. -/
def variantEntry (rows cols off : Nat) : List Byte := bytesOf 16 (rows + cols * 2 ^ 5 + off * 2 ^ 16 + 32 * 2 ^ 64)
def rest (second : List Byte) : List Byte :=
  variantEntry 1 2 128 ++ variantEntry 1 1 192 ++ List.replicate 32 0 ++ section0 ++ List.replicate 32 0 ++ second ++ List.replicate 32 0
def image (second : List Byte) (digest : Nat) : List Host.Cell :=
  cellsFrom 0 (bytesOf 64 (0x53380A01 + 1 * 2 ^ 32 + 256 * 2 ^ 64 + digest * 2 ^ 256) ++ rest second)
def image0 : List Host.Cell := image section0 0x8712c96b10a543bdbd3dd3dffa76db73416f5ae5261f1dd2605063d37e6209cc
def image1 : List Host.Cell := image section1 0xc86a0dafc31dfde17203246e3face325802b27fbb3a59f9885cf28cdb040c3d6

/-- A region of the second variant at the first block of d0, in a state of its life. -/
def region1 (l : Life) : Region := { region0 with life := l, variant := 1, task := launch0, loaded := 0 }
def loaded (m : List Host.Cell) (r : Region) : State := { mem := m, dies := [(0, { tlb := [page0] })], regions := [(0, r)] }
def loadsOk (x : ImageX (Nat × List Item)) : Bool :=
  match x with
  | .ok (_, items) => namedContexts items == 4 && lowestContext (namedContexts items) == some 2
  | _ => false
def rejects (x : ImageX (Nat × List Item)) : Bool :=
  match x with
  | .reject _ _ => true
  | _ => false
def unshaped (x : ImageX (Nat × List Item)) : Bool :=
  match x with
  | .noVariant => true
  | _ => false
/-- The header of an image of one variant whose section starts at byte 100, where no section may start. -/
def image2 : List Host.Cell := cellsFrom 0 (bytesOf 64 (0x53380A01 + 192 * 2 ^ 64) ++ variantEntry 1 1 100)
/-- A launch that follows the task of `launch0` in its region (R331). -/
def next0 : Launch := { acc := 11, recd := 3 * 2 ^ 128 + 8 * 2 ^ 142 + 2 ^ 170 + 0x1000 * 2 ^ 256 }
def followed : Region := { region1 .finishing with task := { launch0 with recd := launch0.recd + 0x1000 * 2 ^ 64 } }

theorem witness_Scheduling_candidate :
    ({ lab elV with queue := [launch0] } : State).candidate = some launch0 ∧ (lab elV).queue = [] := by decide
theorem witness_Scheduling_placed :
    ({ loaded image0 (region1 .running) with regions := [], queue := [launch0] } : State).queue = [launch0] ∧ launch0.saved = none ∧
      launch0.svc = .clear ∧ lrPure launch0.recd = false ∧ lrNext launch0.recd = false ∧ (∀ i, i < 4 → lrDep launch0.recd i = 0) ∧
      (loaded image0 (region1 .running)).ccb (lrCtx launch0.recd) 15 1 = 0 ∧
      (∃ h vs, ({ loaded image0 (region1 .running) with regions := [], queue := [launch0] } : State).imageTable
          0 ((loaded image0 (region1 .running)).launchSpace launch0) .clear (lrImg launch0.recd) = .ok (h, vs) ∧
        choices launch0 vs = [(0, ⟨1, 2, 128, 32, 0⟩), (1, ⟨1, 1, 192, 32, 0⟩)] ∧ ∀ p ∈ choices launch0 vs, p.2.good h = true) :=
  ⟨rfl, rfl, rfl, rfl, rfl, by decide, by decide, numOf ((cellsFrom 0 []).map (·.2) ++ bytesOf 64 (0x53380A01 + 1 * 2 ^ 32 + 256 * 2 ^ 64 +
    0x8712c96b10a543bdbd3dd3dffa76db73416f5ae5261f1dd2605063d37e6209cc * 2 ^ 256)), [⟨1, 2, 128, 32, 0⟩, ⟨1, 1, 192, 32, 0⟩], by decide +kernel⟩
/-- The image of the second variant loads cc2; the other image is rejected. -/
theorem witness_Scheduling_loads :
    (region1 .loading).life = .loading ∧ (region1 .loading).waits = false ∧ (region1 .loading).svc = .clear ∧ (region1 .loading).live = true ∧
      loadsOk ((loaded image0 (region1 .loading)).loadItems (region1 .loading)) = true := by decide +kernel
theorem witness_Scheduling_rejected :
    (region1 .loading).twin = none ∧ rejects ((loaded image1 (region1 .loading)).loadItems (region1 .loading)) = true ∧
      (∀ x ∈ (loaded image1 (region1 .loading)).mtiles, ∀ q ∈ x.2.quarters, q.2.row = .closed) ∧
      (let r := { region1 .loading with passed := true, cols := 3 }
       unshaped ((loaded image0 r).loadItems r) = true) := by decide +kernel
theorem witness_Scheduling_bad :
    ∃ h vs, ({ loaded image2 (region1 .running) with regions := [], queue := [launch0] } : State).imageTable
        0 ((loaded image2 (region1 .running)).launchSpace launch0) .clear (lrImg launch0.recd) = .ok (h, vs) ∧
      choices launch0 vs = [(0, ⟨1, 1, 100, 32, 0⟩)] ∧ (⟨1, 1, 100, 32, 0⟩ : Variant).good h = false :=
  ⟨0x53380A01 + 192 * 2 ^ 64, [⟨1, 1, 100, 32, 0⟩], by decide +kernel⟩
theorem witness_Scheduling_successor :
    ({ loaded [] followed with queue := [next0] } : State).successor followed = some next0 ∧ followed.life = .finishing ∧
      ({ loaded [] followed with queue := [next0] } : State).idle followed = true := by decide
theorem witness_Scheduling_idle :
    let w : Region := { region1 .loading with waits := true }
    (w.life = .loading ∧ w.waits = true ∧ (loaded [] w).idle w = true) ∧
      ((lab elV).idle w = false ∧ (lab elV).window { w with age := 256 } ≤ ({ w with age := 256 } : Region).age) ∧
      ((loaded [] (region1 .finishing)).idle (region1 .finishing) = true ∧ (region1 .finishing).pure = false ∧
        (region1 .finishing).inserting = none ∧ (loaded [] (region1 .finishing)).successor (region1 .finishing) = none) ∧
      ((lab elV).window region0 ≤ 256 ∧ 255 < (lab elV).window region0) := by decide

/-- A hit of four stored bytes, whose result page can be written or not. -/
def hit0 : Hit := { launch := { launch0 with args := 4 * 2 ^ 192 }, die := 0, entry := 0, off := 0, len := 4 }
def hitState (e : TlbEnt) : State := { lab elV with hits := [hit0], dies := [(0, { tlb := [e], rsBase := 0x200000 })], mem := [(0x200001, 7)] }
/-- A region whose result of four bytes is to be inserted as entry 2. -/
def inserts : State :=
  { loaded [(1, 7)] { region1 .finishing with inserting := some 2, resLen := 4 } with
    dies := [(0, { tlb := [page0], rsBase := 0x200000, reuse := [(2, { st := .inserting, rlen := 4 })] })] }

theorem witness_ReuseAndSaves_reuse :
    (hitState { page0 with wr := true }).hit? 9 = some hit0 ∧ hit0.svc = .clear ∧
      (hitState { page0 with wr := true }).stew 0 ((hitState { page0 with wr := true }).launchSpace hit0.launch) Need.write .clear
        (abResBase hit0.launch.args) 4 = .ok [(0, 4)] ∧
      (hitState page0).stew 0 ((hitState page0).launchSpace hit0.launch) Need.write .clear (abResBase hit0.launch.args) 4 = .final 0x04 ∧
      (hitState page0).sealHit 0 0 4 = false ∧ hit0.todo = none ∧ (hitState page0).linkLost 0 = false ∧ Mem.wf (hitState page0).mem = true ∧
      (({ hitState page0 with seals := [(0, sealed0)] } : State).sealHit 0 0 4 = true ∧
        ({ hit0 with todo := some [(0, 0, 4)] } : Hit).todo = some ((0, 0, 4) :: []) ∧ ({ hit0 with todo := some [] } : Hit).todo = some []) ∧
      ((inserts.region 0).inserting = some 2 ∧ (Table.get (inserts.die 0).reuse 2 : Reuse).st = .inserting ∧ (inserts.region 0).svc = .clear ∧
        inserts.stew 0 0 Need.read .clear 0 4 = .ok [(0, 4)] ∧ (inserts.engineRead [(0, 4)]).2 = .clean ∧ Mem.wf inserts.mem = true ∧
        (({ inserts with pois := [(0, .data)] } : State).engineRead [(0, 4)]).2 ≠ .clean) := by decide

/-- A fold of the first variant to the second, which passes its checks or not. -/
def folding0 : Region := { region1 .folding with fold := some 1, variant := 0, cols := 2 }
theorem witness_ReuseAndSaves_fold : folding0.life = .folding ∧ folding0.fold = some 1 ∧ folding0.twin = none ∧ folding0.svc.waits = false ∧
    (match (loaded image0 folding0).runningImage folding0 with
      | .ok (_, vs, img, _) => vs[1]? == some ⟨1, 1, 192, 32, 0⟩ && (loaded image0 folding0).foldValid folding0 ⟨1, 1, 192, 32, 0⟩ img &&
          (loaded image0 folding0).foldReady folding0 ⟨1, 1, 192, 32, 0⟩
      | _ => false) = true ∧
    (loaded [] folding0).window folding0 ≤ ({ folding0 with age := 256 } : Region).age ∧ folding0.age < (loaded [] folding0).window folding0 := by
  decide +kernel
theorem witness_ReuseAndSaves_fold_fails :
    (match (loaded image1 folding0).runningImage folding0 with
      | .ok (_, vs, img, _) => vs[1]? == some ⟨1, 1, 192, 32, 0⟩ && !(loaded image1 folding0).foldValid folding0 ⟨1, 1, 192, 32, 0⟩ img
      | _ => false) = true := by decide +kernel
theorem witness_ReuseAndSaves_save :
    ((region1 .saving).life = .saving ∧ (loaded [] (region1 .saving)).settled (region1 .saving) = true ∧ (region1 .saving).twin = none ∧
        (region1 .saving).sw = .running ∧ (region1 .saving).svc.waits = false ∧
        ({ loaded [] (region1 .saving) with dies := [(0, { tlb := [{ page0 with size := 2 ^ 24, wr := true }] })] } : State).stew 0 0 Need.write .clear
          ((loaded [] (region1 .saving)).ccb 3 320 57) (region1 .saving).saveLen = .ok [(0, 2 * 0x21000 + 2 * 0x100000)]) ∧
      (({ region1 .restoring with task := { launch0 with saved := some {} } } : Region).task.saved = some {} ∧
        loadsOk ((loaded image0 (region1 .restoring)).loadItems { region1 .restoring with task := { launch0 with saved := some {} } }) = true) := by
  decide +kernel

/-! ## Witnesses: traps and purges -/

/-- A fault of cause 0x05 of the V-element, in iteration 9, and one that is privileged to end by a purge. -/
def fault0 (c : Cause) : FaultRec := { region := 0, cause := c, elem := elV, ctxno := 3, reqtag := 7, itertag := 9 }
/-- The control block of context 3, at 0x1000000000000: trap handling, and trap frames at 0x40. -/
def block3 : List Host.Cell := [(0x1000000000001, 0x40), (0x1000000000010, 0x40)]
/-- A region whose head is iteration 9, of a context without or with trap handling. -/
def trapping (c : Cause) (m : List Host.Cell) (f : Region → Region) : State :=
  { labR elV (fun r => f { r with head := 9 }) with
    faults := [fault0 c], ctxs := [(3, 0x1000000000000)], mem := m, dies := [(0, { tlb := [{ page0 with wr := true }] })] }

theorem witness_Handling_head :
    (0 : BitVec 16) ∉ (lab elV).liveTags 0 ∧ (lab elV).liveTags 0 ≠ [] ∧
      (9 : BitVec 16) ∈ (labR elV fun r => { r with head := 9 }).liveTags 0 ∧ (loaded [] region0).liveTags 0 = [] ∧
      (lab elV).dueFault 0 = none := by decide
theorem witness_Handling_taken :
    ((trapping 0x05 [] id).dueFault 0 = some (fault0 0x05) ∧ ((trapping 0x05 [] id).region 0).life = .running ∧
        ((trapping 0x05 [] id).region 0).svc = .clear ∧ ((trapping 0x05 [] id).region 0).twin = none ∧
        ((trapping 0x05 [] id).region 0).hphase = .off ∧ (trapping 0x05 [] id).purgeRoom 0 = true ∧ (fault0 0x05).region = 0) ∧
      (byPurge 0x05 = false ∧ byPurge 0x06 = true ∧ (trapping 0x05 [] id).th 3 = false ∧ (trapping 0x05 [] id).purges = []) ∧
      (trapping 0x05 [] id).ccb 3 192 57 = 0 ∧
      ((trapping 0x05 block3 id).dueFault 0 = some (fault0 0x05) ∧ (trapping 0x05 block3 id).th 3 = true ∧
        ((trapping 0x05 block3 id).region 0).sw ≠ .settling ∧ (trapping 0x05 block3 id).tfa 3 ≠ 0 ∧
        (trapping 0x05 block3 id).frameX ((trapping 0x05 block3 id).region 0) (fault0 0x05) ((trapping 0x05 block3 id).tfa 3) = .ok [(0x40, 128)]) := by
  decide
theorem witness_Handling_entry :
    let s := trapping 0x05 block3 fun r => { r with hphase := .entering, hage := 2, hfault := some (fault0 0x05) }
    let t := trapping 0x05 block3 fun r => { r with hphase := .leaving, hage := 2, hfault := some (fault0 0x05), hform := 1, handler := true, active := 3 }
    ((s.region 0).hphase = .entering ∧ 2 ≤ (s.region 0).hage ∧ (s.region 0).twin = none ∧
        Table.find s.ctxs (s.region 0).ctxno.toNat = some 0x1000000000000 ∧ Mem.wf s.mem = true) ∧
      ({ s.region 0 with hage := 1 } : Region).hage < 2 ∧
      ((t.region 0).hphase = .leaving ∧ 2 ≤ (t.region 0).hage ∧ (t.region 0).twin = none ∧ (t.region 0).hfault = some (fault0 0x05) ∧
        (t.region 0).again = none ∧ t.purgeRoom (fault0 0x05).elem.tile.die = true ∧ (t.region 0).hform = 1) ∧
      (({ t.region 0 with hform := 0 } : Region).hform = 0 ∧ resumesByDrop (fault0 0x05).cause = false ∧ (fault0 0x05).async = false ∧
        (fault0 0x05).cause ≠ 0x0B ∧ (fault0 0x05).req = none ∧ (fault0 0x05).bank < 4) := by decide

/-- A purge of tag 7 of context 3 in each phase. -/
def purge0 (st : PurgeSt) (sbs : List (ElemId × Nat × Nat)) : Purge := { die := 0, owner := ⟨3, 7⟩, cause := 0x05, st := st, sbs := sbs }
def purging (st : PurgeSt) (sbs : List (ElemId × Nat × Nat)) : State :=
  { labE elV (fun x => { x with iq := [(0, [.tok { local3 with reqtag := 7 }, .tok local3])], sbBusy := 0x80 }) with purges := [purge0 st sbs] }

theorem witness_Containment_phases :
    ((purging .marking []).purgeNow 0 = some (purge0 .marking []) ∧ (purge0 .marking []).die = 0 ∧
        ∀ x ∈ (purging .marking []).regions, x.2.task.owner ≠ (purge0 .marking []).owner) ∧
      (purge0 .sweeping []).sbs = [] ∧ (purging .sweeping []).strayRow = none ∧
      ({ purging .sweeping [] with mtiles := [(1, { quarters := [(1, { row := .rolling })] })] } : State).strayRow = some (⟨0, 0, 1⟩, 1) ∧ (purging .sweeping []).purgeNow 0 = some (purge0 .sweeping []) ∧
      ((purging .sweeping [(elV, 7, 4)]).purgeNow 0 = some (purge0 .sweeping [(elV, 7, 4)]) ∧ 7 < 8 ∧
        ((purging .sweeping [(elV, 7, 4)]).elem elV).sbBusy.getLsbD 7 = true) ∧
      ((purging .recording []).purgeNow 0 = some (purge0 .recording []) ∧ (purge0 .recording []).recs = [] ∧
        (purging .recording []).purges = [purge0 .recording []] ∧ (purging .recording []).ccb 3 192 57 = 0 ∧
        (purge0 .recording []).cmds = []) := by decide

/-- The exit entries of a twin pair in two blocks side by side: stores of `.g`, agreeing or not. -/
def exit0 (id : Nat) (t : TileId) (v : Nat) : Req :=
  { globalStore with id := id, elem := ⟨t, 17⟩, stage := .twin, exit := true, data := vec fun _ => v }
def twins (v : Nat) : State :=
  { reqs := [exit0 3 c11 1, exit0 4 ⟨0, 1, 3⟩ v]
    regions := [(0, { region0 with twin := some (1, true) }), (1, { region0 with origin := ⟨0, 1⟩, twin := some (0, false) })] }
/-- Copy 0's entry alone. -/
def alone (age : Nat) : State := { twins 1 with reqs := [{ exit0 3 c11 1 with age := age }] }

theorem witness_Containment_twins :
    (∀ v ∈ [1, 2], (twins v).req? 3 = some (exit0 3 c11 1) ∧ (twins v).req? 4 = some (exit0 4 ⟨0, 1, 3⟩ v) ∧
        (twins v).copyOfTwin (exit0 3 c11 1) = some (0, 1, true) ∧ (twins v).copyOfTwin (exit0 4 ⟨0, 1, 3⟩ v) = some (1, 0, false) ∧
        (exit0 3 c11 1).stage = .twin ∧ (exit0 4 ⟨0, 1, 3⟩ v).stage = .twin ∧ (exit0 3 c11 1).started = (exit0 4 ⟨0, 1, 3⟩ v).started ∧
        (exit0 3 c11 1).mate = none ∧ (twins v).sameElem 0 1 (exit0 3 c11 1).elem (exit0 4 ⟨0, 1, 3⟩ v).elem = true ∧
        (exit0 3 c11 1).exitNo = (exit0 4 ⟨0, 1, 3⟩ v).exitNo) ∧
      ((exit0 3 c11 1).agrees (exit0 4 ⟨0, 1, 3⟩ 1) = true ∧ (exit0 3 c11 1).isStream = false) ∧
      (exit0 3 c11 1).agrees (exit0 4 ⟨0, 1, 3⟩ 2) = false ∧
      ((alone 257).req? 3 = some { exit0 3 c11 1 with age := 257 } ∧
        (alone 257).copyOfTwin { exit0 3 c11 1 with age := 257 } = some (0, 1, true) ∧
        (∀ p ∈ (alone 257).reqs, p.stage ≠ .twin ∨ ((alone 257).region 1).hasTile p.elem.tile = false) ∧
        (alone 257).window ((alone 257).region 0) < 257 ∧ 256 ≤ (alone 256).window ((alone 256).region 0)) := by decide

/-- Error counts below, at and beyond a threshold; an empty queue; a space whose descriptor is cleared. -/
theorem witness_Containment_errors :
    (({ threshold := 0 } : Island).threshold = 0 ∧ ({ latched := true } : Island).latched = true ∧
        ({ count := 3, threshold := 5 } : Island).count.toNat + 1 < ({ count := 3, threshold := 5 } : Island).threshold.toNat) ∧
      (({ count := 4, threshold := 5 } : Island).threshold ≠ 0 ∧ ({ count := 4, threshold := 5 } : Island).latched = false ∧
        ({ count := 4, threshold := 5 } : Island).threshold.toNat ≤ min 0xFFFFFFFF (({ count := 4, threshold := 5 } : Island).count.toNat + 1)) ∧
      (((loaded [] region0).regionAt ⟨0, 5, 5⟩).live = false ∧ (0 < 6 ∧ 5 < 6) ∧ entryCtxs (((loaded [] region0).elem ⟨⟨0, 5, 5⟩, 3⟩).inq 0) = []) ∧
      (({ loaded [] region0 with dies := [(0, { spaceBase := some 0x1000000000000 })], seals := [(0, sealed0)] } : State).peek (0x1000000000000 + 8 * 0) 8 % 2 = 0 ∧
        ∀ x ∈ [(0, sealed0)], x.2.st ≠ .hashing) := by decide

/-! ## Witnesses: management commands -/

/-- A command record, and a state that holds it with firmware running. -/
def cmd (op p0 p1 p2 : Nat) : Nat := op + p0 * 2 ^ 64 + p1 * 2 ^ 128 + p2 * 2 ^ 192
def commanded (n : Nat) : State := { dies := [(0, { crec := BitVec.ofNat 512 n })], bst := 2 }
/-- The first byte of companion memory. -/
def comp : Nat := 0x1000000000000

/-- Every op has a record with it that is well formed, and one with a reserved bit; a die may be busy or not. -/
theorem witness_Commands_gate :
    (∀ p ∈ [1, 2, 3, 4, 5, 6, 7, 8, 9, 10, 11, 12, 13, 14, 15, 16, 17, 18, 19],
      cmdOp ((commanded (cmd p 0 0 0)).die 0).crec.toNat = p ∧ cmdReserved ((commanded (cmd p 0 0 0)).die 0).crec.toNat = false ∧
        cmdReserved ((commanded (cmd p 0 0 0 + 256)).die 0).crec.toNat = true) ∧
      ((commanded 1).die 0).busy = false ∧ (({ commanded 1 with dies := [(0, { busy := true })] } : State).die 0).busy = true ∧
      ({ commanded 1 with bst := 1 } : State).bst ≠ 2 := by decide

theorem witness_Commands_points :
    (Ready (commanded (cmd 1 0 0 0)) 0 1 (cmd 1 0 0 0) ∧ Ready (commanded (cmd 1 15 15 0)) 0 1 (cmd 1 15 15 0) ∧
        cmdP (cmd 1 15 15 0) 0 = 15 ∧ cmdP (cmd 1 15 15 0) 1 = 15 ∧ 15 < 128 ∧ 15 / 16 = 0 ∧ 15 < 16) ∧
      (Ready (commanded (cmd 2 0x10003 0 0)) 0 2 (cmd 2 0x10003 0 0) ∧ bits 0x10003 14 2 = 0 ∧ 0x10003 < 2 ^ 17 ∧ bits 0x10003 16 1 = 1) ∧
      (Ready (commanded (cmd 2 3 (2 ^ 57 - 64) 64)) 0 2 (cmd 2 3 (2 ^ 57 - 64) 64) ∧
        cmdP (cmd 2 3 (2 ^ 57 - 64) 64) 1 + cmdP (cmd 2 3 (2 ^ 57 - 64) 64) 2 ≤ 2 ^ 57) := by unfold Ready; decide
theorem witness_Commands_windows :
    (Ready (commanded (cmd 3 63 11 1)) 0 3 (cmd 3 63 11 1) ∧ cmdP (cmd 3 63 11 1) 0 < 64 ∧ cmdP (cmd 3 63 11 1) 1 < 12 ∧
        cmdP (cmd 3 63 11 1) 2 < 2 ^ 32 ∧ cmdP (cmd 3 63 11 1) 2 ≠ 0) ∧
      (Ready (commanded (cmd 3 0 0 0)) 0 3 (cmd 3 0 0 0) ∧ ∀ e ∈ [page0], rangeOf e.frame ≠ some (.peer 0)) ∧
      (∃ x ∈ ({ dies := [(0, { tlb := [{ page0 with frame := 0x8000000000000 }] })] } : State).dies, ∃ e ∈ x.2.tlb, rangeOf e.frame = some (.peer 0)) := by unfold Ready; decide
theorem witness_Commands_contexts :
    (Ready (commanded (cmd 4 16383 (comp + 64) 1)) 0 4 (cmd 4 16383 (comp + 64) 1) ∧ (comp + 64) % 64 = 0 ∧ inCompanion (comp + 64) 64 = true) ∧
      (Ready (commanded (cmd 4 0 0 0)) 0 4 (cmd 4 0 0 0) ∧ cmdP (cmd 4 0 0 0) 2 = 0 ∧ (commanded 0).queue = [] ∧ (commanded 0).hits = [] ∧
        (commanded 0).regions = [] ∧ Table.find ({ commanded 0 with ctxs := [(0, comp)] } : State).ctxs 0 = some comp) := by
  unfold Ready; decide
theorem witness_Commands_tables :
    (Ready (commanded (cmd 5 comp 0 0)) 0 5 (cmd 5 comp 0 0) ∧ comp % 0x20000 = 0 ∧ inCompanion comp 0x20000 = true) ∧
      (Ready (commanded (cmd 6 comp 65536 0)) 0 6 (cmd 6 comp 65536 0) ∧ comp % 4096 = 0 ∧ (∃ k, k < 13 ∧ 65536 = 16 * 2 ^ k) ∧
        inCompanion comp (32 * 65536) = true) ∧
      (Ready (commanded (cmd 19 comp 0 0)) 0 19 (cmd 19 comp 0 0) ∧ comp % 0x8000 = 0 ∧ inCompanion comp 0x8000 = true) := by unfold Ready; decide
theorem witness_Commands_work :
    (Ready (commanded (cmd 7 0x200000 0x400000 0)) 0 7 (cmd 7 0x200000 0x400000 0) ∧ 0x200000 % 0x200000 = 0 ∧ 0x400000 % 0x200000 = 0 ∧
        0x200000 / 2 ^ 36 = 0 ∧ 0x200000 % 2 ^ 36 + 0x400000 ≤ 2 ^ 36) ∧
      (Ready (commanded (cmd 8 16383 65536 0)) 0 8 (cmd 8 16383 65536 0) ∧ 16383 < 16384 ∧ 65536 ≤ 65536) ∧
      (Ready (commanded (cmd 9 0x10000 0 0)) 0 9 (cmd 9 0x10000 0 0) ∧ bits 0x10000 14 2 = 0) ∧
      (Ready (commanded (cmd 10 3 0 0)) 0 10 (cmd 10 3 0 0) ∧
        ((loaded [] region0).region 0).live = true ∧ ((loaded [] region0).region 0).ctxno.toNat = 3 ∧ ((loaded [] region0).region 0).done = none) ∧
      (Ready (commanded (cmd 11 3 65535 0)) 0 11 (cmd 11 3 65535 0) ∧ (commanded 0).purgeRoom 0 = true) ∧
      (Ready (commanded (cmd 12 (125 * 2 ^ 11 + 2 ^ 5 + 1) 0x8001 0)) 0 12 (cmd 12 (125 * 2 ^ 11 + 2 ^ 5 + 1) 0x8001 0) ∧
        cmdTileOk (cmd 12 (125 * 2 ^ 11 + 2 ^ 5 + 1) 0x8001 0) 0 = true ∧ 124 ≤ bits (125 * 2 ^ 11 + 2 ^ 5 + 1) 11 7 ∧ 0x8001 % 2 = 1) := by
  unfold Ready; decide
theorem witness_Commands_host :
    (Ready (commanded (cmd 13 33 comp 1)) 0 13 (cmd 13 33 comp 1) ∧ cmdTileOk (cmd 13 33 comp 1) 0 = true ∧ inCompanion comp 80 = true ∧
        Mem.wf (commanded 0).mem = true) ∧
      (Ready (commanded (cmd 14 comp (comp + 32) 0)) 0 14 (cmd 14 comp (comp + 32) 0) ∧ inCompanion comp 32 = true ∧
        inCompanion (comp + 32) 2548 = true ∧ (commanded 0).fwdig < 2 ^ 256) ∧
      (Ready (commanded (cmd 15 comp 0 0)) 0 15 (cmd 15 comp 0 0) ∧ inCompanion comp 1312 = true) ∧
      (Ready (commanded (cmd 16 15 9 0)) 0 16 (cmd 16 15 9 0) ∧ Ready (commanded (cmd 17 0 0 0)) 0 17 (cmd 17 0 0 0)) ∧
      (Ready (commanded (cmd 18 0 0 0)) 0 18 (cmd 18 0 0 0) ∧ portOk 0 0 = true) ∧
      (((commanded 20).die 0).crec.toNat = 20 ∧ 0x13 < cmdOp 20 ∧ cmdReserved 256 = true) := by unfold Ready; decide

/-! ## Witnesses: the device in its system -/

theorem witness_SystemSteps_boot :
    (((commanded 0).die 0).crec.toNat = 0 ∧ cmdOp 0 = 0 ∧ cmdReserved 0 = false ∧ ((commanded 0).die 0).busy = false ∧
        (commanded 0).bst ≠ 0 ∧ (commanded 0).bst ≠ 3) ∧
      (({ commanded (cmd 0 comp 4096 0) with bst := 3 } : State).bst = 3 ∧ inCompanion (cmdP (cmd 0 comp 4096 0) 0) (cmdP (cmd 0 comp 4096 0) 1) = true) ∧
      ({ commanded 0 with bst := 1 } : State).bst = 1 ∧ bootCheck [] false ≠ 0 := by decide

/-- An access parked for the driver, and a translation record of the driver with its answer. -/
def parked0 : Req := { globalLoad with stage := .parked { cause := 0x03, addr := 0, tr := some (0, 5) } }
def answer (resp : Nat) : State :=
  { withReqs [parked0] (cellsFrom comp (bytesOf 32 (5 * 2 ^ 128 + resp * 2 ^ 160))) with
    trans := [{ die := 0, seq := 5, place := comp, space := 0, va := 0 }] }
/-- A launch word that points to a launch record of context 3, with its image at 0x40 and its completion record at 0x1000. -/
def record0 : Nat := launch0.recd + 0x1000 * 2 ^ 64 + 0x40
def lword (m : List Host.Cell) (cx : Table Nat) (wr : Bool) : State :=
  { mem := m, ctxs := cx, bst := 2, dies := [(0, { tlb := [{ page0 with wr := wr }], lw := BitVec.ofNat 64 comp, lwFull := true })] }

theorem witness_SystemSteps_window :
    ((128 ≤ 128 ∧ 191 < 192) ∧ (127 < 128 ∨ 192 ≤ 127) ∧ (192 < 128 ∨ 192 ≤ 192)) ∧
      ((({ dies := [(0, { run := some 7, fin := some (2, 9) })] } : State).die 0).run = some 7 ∧
        (({ dies := [(0, { run := some 7, fin := some (2, 9) })] } : State).die 0).fin = some (2, 9)) ∧
      ((∀ k ∈ [0, 1, 2], (answer k).trans = [{ die := 0, seq := 5, place := comp, space := 0, va := 0 }] ∧
          bits ((answer k).peek comp 32) 128 32 = 5 ∧ bits ((answer k).peek comp 32) 160 2 = k) ∧
        (answer 1).req? 3 = some parked0 ∧ parked0.stage = .parked { cause := 0x03, addr := 0, tr := some (0, 5) }) ∧
      ((({ dies := [(0, { lwFull := false })] } : State).die 0).lwFull = false ∧ ((State.reset).die 0).lwFull = true) := by decide
theorem witness_SystemSteps_lost : (Config.windowPort 0).toNat ∉ (lab elV).lost := by intro h; cases h
theorem witness_SystemSteps_capture :
    let s := lword (cellsFrom (comp) (bytesOf 64 record0)) [(3, comp + 64)] true
    let z := s.modDie 0 fun x => { x with lwFull := false, lwSvc := .clear }
    (s.queued 0 < 1024 ∧ s.bst = 2 ∧ (s.die 0).lwFull = true ∧ (s.die 0).cap = none ∧
        (s.engineRead [(bits (s.die 0).lw.toNat 6 46 * 64, 64)]).2 = .clean ∧
        numOf (s.engineRead [(bits (s.die 0).lw.toNat 6 46 * 64, 64)]).1 = record0) ∧
      z.capX 0 record0 none .clear = .accept 0 ∧ (lword [] [] true).capX 0 0 none .clear = .drop ∧
      z.capX 0 (record0 + 1) none .clear = .refuse 0 := by decide
theorem witness_SystemSteps_full :
    1024 ≤ ({ State.reset with queue := List.replicate 1024 launch0 } : State).queued 0 := by decide +kernel
/-- A `launch` of a fire, whose record has been read, and an `ioread` at each of its steps. -/
def launching : Req := { req (.launch 0) with started := true, blk := record0, scope := 4, exit := true, dest := 15 }
theorem witness_SystemSteps_launch :
    let s := { lword [] [(3, comp + 64)] true with reqs := [launching] }
    s.req? 3 = some launching ∧ launching.stage = .sent ∧ launching.svc = .clear ∧ launching.started = true ∧
      s.capX 0 launching.blk (some (s.space launching.ctxno)) .clear = .accept 0 := by decide

def ioreq (v : Vec) : Req := { req .ioread with data := v, dest := 15, exit := true }
/-- Channel 1, 64 bytes from offset 2 to virtual address 0; the completion word is byte 0x40 of `.x`. -/
def io0 : Vec := ⟨1, 2, 0, 64, 0, 0, 0x40, 0⟩
def channels (n : Nat) : State := { withReqs [ioreq io0] (cellsFrom (comp + 8) (bytesOf 8 n)) with dies := [(0, { chanBase := some comp })] }
def lineReq : Req :=
  { ioreq io0 with started := true, stop := true, parts := [⟨0, 0, 0, 64⟩], addr := ⟨0x40, 64, 0, 6, 0, 0, 0, 0⟩, picks := [(32, 32), (0, 32)] }
def lineState (r : Req) : State := { withReqs [r] [] with spaces := [(6, (List.range 80).map fun k => BitVec.ofNat 8 (k + 1))] }

theorem witness_OutsideEvents_io :
    (∀ r ∈ (lab elV).reqs, r.op ≠ .ioread) ∧
      ((ioreq io0).op = .ioread ∧ (ioreq io0).stage = .sent ∧ (ioreq io0).svc = .clear ∧ (ioreq io0).started = false ∧ (ioreq io0).ioEntry = 0) ∧
      ioBad (natOfVec (vec fun _ => 0)) = true ∧ ioBad (natOfVec io0) = false ∧ (channels 0).channel 0 (ioChan (natOfVec io0)) = none ∧
      ((channels (1 + 9 * 8)).channel 0 (ioChan (natOfVec io0)) = some (1 + 9 * 8) ∧ bits (1 + 9 * 8) 2 1 = 0 ∧ bits (1 + 9 * 8) 3 14 ≠ (channels 0).space 3) := by
  decide
theorem witness_OutsideEvents_block :
    ((lineState lineReq).req? 3 = some lineReq ∧ lineReq.started = true ∧ lineReq.stop = true ∧ lineReq.picks = (32, 32) :: [(0, 32)] ∧
        (lineState lineReq).ioCut lineReq = false ∧ (lineState lineReq).linkLost (lineReq.ioAddr 32) = false ∧ lineReq.ioNet = false ∧
        Mem.wf (lineState lineReq).mem = true ∧
        ioOff (natOfVec lineReq.data) + 32 + 32 ≤ (Table.get (lineState lineReq).spaces lineReq.ioTarget : List Byte).length) ∧
      (let far : Req := { lineReq with parts := [⟨0, 0, comp, 64⟩] }
       ({ lineState far with lost := [0] } : State).linkLost (far.ioAddr 32) = true) ∧
      (({ lineReq with picks := [] } : Req).picks = [] ∧ lineReq.mate = none ∧
        (lineState lineReq).localByte c11 .x 0x40 = some (x0 + 0x40) ∧ (lineState lineReq).isFull (x0 + 0x40) = false ∧
        NoneWaits (lineState lineReq) ∧ lineReq.got < 2 ^ 28 ∧ lineReq.st < 16) := by unfold NoneWaits; decide
/-- A monitor that samples the occupancy of iq4 of element 17 (source 3), and ports held and lost. -/
def monitored : State := (lab elV).modTile c11 fun x => { x with mon := { cfg := BitVec.ofNat 32 (3 + 17 * 2 ^ 4 + 4 * 2 ^ 11) } }
theorem witness_OutsideEvents_links :
    (0 ∈ ({ lost := [0] } : State).lost ∧ 27 ∉ ({ lost := [0] } : State).lost ∧ ({ lost := [0] } : State).reqs = []) ∧
      (monitored.tile c11).mon.src = 3 ∧ bits (monitored.tile c11).mon.cfg.toNat 11 3 < 6 := by decide

/-! ## Witnesses: further clauses, of fires -/

theorem witness_SwitchesAndControl_forms :
    (29 : BitVec 5).toNat = 29 ∧
      (Clean (handling elV id) 1 [(fireAt (handling elV id) 1).src 3] ∧ ((fireAt (handling elV id) 1).src 3).val.l0.extractLsb' 0 2 = 3) := by
  unfold Clean; decide
theorem witness_SpecialFunctions_edges :
    ((0x80000000 : Word) < 0x801FFFFF ∧ (0x801FFFFF : Word) < 0x80200000) ∧ ((0x43000000 : Word) ≤ 0x43000000 ∧ (0x43000000 : Word) < 0x7F800000) ∧
      f32Of 0xC0400000 = .fin true (3 * 2 ^ 22) (-22) false ∧ f32Of 0x3FC00000 = .fin false (3 * 2 ^ 22) (-23) false := by decide
theorem witness_SpecialFunctions_integers :
    Claims.rational true (3 * 2 ^ 22) (-22) = ((-3 : Int) : Rat) ∧ Claims.rational false (3 * 2 ^ 22) (-23) = ((1 : Int) : Rat) + 1 / 2 := by
  unfold Claims.rational; decide +kernel
/-- 1.25 between its neighbours in e2m1, and 7 between the largest finite value and what would follow it, tied to the even one. -/
theorem witness_Rounding_neighbours :
    (Claims.magnitude Fmt.e2m1 2 ≤ (5 : Nat) * (2 : Rat) ^ (-2 : Int) ∧ (5 : Nat) * (2 : Rat) ^ (-2 : Int) < Claims.magnitude Fmt.e2m1 3) ∧
      (Claims.magnitude Fmt.e2m1 7 ≤ (7 : Nat) * (2 : Rat) ^ (0 : Int) ∧ (7 : Nat) * (2 : Rat) ^ (0 : Int) < Claims.magnitude Fmt.e2m1 8) ∧
      (Claims.magnitude Fmt.e2m1 7 + Claims.magnitude Fmt.e2m1 8 = 2 * ((7 : Nat) * (2 : Rat) ^ (0 : Int)) ∧ Fmt.e2m1.maxEnc < 8) := by
  unfold Claims.magnitude; decide +kernel
theorem witness_TasksAndYields_pure :
    (Clean (pureLab elV) 1 [(fireAt (pureLab elV) 1).src 1] ∧ ((pureLab elV).regionAt c11).pure = true ∧
        (fireAt (pureLab elV) 1).waived 0x08 = false) ∧
      (let z := { lab elV with regions := [(0, { region0 with twin := some (1, true) }), (1, { region0 with twin := some (0, false) })] }
       (z.region 0).done = none ∧ (z.region 0).waits = false ∧ 0 ≠ 1 ∧ (z.region 0).twin = some (1, true)) ∧
      region0.waits = false := by unfold Clean; decide
theorem witness_TasksAndYields_refused :
    let s := labR elV fun r => { r with handler := true }
    ((s.regionAt c11).handler = true ∧ (fireAt s 1).bk.waive = none ∧ Clean s 1 [(fireAt s 1).src 4] ∧ Clean s 1 []) ∧
      ((fireAt (lab elV) 1).waived 0x05 = false ∧ Clean (lab elV) 1 [(fireAt (lab elV) 1).src 3] ∧
        (lab elV).holeIn c11 .x ((lanesOf (lab elV) 1 3).l0.toNat / 4 * 4) 4 = some 0xFFFFFFF8 ∧
        (lab elV).holeIn c11 .m ((lanesOf (lab elV) 1 3).l0.toNat / 4 * 4) 4 = some 0xFFFFFFF8) := by unfold Clean; decide
theorem witness_UnitInstructions_pure :
    Clean (pureLab elS) 1 [(fireAt (pureLab elS) 1).src 1] ∧ Clean (pureLab elS) 1 ([1, 2].map (fireAt (pureLab elS) 1).src) ∧
      ((pureLab elS).regionAt c11).pure = true ∧ (fireAt (pureLab elS) 1).waived 0x08 = false := by unfold Clean; decide

/-! ## Witnesses: further clauses, of requests and their units -/

theorem witness_RequestLife_pure :
    let s := { tlbState (withReqs [globalStore] []) [{ page0 with wr := true }] with
      regions := [(0, { region0 with pure := true, resBase := 0x100, resLen := 0x100 })] }
    let z := s.modTile c11 fun x => { x with missq := s.missNow c11 }
    globalStore.waive = false ∧ globalStore.byteJudged = true ∧ s.sealedByte 0 globalStore.ranges = none ∧
      z.impureByte (z.regionAt c11) 0 globalStore.writes globalStore.ranges = some 0 ∧
      z.impureByte region0 0 globalStore.writes globalStore.ranges = none := by decide
/-- A response for an image that stands in its record, and for one that is gone. -/
theorem witness_RequestLife_image :
    let r : Req := { answered 9 with image := some 2 }
    let m : SpillRec := { st := .waiting, elem := elV, bank := 0 }
    r.image = some 2 ∧ (m.st ≠ .free ∧ m.elem = r.elem ∧ m.bank = r.bank ∧ m.image.epoch = r.epoch) ∧
      ¬(({ m with elem := elA } : SpillRec).elem = r.elem) ∧ (answered 22).writesQ6 = false := by decide

/-- A load whose link is lost, an access that meets a seal while the park list is full, and barrier and completion words. -/
def farPart : Part := ⟨0, 0, 0x1000000000000, 4⟩
def farLoad : Req := { atHome (.load 4 false false .data) farPart with space := .g }
theorem witness_HomeEffects_lost :
    let s := { withReqs [farLoad] [] with lost := [0] }
    s.served farLoad farPart 0 = true ∧ s.homeFault farLoad = none ∧ s.linkLost farPart.addr = true ∧ farPart.lane < 8 ∧
      farLoad.parts = [farPart] ∧ farLoad.mate = none ∧ farLoad.hasResponse = true := by decide
theorem witness_HomeEffects_full :
    let g : Req := { globalStore with stage := .atHome, parts := [⟨0, 0, 0, 4⟩] }
    let s := { withReqs (g :: (List.range 64).map fun n => { globalLoad with id := n + 9, stage := .parked { cause := 0x03, addr := 0 } }) []
      with seals := [(0, sealed0)] }
    s.served g ⟨0, 0, 0, 4⟩ 0 = true ∧ s.homeFault g = some (0x07, 0) ∧ s.parkRoom c11 = false := by decide +kernel
theorem home_ready_sync (op : ReqOp) (ho : op = .arw ∨ op = .awt 0 ∨ op = .awt 1 ∨ op = .iowait) :
    HomeReady (withReqs [atHome op (part0 8)] word0) 3 0 (atHome op (part0 8)) (part0 8) := by
  unfold HomeReady
  refine ⟨word0_wf, ?_⟩
  rcases ho with rfl | rfl | rfl | rfl <;> decide
theorem witness_HomeEffects_sync :
    ((atHome .arw (part0 8)).dest.toNat < 15 ∧ (atHome .arw (part0 8)).mate = none) ∧
      ((withReqs [] [(x0 + 4, 1)]).peek (x0 + 4) 2 ≤ ((withReqs [] [(x0 + 4, 1)]).peek x0 4 + 1) % 2 ^ 32 ∧
        ((withReqs [] [(x0 + 4, 2)]).peek x0 4 + 1) % 2 ^ 32 < (withReqs [] [(x0 + 4, 2)]).peek (x0 + 4) 2) ∧
      ((withReqs [] word0).peek (x0 + 6) 2 = 0 ∧ (withReqs [] word0).peek (x0 + 6) 2 ≠ 1) ∧
      (x0 % 32 + 4 ≤ 32 ∧ x0 % 32 = 0 ∧ granuleSize x0 = 32) ∧ (withReqs [] []).locked 3 x0 4 = false := by decide
/-- An atomic with two lanes on one word, of which the second waits for its turn. -/
theorem witness_HomeEffects_lanes :
    laneWaits [part0 4, { part0 4 with lane := 1 }] 1 { part0 4 with lane := 1 } = true ∧
      (let a : Req := { atHome (.atomic .add) (part0 4) with id := 2, bank := 1, parts := [{ part0 4 with lane := 1 }, { part0 4 with lane := 2 }], acted := [x0] }
       (withReqs [a, atHome (.store 4 false) (part0 4)] []).lanesWait (atHome (.store 4 false) (part0 4)) (part0 4) = true) := by decide

/-- An S-element with 24 frames, of which frames 0 and 23 are allocated, that needs slots 0 and 2; and the third level of a loop nest. -/
def frames1 (h0 h1 : BitVec 16) : FrameUnit :=
  { word := BitVec.ofNat 64 (24 * 2 + 5 * 2 ^ 17), frames := [(0, { alloc := true, here := h0 }), (23, { alloc := true, here := h1, gen := 15 })]
    testAt := some 0 }
def nest1 (here : List Nat) : FrameUnit := { nest 2 with here := here, testAt := some 0 }

theorem witness_UnitRequests_puts :
    (frames0.testDue 0 = false ∧ ({ frames0 with testAt := some 0 } : FrameUnit).testDue 1 = true) ∧
      (let u := { frames1 0 0 with testAt := none }
       u.isStale false 0xFFB9 = false ∧ u.loop = false ∧ (u.at (handleFrame 0xFFB9)).emitting = false ∧ u.need ≠ 0 ∧
         u.isStale false 0x1FFB9 = true ∧ u.busy 0xFFB9 = false) ∧
      (emitting0 [4]).busy 1 = false ∧ ({ frames0 with frames := [(0, { alloc := true, emitting := true })] } : FrameUnit).busy 1 = true ∧
      ((nest 2).loop = true ∧ (nest 2).isStale false 1 = false ∧ (nest 2).emitq = [] ∧ (nest 2).isStale false 0x101 = true ∧
        ((frameState (nest 2) (.fput 1)).modElem elS fun x => { x with ctl := [] }).levelDue elS = false ∧
        ({ nest 2 with emitq := (emitting0 [4]).emitq } : FrameUnit).busy 1 = true) := by decide
theorem witness_UnitRequests_tests :
    (let u := frames1 5 7
     u.loop = false ∧ (∃ c, u.testAt = some c ∧ c ≤ 0) ∧ u.emitq = [] ∧
       ((List.range u.count).filter fun n => (u.at n).alloc && !(u.at n).emitting && u.need != 0 && ((u.at n).here &&& u.need) == u.need) = 0 :: [23] ∧
       ((List.range 16).filter fun i => u.need.getLsbD i) = 0 :: [2] ∧ (elem0.outFree u.out = true) ∧
       ({ elem0 with oq := [(0, List.replicate 8 (.tok (token 1)))] } : Elem).outFree u.out = false) ∧
      (let u := frames1 1 0
       ((List.range u.count).filter fun n => (u.at n).alloc && !(u.at n).emitting && u.need != 0 && ((u.at n).here &&& u.need) == u.need) = []) ∧
      (let u : FrameUnit := { nest1 [2] with word := (nest 2).word + 2 ^ 17 }
       u.loop = true ∧ ((List.range 16).filter fun i => u.need.getLsbD i) = 0 :: [] ∧ u.priv * u.lnc + 0 ∈ u.here) ∧
      (∃ c, (nest1 []).testAt = some c ∧ c ≤ 0) ∧ ¬(2 ∈ (nest1 []).here) ∧ (∀ c, (emitting0 [4]).testAt = some c → 0 < c) := by
  refine ⟨⟨by decide, ⟨0, rfl, by decide⟩, by decide, by decide, by decide, by decide, by decide⟩, by decide, by decide, ⟨0, rfl, by decide⟩, by decide, by decide⟩
theorem witness_UnitRequests_levels :
    (nest 2).steppedAt ≠ some 0 ∧ (nest 2).testDue 0 = false ∧ ({ nest 2 with steppedAt := some 0 } : FrameUnit).steppedAt = some 0 := by decide

/-- A table of 16 slots in a memory tile, with key 1 in slot 9, and requests of the hash engine that have captured it. -/
def tl0 : TileId := ⟨0, 0, 1⟩
def hash0 : HashReg := { tile := some tl0, quarter := 1, lg := 4 }
def slot9 : Nat := slotAddr tl0 1 9
def hashState (q : Quarter) (m : List Host.Cell) (full : List Nat) (r : Req) : State :=
  { withReqs [r] m with mtiles := [(tl0.key, { quarters := [(1, q)] })], full := full }
def insert0 (prog : Nat) : Req := { req .hins with started := true, blk := hash0.code tl0, prog := prog, expd := Lanes.fill 1, data := Lanes.fill 5 }

theorem witness_UnitRequests_insert :
    ((insert0 0).hasResponse = true ∧ (insert0 0).mate = none ∧ (hashState { row := .opened } [] [] (insert0 0)).hashBusy (insert0 0) = false ∧
        (HashReg.ofCode (insert0 0).blk).tile = some tl0 ∧ (HashReg.ofCode (insert0 0).blk).lg = 4) ∧
      (guarded (insert0 0).guard)[0]? = some 0 ∧ (guarded (insert0 0).guard)[7]? = some 7 ∧ (guarded (insert0 8).guard)[8]? = none ∧
      (slotAddr tl0 1 (((1 : Word) * 0x9E3779B1).toNat / 2 ^ 28 + 0)) = slot9 ∧
      (hashState { row := .opened } [] [] (insert0 0)).isFull slot9 = false ∧
      (let s := hashState { row := .opened } [(slot9, 1)] [slot9] (insert0 0)
       s.isFull slot9 = true ∧ s.peek slot9 4 = 1 ∧ Mem.wf s.mem = true) ∧
      (let s := hashState { row := .opened } [(slot9, 2)] [slot9] (insert0 0)
       s.isFull slot9 = true ∧ s.peek slot9 4 ≠ 1) ∧
      ({ row := .rolling, log := [(9, 4, true)] } : Quarter).log = (9, 4, true) :: [] ∧
      256 ≤ ({ row := .opened, log := List.replicate 256 (9, 4, true) } : Quarter).log.length := by decide
def full16 : List Nat := (List.range 16).map fun n => slotAddr tl0 1 n
theorem witness_UnitRequests_insert_full : ∀ p, p < 32 →
    (let s := hashState { row := .opened } [] full16 (insert0 0)
     s.isFull (slotAddr tl0 1 ((9 + p) % 16)) = true ∧ s.peek (slotAddr tl0 1 ((9 + p) % 16)) 4 ≠ 1) := by decide
/-- An `hspill` before its start, at its one block, at a block that a seal stops, and after its last. -/
def spill0 (ps : List Part) : Req :=
  { req .hspill with space := .g, started := true, blk := hash0.code tl0, picks := [(9, 0)], parts := ps, addr := Lanes.fill 0 }
def hspillState (r : Req) : State :=
  { tlbState (hashState { row := .opened } [(slot9, 1)] [slot9] r) [{ page0 with wr := true }] with
    elems := [(elV.key, { elem0 with hash := hash0 })] }
theorem witness_UnitRequests_spill :
    (let r := spill0 [⟨8, 0, 0, 8⟩]
     let s := hspillState r
     r.hasResponse = true ∧ r.mate = none ∧ s.hashBusy r = false ∧ r.svc = .clear ∧ Mem.wf s.mem = true ∧
       s.engineX (siteOf c11) (s.space 3) Need.write .clear 0 8 = .ok [(0, 8)] ∧ s.sealHit (s.space 3) 0 8 = false ∧
       s.lostIn [(0, 8)] = false ∧ s.heldRuns [(0, 8)] = false ∧
       ({ s with seals := [(0, sealed0)] } : State).sealHit (s.space 3) 0 8 = true ∧
       s.engineX (siteOf c11) (s.space 3) Need.write .clear (2 ^ 57) 8 = .final) ∧
      (spill0 []).parts = [] ∧
      (let r := { spill0 [] with started := false }
       let s := hspillState r
       s.hashBusy r = false ∧ (s.elem elV).hash.tile = some tl0 ∧ s.engineImpure r .g true 0 (8 * (s.occupied tl0 1 4).length) = none) := by
  decide

/-- Seals that are marked again, that wait, and that find the table full, with entry 5 unsealed or with none. -/
def fullSeals (st : SealSt) : Table SealEnt :=
  (List.range 8192).map fun n => (n, { base := 64 * n, len := 64, st := if n = 5 then st else .sealed })
theorem witness_Seals_again :
    let e : SealEnt := { base := 64, len := 64, st := .unsealed, gen := 1 }
    let s := sealState (.sealRange 64 64) [(3, e)]
    s.sealOf 0 64 64 = some (3, e) ∧ s.sealHit 0 64 64 = false ∧
      (sealState (.sealRange 64 64) [(2, { base := 96, len := 64, st := .sealed }), (3, e)]).sealHit 0 64 64 = true ∧
      (sealState (.sealRange 64 64) [(3, { e with st := .hashing })]).sealOf 0 64 64 = some (3, { e with st := .hashing }) := by decide
theorem full_seals_get (st : SealSt) (n : Nat) (h : n < 8192) :
    Table.get (fullSeals st) n = { base := 64 * n, len := 64, st := if n = 5 then st else .sealed } := by
  have key : ∀ (l : List Nat) (f : Nat → SealEnt), n ∈ l → Table.get (l.map fun k => (k, f k)) n = f n := by
    intro l f
    induction l with
    | nil => simp
    | cons a t ih =>
      intro hm
      by_cases ha : a = n
      · subst ha; simp [Table.get]
      · have : n ∈ t := by simpa [Ne.symm ha] using hm
        simp [Table.get, ha, ih this]
  exact key _ _ (List.mem_range.2 h)
theorem witness_Seals_reclaim :
    (∀ n, n < 8192 → (Table.get (fullSeals .unsealed) n).st ≠ .free) ∧ ((fullSeals .unsealed).map (·.1)).Nodup ∧
      (Table.get (fullSeals .unsealed) 5).st = .unsealed ∧ (∀ p ∈ fullSeals .sealed, p.2.st ≠ .unsealed) := by
  refine ⟨fun n h => ?_, ?_, ?_, ?_⟩
  · rw [full_seals_get _ _ h]; dsimp only; split <;> decide
  · have : (fullSeals .unsealed).map (·.1) = List.range 8192 := by simp [fullSeals, Function.comp_def]
    rw [this]; exact List.nodup_range
  · rw [full_seals_get _ _ (by decide)]; rfl
  · intro p hp
    obtain ⟨n, -, rfl⟩ := List.mem_map.1 hp
    dsimp only; split <;> decide
def waiter0 : Req := { req (.sealRange 0 64) with id := 4, elem := elA, stage := .waiting 2 }
theorem witness_Seals_waiter :
    let s := { hashing0 with reqs := hashing0.reqs ++ [waiter0] }
    s.sealWaiters 0 0 64 = [waiter0] ∧ s.req? 4 = some waiter0 ∧ waiter0.elem.key ≠ elV.key ∧ waiter0.image = none ∧
      (s.die 0).sealq = 3 :: [] ∧ ∃ segs, s.engineRange (siteOf c11) 0 Need.read .clear 0 64 = .ok segs :=
  ⟨by decide, by decide, by decide, by decide, by decide, _, rfl⟩

/-! ## Witnesses: further clauses, of engines and the fabric -/

/-- What an engine does next, where it has one act only. -/
theorem only_act {α : Type} (l : List α) (x : α) (n : Nat) (h : l = [x]) : l[n % l.length]? = some x := by
  subst h; simp [Nat.mod_one]

/-- A read stream of one token that has nothing, one part, or the whole token of it, at element 17. -/
def reading0 (l : List Ahead) : Req := { stream (sd 0 0 1) with ahead := l }
def part32 : Part := ⟨8, 0, x0, 32⟩
theorem witness_StreamsAndCopies_acts :
    (running (reading0 []) []).streamActs (reading0 []) 0 false = [.issue] ∧
      (running (reading0 [{ parts := [part32] }]) []).streamActs (reading0 [{ parts := [part32] }]) 0 false = [.read 0 part32] ∧
      (running (reading0 [{}]) []).streamActs (reading0 [{}]) 0 false = [.deliver] ∧
      (reading0 [{ parts := [part32] }]).lostPorts = [] ∧
      (running (stream (sd 1 0 2)) [token 8]).lostIn [(x0, 32)] = false ∧ (running (stream (sd 1 0 2)) [token 8]).heldRuns [(x0, 32)] = false ∧
      (x0 % 32 = 0 ∧ granuleSize x0 = 32) := by decide
theorem witness_StreamsAndCopies_issue (n : Nat) :
    ((running (reading0 []) []).streamActs (reading0 []) 0 false)[n %
      ((running (reading0 []) []).streamActs (reading0 []) 0 false).length]? = some .issue :=
  only_act _ _ _ witness_StreamsAndCopies_acts.1
/-- Write streams of `.g` into a sealed range, and behind a lost link. -/
def sdFar : Nat := sd 1 0 2 + 2 * 2
theorem witness_StreamsAndCopies_dropped :
    sdDir (sd 1 0 2) = 1 ∧
      (let s := { running (stream (sd 1 0 2)) [token 8] with lost := [0] }
       s.lostIn [(0x1000000000000, 32)] = true) ∧
      (let s := { running (stream (sd 1 0 2)) [token 8] with seals := [(0, sealed0)] }
       s.sealHit 0 0 32 = true) := by decide
theorem witness_StreamsAndCopies_left :
    (({ stream (sd 0 0 1) with stop := true, ahead := [{}] } : Req).ahead ≠ []) ∧ (stream (sd 0 0 2)).prog < sdTotal (sd 0 0 2) ∧
      (stream (sd 0 0 2)).stop = false := by decide

/-- A copy of one chunk that is to be checked, whose source block is to be read, and whose block is to be written. -/
def checked1 (todo : List CopyBlock) (cache : List SrcBlock) : Req := { copy1 with prog := 1, todo := todo, cache := cache }
def move1 : CopyBlock := ⟨0, (x0 + 0x800) / 32, (List.range 4).map fun j => ⟨x0 + 0x800 + j, some (x0 + 0x400 + j)⟩⟩
def cache1 : SrcBlock := ⟨0, (x0 + 0x400) / 32, Mem.readBytes block0 (x0 + 0x400) 32, .clean, false⟩
theorem witness_StreamsAndCopies_chunks :
    (copyState copy1 block0).copyActs copy1 false = [.check] ∧ copy1.chunks = 1 ∧
      (copyState (checked1 [move1] []) block0).copyActs (checked1 [move1] []) false = [.read ((x0 + 0x400) / 32)] ∧
      (copyState (checked1 [move1] [cache1]) block0).copyActs (checked1 [move1] [cache1]) false = [.write ((x0 + 0x800) / 32)] ∧
      ([move1].filter fun x => x.block == (x0 + 0x800) / 32) = [move1] ∧ (∀ m ∈ move1.moves, m.dst / 32 = (x0 + 0x800) / 32) ∧
      (([move1].flatMap (·.moves)).map (·.dst)).Nodup ∧ (checked1 [move1] [cache1]).lostPorts = [] ∧ Mem.wf block0 = true ∧
      (copyState (checked1 [move1] [cache1]) block0).linkLost (32 * ((x0 + 0x800) / 32)) = false ∧
      (x0 + 0x800) % 32 + 4 ≤ 32 ∧ (copyState copy1 block0).lostIn [(x0 + 0x800, 4)] = false ∧
      (copyState copy1 block0).linkLost (32 * ((x0 + 0x400) / 32)) = false ∧
      ({ copyState copy1 block0 with fresh := (copyState copy1 block0).fresh + 1 }.chunkTlb { copy1 with preempted := false } [0]).elemRuns
        { copy1 with preempted := false } 0 = (.ok [(x0 + 0x400, 4)], .ok [(x0 + 0x800, 4)]) ∧
      (withReqs [] word0).heldRuns [(x0, 4)] = false := by decide

/-- Operations of each kind with whole bursts: two dense tiles of bf16, a compressed one, a scaled one, and one key tile of a scout. -/
def tokens (n : Nat) : List Tok := (List.range n).map token
def whole1 (kind : MatKind) (fmt a b : Nat) : Intake :=
  { req := 3, kind := kind, acc := 1, fmt := fmt, aq := 4, bq := 5, nk := 1, kmask := 1, todo := [], tiles := [(tokens a, tokens b)] }
theorem witness_MatrixAndPages_sums :
    ∀ i ∈ [whole1 .mma 1 16 16, whole1 .mmam 5 16 16, whole1 .mmas 1 9 16, whole1 .mmas 6 11 17, whole1 .scout 10 17 17, whole1 .macl 0 32 0],
      i.todo = [] ∧ i.upsets = [] ∧ i.tiles.length = 1 ∧
        (i.kind ≠ .macl → ∀ p ∈ i.tiles,
          p.1.length = (if (mfmt i.fmt).scaled then 1 else 0) +
            (if i.kind == .mmas then (mfmt i.fmt).info + (mfmt i.fmt).data / 2 else (mfmt i.fmt).data) ∧
          p.2.length = (if (mfmt i.fmt).scaled then 1 else 0) + (mfmt i.fmt).data) := by decide
theorem witness_MatrixAndPages_checked :
    ((matrixState fun x => { x with intake := some (whole1 .mma 1 16 16), acs := [(1, { chk := true })] }).elem elM).intake =
        some (whole1 .mma 1 16 16) ∧
      (((matrixState fun x => { x with acs := [(1, { chk := true })] }).elem elM).acc 1).chk = true ∧
      ((matrixState fun x => { x with acs := [(1, { chk := true })] }).elem elM).injw.getLsbD 0 = false := by decide
/-- Drains at the ends of the array and of the checksum vectors, in each format. -/
theorem witness_MatrixAndPages_drains :
    (∀ d ∈ [{ drain0 31 with prune := 5 }, { drain0 35 with acc := 1 }, { drain0 0 with fmt := 1, rm := 3 }, { drain0 15 with fmt := 2, prune := 1 },
        { drain0 0 with fmt := 1, prune := 2 }, { drain0 8 with fmt := 2, prune := 2 }, { drain0 12 with fmt := 2, prune := 2, acc := 1 }],
      d.sent < (if d.fmt = 0 then 32 else if d.prune = 2 then 9 else 16) + (if d.acc = 1 then 4 else 0)) ∧
      keptColumns 2 (fun n => BitVec.ofNat 32 n) = [2, 3, 6, 7, 10, 11, 14, 15] := by decide

/-- Token stores: a burst of two tokens, one that fills a buffer beyond its end, and the last token of a burst that is sent. -/
theorem witness_FabricTokens_stores :
    (let k := store [local3, whole]
     k.mode = 0 ∧ k.whole = true ∧ 32 * k.held.length + 32 ≤ k.bufSize ∧
       NoneWaits (quarterState k [] 0 []) ∧ (quarterState k [] 0 []).isFull (k.bufWord m01 1 k.nextW) = false) ∧
      (let k := store (List.replicate 8191 local3 ++ [whole])
       k.bufSize < 32 * k.held.length + 32) ∧
      (let k : Quarter := { store [] with sending := some (1, 2) }
       k.mode = 0 ∧ k.sending = some (1, 2) ∧ 2 = 1 + 1 ∧ 32 * (1 + 1) ≤ k.bufSize) := by
  unfold NoneWaits; decide +kernel
theorem witness_FabricTokens_owner :
    (fabric 0 17 [flit local3]).targetOf c11 2 = some c11 ∧ (fabric 0 17 [flit local3]).foreign c11 2 (flit local3) = none := by decide
/-- A switch request that is due, and one that is not; a drain that is not over, with a token on the fabric. -/
theorem witness_Switches_times :
    ({ switch0 2 none with due := 4 } : SwitchReq).due ≤ ({ region0 with clock := 4 } : Region).clock ∧
      (let s := { swRegion .draining 256 with tiles := [(c11.key, { classes := [(2, [flit local3])] })] }
       s.drained (s.region 0) = false ∧ (s.region 0).sw = .draining ∧ 2 ^ (min 12 (s.ccb 3 22 4) + 8) ≤ (s.region 0).swAge) := by decide

/-! ## Witnesses: further clauses, of tasks, containment and the system -/

theorem witness_Scheduling_purging :
    let s := { loaded [] (region1 .finishing) with purges := [purge0 .queued []] }
    s.purging 3 = true ∧ (loaded [] (region1 .finishing)).purging 3 = false ∧ (region1 .finishing).ctxno = 3 := by decide
/-- A result page that holds a sealed byte beyond the result, and a block behind a lost link. -/
theorem witness_ReuseAndSaves_pages :
    let s := hitState { page0 with wr := true }
    s.pagesSealed 0 (s.launchSpace hit0.launch) (abResBase hit0.launch.args) 4 = false ∧ s.lostIn [(0, 4)] = false ∧
      (let z := { s with seals := [(0, { sealed0 with base := 0x8000 })] }
       z.pagesSealed 0 (z.launchSpace hit0.launch) (abResBase hit0.launch.args) 4 = true ∧
         z.sealHit (z.launchSpace hit0.launch) (abResBase hit0.launch.args) 4 = false) ∧
      ({ s with lost := [0] } : State).lostIn [(0x1000000000000, 4)] = true := by decide
/-- A queued launch of the context with a saved region. -/
theorem witness_Containment_saved :
    let q : Req := { req .ldf with reqtag := 7 }
    let s := { purging .marking [] with queue := [{ launch0 with saved := some { reqs := [q] } }] }
    s.queue.length = 1 ∧ lrCtx launch0.recd = 3 ∧ (∀ l ∈ s.queue, ∀ v ∈ l.saves, ∀ q ∈ v.reqs, q.performed = false) := by decide
/-- An uncorrectable error in an input queue that holds a token of context 3. -/
theorem witness_Containment_struck :
    let s := labE elV fun x => { x with iq := [(0, [.tok local3])] }
    s.struckBy 0 elV 0 = [3] ∧ s.purges = [] ∧ (∀ l ∈ s.queue, lrCtx l.recd ≠ 3) ∧ (∀ h ∈ s.hits, lrCtx h.launch.recd ≠ 3) ∧
      (s.regionAt c11).live = true ∧ (0, region0) ∈ s.regions ∧ region0.ctxno = 3 := by decide
theorem witness_Containment_space :
    let s : State := { dies := [(0, { spaceBase := some comp }), (3, { spaceBase := some (comp + 0x20000) })], seals := [(0, sealed0)] }
    (∃ d ∈ s.dies, d.2.spaceBase.isSome = true) ∧ (∀ d ∈ s.dies, ∀ b, d.2.spaceBase = some b → s.peek (b + 8 * 0) 8 % 2 = 0) ∧
      ∀ x ∈ s.seals, x.2.st ≠ .hashing :=
  ⟨⟨_, List.mem_cons_self .., rfl⟩, by intro d hd b hb; simp at hd; rcases hd with rfl | rfl <;> cases hb <;> decide, by decide⟩
theorem witness_Commands_lost :
    (commanded 0).lostIn [(comp, 80)] = false ∧ (commanded 0).lostIn [(comp, 32)] = false ∧ (commanded 0).lostIn [(comp + 32, 2548)] = false ∧
      (commanded 0).lostIn [(comp, 1312)] = false := by decide +kernel
/-- A finished Channel table command, and two records of one page, on two dies, of which the first is answered. -/
theorem witness_SystemSteps_answers :
    (cmdOp (cmd 19 comp 0 0) = 19 ∧ cmdP (cmd 19 comp 0 0) 0 = comp) ∧
      (let u : TransRec := { die := 0, seq := 5, place := some comp, space := 0, va := 0 }
       let w : TransRec := { u with die := 1, seq := 2, va := 0xFFFF }
       let p : Req := { globalLoad with stage := .parked { cause := 0x03, addr := 0xFFFF, tr := some (1, 2) } }
       let s := { withReqs [p] (cellsFrom comp (bytesOf 32 (5 * 2 ^ 128 + 1 * 2 ^ 160))) with trans := [u, w] }
       w.die ≠ u.die ∧ u.spent = false ∧ s.linkLost comp = false ∧ bits (s.peek comp 32) 128 32 = u.seq ∧ bits (s.peek comp 32) 160 2 = 1 ∧
         u.space = w.space ∧ u.va / 0x10000 = w.va / 0x10000 ∧ s.req? 3 = some p) := by decide
/-- An `ioread` whose range cannot be written, with its channel entry captured. -/
theorem witness_OutsideEvents_range :
    let r : Req := { ioreq io0 with addr := ⟨0, 0, 0, 0, 0, 9, 0, 0⟩ }
    r.ioEntry ≠ 0 ∧ r.started = false ∧ (lineState lineReq).heldRuns [(lineReq.ioAddr 32, 32)] = false ∧
      (let s := tlbState (withReqs [r] []) [page0]
       s.engineRange (siteOf c11) (s.space 3) Need.write (.refused [0]) (ioDst (natOfVec io0)) (ioLen (natOfVec io0)) = .final) := by decide

/-! ## Witnesses: the order of requests, tokens and blocks; boundaries of further clauses -/

/-- A frame request of position 17 when one of position 120 has been applied in the same cycle, in an earlier one, and when none has. -/
theorem witness_UnitRequests_passed :
    (∃ c p, ({ frames0 with servedAt := some (0, 120) } : FrameUnit).servedAt = some (c, p) ∧ c = (frameState frames0 (.falloc 1)).clockOf elS ∧
        elS.pos < p) ∧
      ¬(∃ c p, frames0.servedAt = some (c, p) ∧ c = (0 : Nat) ∧ elS.pos < p) ∧
      ¬(∃ c p, ({ frames0 with servedAt := some (0, 113) } : FrameUnit).servedAt = some (c, p) ∧ c = (0 : Nat) ∧ elS.pos < p) := by
  refine ⟨⟨0, 120, rfl, by decide, by decide⟩, ?_, ?_⟩
  · rintro ⟨c, p, h, -⟩; cases h
  · rintro ⟨c, p, h, -, hp⟩; cases h; exact absurd hp (by decide)
/-- A `seal` of no byte, and an `unseal` of a range that is not marked, or is marked and not sealed. -/
theorem witness_Seals_empty :
    ((sealState (.sealRange 64 0) []).sealOf 0 64 0 = none ∧ (sealState (.sealRange 64 0) []).writeUnderWay 0 64 0 = false) ∧
      (sealState (.unsealRange 0 64) []).sealOf 0 0 64 = none ∧
      (sealState (.unsealRange 0 64) [(0, { sealed0 with st := .hashing })]).sealOf 0 0 64 = some (0, { sealed0 with st := .hashing }) ∧
      ({ sealed0 with st := .hashing } : SealEnt).st ≠ .sealed := by decide

/-- Tokens of a write stream: at an address that is not aligned, one of which a block, or two, are still to be written, and one whose block
is behind a lost link. -/
def midWrite (ps : List Part) : Req := { stream (sd 1 8 2) with ahead := [{ parts := ps }] }
theorem witness_StreamsAndCopies_unaligned :
    (let r := stream (sd 1 8 2)
     let s := running r [token 8]
     r.ahead = [] ∧ s.engineRuns r .x Need.write (sdAddr r.blk r.off r.prog) 32 = .ok [(x0 + 8, 32)] ∧ (x0 + 8) % 32 ≠ 0 ∧
       s.lostIn [(x0 + 8, 32)] = false ∧ s.heldRuns [(x0 + 8, 32)] = false ∧ s.linkLost (x0 + 8) = false ∧
       s.linkLost (x0 + 8 + (32 - (x0 + 8) % 32)) = false ∧ r.lostPorts = [] ∧ Mem.wf s.mem = true) ∧
      (∀ ps ∈ [[(⟨0, 24, x0 + 32, 8⟩ : Part)], [⟨0, 0, x0 + 8, 24⟩, ⟨0, 24, x0 + 32, 8⟩]],
        (running (midWrite ps) [token 8]).heldRuns (ps.map fun p => (p.addr, p.len)) = false ∧ (∀ p ∈ ps, p.off + p.len ≤ 32)) ∧
      (let s := { running (midWrite [⟨0, 24, comp, 8⟩]) [token 8] with lost := [0] }
       s.linkLost comp = true ∧ s.heldRuns [(comp, 8)] = false) := by decide
/-- A block of a copy whose link is lost after the check of its chunk. -/
def farMove : CopyBlock := ⟨0, comp / 32, [⟨comp, some (x0 + 0x400)⟩]⟩
theorem witness_StreamsAndCopies_lost_block :
    let s := { copyState (checked1 [farMove] [cache1]) block0 with lost := [0] }
    s.copyActs (checked1 [farMove] [cache1]) false = [.write (comp / 32)] ∧ (checked1 [farMove] [cache1]).lostPorts = [] ∧
      s.linkLost (32 * (comp / 32)) = true := by decide

/-- Operations with tokens in their queues: of A alone, of B alone, of both; each in the midst of its burst, and the last of it. -/
def tailed : Tok := { token 42 with tail := true }
def taking (i : Intake) (a b : List Tok) : State :=
  matrixState fun x => { x with intake := some i, iq := [(4, a.map .tok), (5, b.map .tok)] }
def macl0 : Intake := { loads0 with tiles := [], todo := [0], bq := 5 }
theorem witness_MatrixAndPages_takes :
    (∀ i ∈ [intake0, macl0, { intake0 with bdone := true, bcur := [token 1] }, { intake0 with adone := true, acur := [token 1] },
        { intake0 with kind := .scout, fmt := 10 }], i.todo ≠ [] ∧ i.aq ≠ i.bq) ∧
      (∀ k ∈ [token 42, tailed], ((taking intake0 [k] []).elem elM).inq 4 = .tok k :: [] ∧ ((taking intake0 [k] []).elem elM).head 5 = none ∧
        ((taking intake0 [] [k]).elem elM).inq 5 = .tok k :: [] ∧ ((taking intake0 [] [k]).elem elM).head 4 = none) ∧
      (macl0.kind = .macl ∧ ({ intake0 with bdone := true } : Intake).adone = false ∧ intake0.kind ≠ .macl ∧ intake0.kind ≠ .scout ∧
        (token 42).tail = false ∧ tailed.tail = true) ∧
      (((taking intake0 [tailed] [token 1]).elem elM).inq 4 = .tok tailed :: [] ∧
        ((taking intake0 [tailed] [token 1]).elem elM).inq 5 = .tok (token 1) :: []) := by decide
/-- A last token that is the E-th, with its tail and without; a burst cut short, and one with a poisoned token. -/
theorem witness_MatrixAndPages_framed :
    (∀ i ∈ [intake0, { intake0 with kind := .mmas }], ([] : List Tok).length + 1 ≠ sizeA i) ∧ sizeA intake0 = 16 ∧ sizeA macl0 = 32 ∧ sizeB macl0 = 0 ∧
      WellFramed 1 [tailed] ∧ WellFramed 0 [] ∧ ¬WellFramed 1 [token 1] ∧ ¬WellFramed 2 [tailed] ∧
      ¬WellFramed 1 [{ tailed with poison := .data }] := by
  unfold WellFramed
  refine ⟨by decide, by decide, by decide, by decide, ?_, ?_, ?_, ?_, ?_⟩ <;> simp [token, tailed]
/-- Where no token has entered a class and none stands at it before a place, it is the turn of the place. -/
theorem turn_alone (s : State) (t : TileId) (c m : Nat) (he : Table.find (s.tile t).entered c = none)
    (h : ∀ n, n < m → s.placeEnters c t n = false) : Turn s t c m := by
  refine ⟨?_, fun n hn _ hp => absurd (h n hn) (by simp [hp])⟩
  rintro ⟨-, x, hx, -⟩
  simp [he] at hx
theorem witness_MatrixAndPages_order :
    Turn (matrixState fun x => { x with drain := some (drain0 0) }) elM.tile 2 (2 * elM.pos + 1) ∧
      (let r := { threshold0 with op := .thresh false 1 }
       r.elem = elM ∧ ({ lab elM with reqs := [r] } : State).reqs.find? (fun q => match q.op with
         | .thresh _ _ => q.elem.tile.block == elM.tile.block
         | _ => false) = some r) ∧
      (([(0, (0x3F800000 : Word), 0x100), (2, 0x7FC00000, 0x300)]).map (·.1)).Pairwise (· < ·) :=
  ⟨turn_alone _ _ _ _ (by decide) (by decide +kernel), by decide, by decide⟩

/-- The class of an element's oq4 with no token of an earlier place before it, with the drain of one, and after its turn. -/
theorem witness_FabricTokens_order :
    Turn (fabric 0 17 []) elV.tile 2 (2 * elV.pos) ∧
      (let o : ElemId := ⟨c11, 16⟩
       let s := { (fabric 0 17 []).modElem o (fun x => { x with drain := some (drain0 0) }) with reqs := [{ req .drain with elem := o }] }
       ¬Turn s elV.tile 2 (2 * elV.pos) ∧ s.classOf elV = some 2) ∧
      (let s := (fabric 0 17 []).modTile c11 fun x => { x with entered := [(2, (0, 34))] }
       ¬Turn s elV.tile 2 (2 * elV.pos) ∧ s.classOf elV = some 2) ∧
      Turn (quarterState (fifo [local3]) [] (routeWord 0 17) []) c11 (fifo []).emitClass 272 := by
  refine ⟨turn_alone _ _ _ _ (by decide) (by decide +kernel), ⟨?_, by decide⟩, ⟨?_, by decide⟩, turn_alone _ _ _ _ (by decide) (by decide +kernel)⟩
  · rintro ⟨-, h⟩
    obtain ⟨-, x, hx, -⟩ := h 33 (by decide) (by decide) (by decide)
    cases hx
  · rintro ⟨h, -⟩
    exact h ⟨by decide, (0, 34), by decide, by decide, by decide⟩

/-- No request of the region is due, or one is; at the controller and at the end of a handler. -/
theorem witness_Switches_due :
    (∀ q ∈ (swRegion .draining 0).switches, q.status = none → ((swRegion .draining 0).region 0).hasTile q.elem.tile = true →
        ((swRegion .draining 0).region 0).clock < q.due) ∧
      (let s := switching 2 none fun r => { r with clock := 3 }
       (∀ q ∈ ({ s with switches := [{ switch0 2 none with due := 4 }] } : State).switches, q.status = none →
         (s.region 0).hasTile q.elem.tile = true → (s.region 0).clock < q.due) ∧
       ¬(∀ q ∈ ({ s with switches := [{ switch0 2 none with due := 3 }] } : State).switches, q.status = none →
         (s.region 0).hasTile q.elem.tile = true → (s.region 0).clock < q.due) ∧ (s.region 0).twin = none) := by decide
theorem witness_Handling_places :
    (∀ q ∈ (trapping 0x05 block3 id).switches, q.status = none → (0 : Nat) < q.due) ∧ (trapping 0x05 block3 id).linkLost comp = false ∧
      (fault0 0x05).cause ≠ 0x0B ∧ ¬(fault0 0x0B).cause ≠ 0x0B ∧ (trapping 0x05 [] id).purgeRoom ((trapping 0x05 [] id).faultDie (fault0 0x05)) = true := by
  decide

/-- Exit entries of a twin pair that pass, that are held, and for which the hold buffer has no room. -/
def laterTwins : State :=
  { twins 1 with reqs := [{ exit0 3 c11 1 with itertag := 1 }, { exit0 4 ⟨0, 1, 3⟩ 1 with itertag := 1 }] }
theorem witness_Containment_held :
    ((twins 1).isUnheld (exit0 3 c11 1) = false ∧ (twins 1).isUnheld (exit0 4 ⟨0, 1, 3⟩ 1) = false ∧
        (∀ m ∈ (twins 1).reqs, m.mate ≠ some 3 ∧ m.mate ≠ some 4) ∧ (twins 1).exitPasses c11 0 false = true) ∧
      (laterTwins.isUnheld { exit0 3 c11 1 with itertag := 1 } = false ∧ laterTwins.exitPasses c11 1 false = false) ∧
      (let s := { twins 1 with reqs := (List.range 512).map (fun n => { exit0 (n + 9) c11 1 with itertag := 1 }) ++ laterTwins.reqs }
       s.isUnheld { exit0 3 c11 1 with itertag := 1 } = true) := by
  refine ⟨by decide, by decide, by decide +kernel⟩

/-- The completion word of an `ioread`, empty with nothing before it, and full. -/
theorem witness_OutsideEvents_word :
    let r := { lineReq with picks := [] }
    (lineState r).localByte c11 .x 0x40 = some (x0 + 0x40) ∧ (lineState r).isFull (x0 + 0x40) = false ∧
      (lineState r).generatorFirst (x0 + 0x40) false (lineState r).nextId = false ∧ (lineState r).locked 3 (x0 + 0x40) 4 = false ∧
      ({ lineState r with full := [x0 + 0x40] } : State).isFull (x0 + 0x40) = true := by decide
theorem witness_Commands_context_link : ({ commanded 0 with ctxs := [(0, comp)] } : State).linkLost comp = false := by decide
/-- A firmware image of one line that is well formed, but for its key, version and signature, of which the statement says what each gives. -/
theorem witness_SystemSteps_image :
    let img := bytesOf 16 (0x53384657 + 64 * 2 ^ 64) ++ List.replicate 3824 (0 : Byte)
    let h := numOf (img.take 16)
    let blen := h / 2 ^ 64 % 2 ^ 32
    h % 2 ^ 32 = 0x53384657 ∧ h / 2 ^ 38 % 2 ^ 26 = 0 ∧ h / 2 ^ 96 % 2 ^ 32 = 0 ∧ numOf ((img.drop 3748).take 28) = 0 ∧ blen % 64 = 0 ∧
      64 ≤ blen ∧ blen ≤ 67108864 ∧ img.length = 3776 + blen := by decide +kernel

/-- A routed update of a pure task, under an entry that updates and one that does not. -/
def routed (op : Nat) : State := (pureLab elA).modTile c11 fun x => { x with ents := [(1, (op, 0))] }
theorem witness_CopyAndStreams_pure :
    (∀ op ∈ [2, 10], ((routed op).regionAt c11).pure = true ∧ 2 ≤ (Table.get ((routed op).tile c11).ents 1).1 ∧
        (Table.get ((routed op).tile c11).ents 1).1 ≤ 10 ∧ (fireAt (routed op) 1).waived 0x08 = false) ∧
      (Table.get ((routed 1).tile c11).ents 1).1 < 2 ∧ 10 < (Table.get ((routed 11).tile c11).ents 1).1 ∧
      Clean (routed 2) 1 ([4, 1].map (fireAt (routed 2) 1).src) := by unfold Clean; decide
/-- A port with a running stream and a waiting start, and one that a page selection owns. -/
theorem witness_CopyAndStreams_ports :
    (let s := { streaming.modPort c11 0 (fun p => { p with waiting := some 4 }) with reqs := [stream 0, { stream 0 with id := 4 }] }
     (s.port c11 0).owner = none ∧ (s.port c11 0).running = some 3 ∧ s.req? 3 = some (stream 0) ∧ (s.port c11 0).waiting = some 4 ∧
       s.req? 4 = some { stream 0 with id := 4 } ∧ 3 ≠ 4) ∧
      (let s := { (lab elS).modPort c11 0 (fun p => { p with owner := some 3 }) with reqs := [page true 1] }
       (s.port c11 0).owner = some 3 ∧ s.req? 3 = some (page true 1) ∧ (s.port c11 0).running = none ∧ (s.port c11 0).waiting = none) := by
  decide
/-- Queues, counts and requests within what the lanes of a probe hold, at the ends of their ranges. -/
theorem witness_UnitInstructions_probe :
    let y : Elem := { elem0 with iq := [(0, List.replicate 4 (.tok (token 1)))], ctl := [(0, 0), (15, 15)] }
    (∀ j, j < 6 → (y.inq j).length ≤ 4) ∧ (y.inq 0).length = 4 ∧ (∀ j, j < 5 → (y.outq j).length ≤ 4) ∧
      (∀ c, c < 16 → (Table.get y.ctl c : Nat) ≤ 15) ∧ (Table.get y.ctl 15 : Nat) = 15 ∧ ((lab elV).oq5 elV).length ≤ 4 ∧
      (lab elV).outstanding elV < 64 := by decide

/-- Operands of the special functions: −0.75, which is small and no integer, and −200, an integer below −149; 1.25, which is no half. -/
theorem witness_SpecialFunctions_values :
    (f32Of 0xBF400000 = .fin true (3 * 2 ^ 22) (-24) false ∧ ¬(true = false ∧ 7 ≤ (Nat.log2 (3 * 2 ^ 22) : Int) + -24) ∧
        ∀ k : Int, Claims.rational true (3 * 2 ^ 22) (-24) = k → k < -149) ∧
      (f32Of 0xC3480000 = .fin true (25 * 2 ^ 19) (-16) false ∧
        ∀ k : Int, Claims.rational true (25 * 2 ^ 19) (-16) = k → k < -149) ∧
      (f32Of 0x3FA00000 = .fin false (5 * 2 ^ 21) (-23) false ∧ 5 * 2 ^ 21 ≠ 2 ^ Nat.log2 (5 * 2 ^ 21) ∧
        ∀ k : Int, Claims.rational false (5 * 2 ^ 21) (-23) ≠ k / 2) := by
  unfold Claims.rational
  refine ⟨⟨by decide, by decide, fun k h => ?_⟩, ⟨by decide, fun k h => ?_⟩, by decide, by decide, fun k h => ?_⟩
  · have hd := congrArg Rat.den h
    exact absurd (hd.trans (Rat.den_intCast k)) (by decide +kernel)
  · have hn := congrArg Rat.num h
    rw [Rat.num_intCast] at hn
    exact hn ▸ by decide +kernel
  · have hd := congrArg (fun x : Rat => (x * 2).den) h
    simp only [Rat.div_mul_cancel (show (2 : Rat) ≠ 0 by decide), Rat.den_intCast] at hd
    exact absurd hd (by decide +kernel)
/-- 2.5 between 2 and 3, tied to the even one or upward, and within and beyond a range; 1.25 between its neighbours in e5m2, with random
numbers on each side of the threshold. -/
theorem witness_Rounding_others :
    (((2 : Nat) : Rat) ≤ (5 : Nat) * (2 : Rat) ^ (-1 : Int) ∧ (5 : Nat) * (2 : Rat) ^ (-1 : Int) < ((2 : Nat) : Rat) + 1 ∧
        ¬(2 * ((2 : Nat) : Rat) + 1 < 2 * ((5 : Nat) * (2 : Rat) ^ (-1 : Int))) ∧ ((5 : Nat) * (2 : Rat) ^ (-1 : Int) ≠ ((2 : Nat) : Rat)) ∧
        ((-8 : Int) ≤ 2 ∧ (2 : Int) ≤ 7 ∧ (1 : Int) < 2 ∧ (-3 : Int) < -2)) ∧
      (let x : Rat := (9 : Nat) * (2 : Rat) ^ (-3 : Int)
       Claims.magnitude Fmt.e5m2 60 ≤ x ∧ x < Claims.magnitude Fmt.e5m2 61 ∧ 60 ≤ Fmt.e5m2.maxEnc ∧
         (x - Claims.magnitude Fmt.e5m2 60) / (Claims.magnitude Fmt.e5m2 61 - Claims.magnitude Fmt.e5m2 60) * 65536 = 32768 ∧
         65536 ≤ 32768 + 32768 ∧ 32768 + 32767 < 65536) ∧
      (Claims.magnitude Fmt.e5m2 Fmt.e5m2.maxEnc ≤ (60000 : Nat) * (2 : Rat) ^ (0 : Int) ∧
        (60000 : Nat) * (2 : Rat) ^ (0 : Int) < Claims.magnitude Fmt.e5m2 (Fmt.e5m2.maxEnc + 1)) := by
  unfold Claims.magnitude; decide +kernel

end Sys2Proof.Tests
end

section
/-!
SUPPORT. The rules of a destination write (R54) and of a fire that traps (R53), and the statements O15 and O16.
-/

namespace Sys2Proof.Machine

/-! ## What a destination write does to its destination (R54) -/

/-- A register after a clean write, lane by lane. -/
theorem Reg.write_clean (x : Reg) (g : Mask) (r : Vec) :
    x.write g r .clean =
      { val := Lanes.ofFn fun i => if g.get i then r.get i else if x.valid then x.val.get i else 0
        valid := true, poison := .clean, pending := false } := by
  cases h : x.valid <;> simp [Reg.write, merge, h]

/-- A predicate after a write, lane by lane. -/
theorem Pred.write_eq (p : Pred) (g : Mask) (r : Vec) :
    p.write g r = { val := Lanes.ofFn fun i => if g.get i then r.get i != 0 else p.val.get i, pending := false } := by
  simp [Pred.write, merge]

/-- Lanes merged into zeros. -/
theorem merge_fill_zero (g : Mask) (r : Vec) :
    merge g r (Lanes.fill 0) = Lanes.ofFn fun i => if g.get i then r.get i else 0 := by
  simp [merge]

section
variable (f : Fire) (g : Mask) (d : BitVec 5) (r : Vec) (x : Elem)

/-- A write to a register changes the firing bank alone. -/
theorem Fire.writeDest_reg {n : Nat} (hd : d.toNat = n) (hn : n < 15) :
    f.writeDest g d r x = x.modBank f.b fun k => k.setReg n ((k.reg n).write g r .clean) := by
  subst hd
  simp [Fire.writeDest, hn]

/-- A write to a predicate changes the firing bank alone. -/
theorem Fire.writeDest_pred {n : Nat} (hd : d.toNat = 22 + n) (hn : n < 7) :
    f.writeDest g d r x = x.modBank f.b fun k => k.setPred n ((k.pred n).write g r) := by
  have h15 : ¬22 + n < 15 := by omega
  have hv : ¬22 + n = 15 := by omega
  have h29 : 22 + n < 29 := by omega
  simp [Fire.writeDest, hd, h15, hv, h29]

/-- A write to an output queue puts one token into it. -/
theorem Fire.writeDest_queue {q : Nat} (hd : d.toNat = 16 + q) (hq : q < 6) :
    f.writeDest g d r x = x.pushOut q (.tok (f.token (merge g r (Lanes.fill 0)))) := by
  have h15 : ¬16 + q < 15 := by omega
  have hv : ¬16 + q = 15 := by omega
  have h22 : 16 + q < 22 := by omega
  simp [Fire.writeDest, hd, h15, hv, h22]

/-- `vz` and `qt` discard. -/
theorem Fire.writeDest_discard (hd : d.toNat = 15 ∨ d.toNat = 29) : f.writeDest g d r x = x := by
  rcases hd with hd | hd <;> simp [Fire.writeDest, hd]

/-- All that a destination write can do: a register or a predicate of the firing bank, a token in an output queue, or nothing. -/
theorem Fire.writeDest_cases :
    (∃ n v, f.writeDest g d r x = x.modBank f.b fun k => k.setReg n v) ∨
    (∃ n v, f.writeDest g d r x = x.modBank f.b fun k => k.setPred n v) ∨
    (∃ q t, f.writeDest g d r x = x.pushOut q t) ∨ f.writeDest g d r x = x := by
  unfold Fire.writeDest
  split
  · exact .inl ⟨_, _, rfl⟩
  split
  · exact .inr (.inr (.inr rfl))
  split
  · exact .inr (.inr (.inl ⟨_, _, rfl⟩))
  split
  · exact .inr (.inl ⟨_, _, rfl⟩)
  · exact .inr (.inr (.inr rfl))

/-! ## What a destination write leaves -/

/-- Of the banks, a write changes the firing one alone. -/
theorem Fire.writeDest_bank_other {b : Nat} (hb : b ≠ f.b) : (f.writeDest g d r x).bank b = x.bank b := by
  rcases f.writeDest_cases g d r x with ⟨n, v, h⟩ | ⟨n, v, h⟩ | ⟨q, t, h⟩ | h <;> rw [h]
  · exact Elem.bank_modBank_other _ _ _ _ hb
  · exact Elem.bank_modBank_other _ _ _ _ hb
  · exact Elem.bank_pushOut _ _ _ _

/-- A write leaves the state bits and the sticky flags of the firing bank. -/
theorem Fire.writeDest_bank_bits :
    ((f.writeDest g d r x).bank f.b).e = (x.bank f.b).e ∧ ((f.writeDest g d r x).bank f.b).flags = (x.bank f.b).flags := by
  rcases f.writeDest_cases g d r x with ⟨n, v, h⟩ | ⟨n, v, h⟩ | ⟨q, t, h⟩ | h <;> simp [h, Bank.setReg, Bank.setPred]

/-- A write leaves the input queues, the configuration contexts and the counters. -/
theorem Fire.writeDest_rest :
    (f.writeDest g d r x).iq = x.iq ∧ (f.writeDest g d r x).ctxs = x.ctxs ∧ (f.writeDest g d r x).counters = x.counters := by
  rcases f.writeDest_cases g d r x with ⟨n, v, h⟩ | ⟨n, v, h⟩ | ⟨q, t, h⟩ | h <;> rw [h] <;> exact ⟨rfl, rfl, rfl⟩

end

/-! ## The token of a fire (R25, R55) -/

/-- A token takes its marks and its tags from the primary head, where the trigger names one. -/
theorem Fire.token_primary {f : Fire} {h : Tok} (hp : f.prim = some h) (v : Vec) :
    (f.token v).head = h.head ∧ (f.token v).tail = h.tail ∧ (f.token v).reqtag = h.reqtag ∧
      (f.token v).itertag = h.itertag := by
  simp [Fire.token, Fire.tags, hp]

/-- Where the trigger names no primary input, a token is head and tail and takes the current tags of the firing bank. -/
theorem Fire.token_noPrimary {f : Fire} (hp : f.prim = none) (v : Vec) :
    (f.token v).head = true ∧ (f.token v).tail = true ∧ (f.token v).reqtag = f.bk.reqtag ∧
      (f.token v).itertag = f.bk.itertag := by
  simp [Fire.token, Fire.tags, hp]

/-! ## A fire that traps (R53, R421) -/

section
variable (s : State) (f : Fire) (tr : Trap) (a b : Vec)

@[simp] theorem trapFire_cur : (trapFire s f tr a b).cur = s.cur := by simp [trapFire]
@[simp] theorem trapFire_reqs : (trapFire s f tr a b).reqs = s.reqs := by simp [trapFire]
@[simp] theorem trapFire_switches : (trapFire s f tr a b).switches = s.switches := by simp [trapFire]
@[simp] theorem trapFire_ctlFlight : (trapFire s f tr a b).ctlFlight = s.ctlFlight := by simp [trapFire]

/-- Neither the mark of a purity violation nor the record of a fault changes an element. -/
theorem State.elem_record_markImpure (c : Cause) (x : FaultRec) (e : ElemId) :
    ((s.markImpure f.rid c).record x).elem e = s.elem e := by
  simp [State.elem]

/-- The element of a fire that traps changes by the halt of the firing bank alone. -/
theorem trapFire_elem_same :
    (trapFire s f tr a b).elem f.cur.elem = (s.elem f.cur.elem).modBank f.b fun k => { k with halted := true } := by
  rw [trapFire, State.elem_modElem_same, State.elem_record_markImpure]

/-- A fire that traps leaves every other element. -/
theorem trapFire_elem_other {e : ElemId} (h : e.key ≠ f.cur.elem.key) : (trapFire s f tr a b).elem e = s.elem e := by
  rw [trapFire, State.elem_modElem_other _ _ _ _ h, State.elem_record_markImpure]

/-- A fire that traps adds its fault record, with some time, at the end of the recorded faults. -/
theorem trapFire_faults :
    ∃ time, (trapFire s f tr a b).faults = s.faults ++ [{ f.faultRec tr a b with time := time }] := by
  rw [trapFire, State.modElem_faults, State.record_faults, State.markImpure_faults]
  exact ⟨_, rfl⟩

end

end Sys2Proof.Machine

namespace Sys2Proof.Claims
open Sys2Proof.Machine

/-- The write of lane results, destination by destination (R54). -/
theorem destinationWrite : DestinationWrite := by
  intro f g d r x
  obtain ⟨he, hflags⟩ := f.writeDest_bank_bits g d r x
  obtain ⟨hiq, hctxs, hcounters⟩ := f.writeDest_rest g d r x
  refine ⟨fun n hd hn => ?reg, fun n hd hn => ?pred, fun q hd hq => ?queue, f.writeDest_discard g d r x,
    fun b hb => f.writeDest_bank_other g d r x hb, he, hflags, hiq, hctxs, hcounters⟩
  case reg =>
    rw [f.writeDest_reg g d r x hd hn, Elem.bank_modBank_same]
    exact ⟨by rw [Bank.reg_setReg_same, Reg.write_clean], fun m hm => Bank.reg_setReg_other _ _ _ _ hm,
      fun m => Bank.pred_setReg .., rfl⟩
  case pred =>
    rw [f.writeDest_pred g d r x hd hn, Elem.bank_modBank_same]
    exact ⟨by rw [Bank.pred_setPred_same, Pred.write_eq], fun m hm => Bank.pred_setPred_other _ _ _ _ hm,
      fun m => Bank.reg_setPred .., rfl⟩
  case queue =>
    rw [f.writeDest_queue g d r x hd hq, merge_fill_zero]
    exact ⟨Elem.outq_pushOut_same .., fun p hp => Elem.outq_pushOut_other _ _ _ _ hp, rfl⟩

/-- The guard of a fire is read from the bank as the fire finds it (R36, R54). -/
theorem guardOfFire : GuardOfFire := by
  intro s t i
  change ((fireAt s t).tr.guardOf ((own s).bank (fireAt s t).b)).get i = _
  unfold Trig.guardOf
  split <;> simp

/-- The token of a fire takes its tags and its marks from the primary head, where there is one (R25, R55). -/
theorem tokenOfFire : TokenOfFire := fun _ _ v =>
  ⟨rfl, rfl, rfl, rfl, fun _ hp => Fire.token_primary hp v, fun hp => Fire.token_noPrimary hp v⟩

/-- Settles O15: each kind of destination by its own rule, the frame by the cases of a destination write. -/
theorem writing : Obligations.Writing := ⟨destinationWrite, guardOfFire, tokenOfFire⟩

/-- Settles O16: a trap halts the firing bank of its element and adds one record; the rest of the state stays. -/
theorem trapChangesNothing : Obligations.TrapChangesNothing := by
  intro s t tr a b f z
  have hown : own z = (own s).modBank f.b fun k => { k with halted := true } := by
    rw [own, trapFire_cur]
    exact trapFire_elem_same s f tr a b
  obtain ⟨time, hfaults⟩ : ∃ time, z.faults = s.faults ++ [{ f.faultRec tr a b with time := time }] :=
    trapFire_faults s f tr a b
  rw [hown, hfaults]
  exact ⟨fun e he => trapFire_elem_other s f tr a b he, fun n hn => Elem.bank_modBank_other _ _ _ _ hn,
    Elem.bank_modBank_same .., rfl, rfl, rfl, trapFire_reqs .., trapFire_switches .., trapFire_ctlFlight .., by simp,
    _, List.getLast?_concat .., rfl, rfl, rfl, rfl, rfl, rfl, rfl, rfl, rfl, rfl⟩

end Sys2Proof.Claims
end

section
/-!
SUPPORT. The completion of a fire with lane results, the results of the moves and shuffles, and the statement O23.
-/

namespace Sys2Proof.Machine

/-! ## Lane results of moves and shuffles -/

/-- The lanes of a value given lane by lane, in order. -/
theorem Lanes.toList_ofFn {α : Type} (f : Fin 8 → α) : (Lanes.ofFn f).toList = List.ofFn f := by
  simp [Lanes.toList, Lanes.ofFn, List.ofFn_succ]

/-- Eight lanes taken from a list of at most eight: the list, then zeros. -/
theorem toList_ofFn_getD (l : List Word) (hl : l.length ≤ 8) :
    (Lanes.ofFn fun i => l.getD i.val 0).toList = l ++ List.replicate (8 - l.length) 0 := by
  rw [Lanes.toList_ofFn]
  refine List.ext_getElem (by simp; omega) fun n h₁ h₂ => ?_
  rw [List.getElem_ofFn, List.getElem_append]
  split
  · rename_i h; simp [h]
  · rename_i h; simp [h]

/-- `pack` gives the guarded lanes in order, then zeros (R76). -/
theorem packLanes_toList (g : Mask) (v : Vec) :
    (packLanes g v).toList = ((laneIdx.filter fun i => g.get i).map fun i => v.get i) ++
      List.replicate (8 - (laneIdx.filter fun i => g.get i).length) 0 := by
  have hl : ((laneIdx.filter fun i => g.get i).map fun i => v.get i).length ≤ 8 := by
    rw [List.length_map]
    exact List.length_filter_le _ laneIdx
  have h := toList_ofFn_getD _ hl
  rwa [List.length_map] at h

/-- The second lane of `mvsb` packs head, tail and poison into its low three bits (Table 3.6). -/
theorem sideband_eq (h : Tok) :
    sideband h = ⟨h.tag.zeroExtend 32,
      BitVec.ofNat 32 (h.head.toNat + 2 * h.tail.toNat + 4 * (decide (h.poison ≠ .clean)).toNat),
      h.reqtag.zeroExtend 32, h.itertag.zeroExtend 32, h.ctxno.zeroExtend 32, 0, 0, 0⟩ := by
  have bits : ∀ x y z : Bool, bit x ||| (bit y <<< 1) ||| (bit z <<< 2) =
      BitVec.ofNat 32 (x.toNat + 2 * y.toNat + 4 * z.toNat) := by decide
  have hp : (h.poison != .clean) = decide (h.poison ≠ .clean) := by
    cases h.poison <;> rfl
  rw [sideband, bits, hp]

/-- Lane `n` of a value whose low four lanes come from `low`. -/
theorem get_halves_low (low high : Nat → Word) (n : Fin 4) (h : 4 ≤ 8) :
    (Lanes.ofFn fun i => if i.val < 4 then low i.val else high (i.val - 4)).get (Fin.castLE h n) = low n.val := by
  rw [Lanes.get_ofFn]
  exact if_pos n.isLt

/-- Lane `4 + n` of a value whose high four lanes come from `high`. -/
theorem get_halves_high (low high : Nat → Word) (n : Fin 4) (h : 4 + n.val < 8) :
    (Lanes.ofFn fun i => if i.val < 4 then low i.val else high (i.val - 4)).get ⟨4 + n.val, h⟩ = high n.val := by
  rw [Lanes.get_ofFn, if_neg (Nat.not_lt.mpr (Nat.le_add_right 4 n.val)), Nat.add_sub_cancel_left]

/-- A lane named by an index is named by its low three bits (R75). -/
theorem laneAt_mod (v : Vec) (n : Nat) : laneAt v (n % 8) = v.get (Fin.ofNat 8 n) :=
  congrArg v.get (Fin.ext (Nat.mod_mod n 8))

/-- A lane at a distance is the lane of the sum modulo 8 (R75). -/
theorem laneAt_add (v : Vec) (i : Fin 8) (n : Nat) : laneAt v (i.val + n) = v.get (i + Fin.ofNat 8 n) :=
  congrArg v.get (Fin.ext (Nat.add_mod_mod i.val n 8).symm)

/-- A lane below 8 is the lane itself. -/
theorem laneAt_lt (v : Vec) {n : Nat} (h : n < 8) : laneAt v n = v.get ⟨n, h⟩ :=
  congrArg v.get (Fin.ext (Nat.mod_eq_of_lt h))

end Sys2Proof.Machine

namespace Sys2Proof.Claims
open Sys2Proof.Machine

/-! ## Completion of a fire with lane results -/

section
variable {s : State} {t : BitVec 6} {d : BitVec 5} {srcs : List (BitVec 5)} {i : Instr} {r : Fire → Vec} {v : Vec}

/-- An instruction with lane results writes them through the guard, where its sources are clean (R54). -/
theorem writes_of_fireLanes (hi : exec i s = fireLanes s t d srcs r) (hc : Clean s t (srcs.map (fireAt s t).src))
    (hr : r (fireAt s t) = v) : Writes s i t d srcs (guardAt s t) v := by
  subst hr
  exact hi.trans (fireElem_completes _ _ _ _ _ _ hc.1 hc.2 rfl)

/-- An instruction that writes whatever the guard writes every lane, where its sources are clean (R76). -/
theorem writes_of_fireAll (hi : exec i s = fireAll s t d srcs r) (hc : Clean s t (srcs.map (fireAt s t).src))
    (hr : r (fireAt s t) = v) : Writes s i t d srcs (Lanes.fill true) v := by
  subst hr
  exact hi.trans (fireElem_completes _ _ _ _ _ _ hc.1 hc.2 rfl)

/-- `mvsb` writes the head's sideband, and reads no data that could trap (R68). -/
theorem writes_mvsb (a : BitVec 5) (hc : Clean s t []) :
    Writes s (.mvsb t d a) t d [a] (guardAt s t) (sideband ((fireAt s t).headOf a)) :=
  (exec_mvsb t d a s).trans (fire_completes _ _ _ _ _ _ _ _ _ hc.1 rfl rfl)

end

/-- Moves of state bits, sideband, immediates, counters and flags (R67 to R69, R77, R78, R187). -/
theorem movesAndReads : MovesAndReads := by
  intro s t d a i j hc f h
  refine ⟨?mvse, ?mvsb, ?movi, ?movl, ?rdflg, _, writes_of_fireLanes (exec_crd ..) hc rfl,
    fun n => ?counters⟩
  case mvse => exact writes_of_fireLanes (exec_mvse ..) hc rfl
  case mvsb => exact sideband_eq h ▸ writes_mvsb a hc
  case movi => exact writes_of_fireLanes (exec_movi ..) hc rfl
  case movl => exact writes_of_fireLanes (exec_movl ..) hc rfl
  case rdflg => exact writes_of_fireLanes (exec_rdflg ..) hc rfl
  case counters =>
    exact ⟨get_halves_low (fun k => ((own s).counter k).value) (fun k => ((own s).counter k).idx) n _,
      get_halves_high (fun k => ((own s).counter k).value) (fun k => ((own s).counter k).idx) n _⟩

/-- Movement across lanes (R75, R76) and the choice by a predicate (R60). -/
theorem laneMovement : LaneMovement := by
  intro s t d a b n
  refine ⟨fun hc => ⟨fun _ => ⟨?bcast, ?lrot, ?lshd⟩, _, ?pack, packLanes_toList ..⟩, fun hc => ⟨?perm, ?selQn⟩⟩
  case bcast => exact writes_of_fireLanes (exec_bcast ..) hc rfl
  case lrot =>
    exact writes_of_fireLanes (exec_lrot ..) hc (congrArg Lanes.ofFn (funext fun i => laneAt_add _ i _))
  case lshd =>
    refine writes_of_fireLanes (exec_lshd ..) hc (congrArg Lanes.ofFn (funext fun i => ?_))
    by_cases h : i.val + b.toNat < 8
    · rw [dif_pos h, if_pos (Nat.le_of_lt_succ h)]
      exact laneAt_lt _ h
    · rw [dif_neg h, if_neg fun h' => h (Nat.lt_succ_of_le h')]
  case pack => exact writes_of_fireAll (exec_pack ..) hc rfl
  case perm =>
    exact writes_of_fireLanes (exec_perm ..) hc (congrArg Lanes.ofFn (funext fun i => laneAt_mod _ _))
  case selQn => exact writes_of_fireLanes (exec_selQn ..) hc rfl

/-- Settles O23: each instruction completes with its lane results, which are those that the statement gives. -/
theorem movesAndLanes : Obligations.MovesAndLanes := ⟨movesAndReads, laneMovement⟩

end Sys2Proof.Claims
end

section
/-!
SUPPORT. What `splitAt` tells of a value between two multiples of a power of two, the neighbours of a value in a format, the rounding
between them (R158, R160, R161), and the statement O35.
-/

namespace Sys2Proof.Machine

/-! ## The discarded part of a value against one half -/

/-- What `splitAt` says of a value `x` from `lo` up to `hi`: 0 at `lo`, and else 1 below, 2 at and 3 above their middle. -/
def discarded (lo hi x : Rat) : Nat :=
  if x = lo then 0 else if 2 * x < lo + hi then 1 else if 2 * x = lo + hi then 2 else 3

theorem discarded_eq_zero {lo hi x : Rat} : discarded lo hi x = 0 ↔ x = lo := by
  unfold discarded
  split_ifs <;> simp [*]

/-- The place of a value between its neighbours does not depend on the scale. -/
theorem discarded_mul (lo hi x : Rat) {c : Rat} (hc : 0 < c) : discarded (lo * c) (hi * c) (x * c) = discarded lo hi x := by
  have heq : 2 * (x * c) = lo * c + hi * c ↔ 2 * x = lo + hi := by
    rw [← mul_assoc, ← add_mul, mul_left_inj' hc.ne']
  have hlt : 2 * (x * c) < lo * c + hi * c ↔ 2 * x < lo + hi := by
    rw [← mul_assoc, ← add_mul, mul_lt_mul_iff_left₀ hc]
  simp only [discarded, mul_left_inj' hc.ne', hlt, heq]

/-- `splitAt` at `j` places above the last one of the value: quotient, and remainder against one half. -/
theorem splitAt_above (u : Nat) (e : Int) {j : Nat} (hj : 0 < j) :
    splitAt u e false (e + j) =
      (u / 2 ^ j, if u % 2 ^ j = 0 then 0 else if 2 * (u % 2 ^ j) < 2 ^ j then 1 else if 2 * (u % 2 ^ j) = 2 ^ j then 2 else 3) := by
  have hq : ¬e + (j : Int) ≤ e := by omega
  have hk : (e + (j : Int) - e).toNat = j := by omega
  simp only [splitAt, if_neg hq, hk, Nat.shiftRight_eq_div_pow]
  rcases le_or_gt j (Nat.log2 u + 3) with h | h
  · have hpow : 2 ^ j = 2 * 2 ^ (j - 1) := by rw [← Nat.pow_succ', Nat.succ_eq_add_one, Nat.sub_add_cancel hj]
    have hlt : 2 * (u % 2 ^ j) < 2 ^ j ↔ u % 2 ^ j < 2 ^ (j - 1) := by omega
    have heq : 2 * (u % 2 ^ j) = 2 ^ j ↔ u % 2 ^ j = 2 ^ (j - 1) := by omega
    simp [min_eq_left h, hlt, heq]
  · -- the value is below one quarter of the place in either form
    have hu : u < 2 ^ (Nat.log2 u + 1) := Nat.lt_log2_self
    have hu₂ : u < 2 ^ (Nat.log2 u + 2) := hu.trans (Nat.pow_lt_pow_right (by omega) (by omega))
    have hu₃ : u < 2 ^ (Nat.log2 u + 3) := hu.trans (Nat.pow_lt_pow_right (by omega) (by omega))
    have hhalf : 2 * u < 2 ^ j :=
      calc 2 * u < 2 * 2 ^ (Nat.log2 u + 1) := by omega
        _ = 2 ^ (Nat.log2 u + 2) := by rw [Nat.pow_succ' (n := Nat.log2 u + 1)]
        _ ≤ 2 ^ j := Nat.pow_le_pow_right (by omega) (by omega)
    have huj : u < 2 ^ j := by omega
    have hm : Nat.log2 u + 3 - 1 = Nat.log2 u + 2 := rfl
    simp [min_eq_right h.le, hm, Nat.div_eq_of_lt, Nat.mod_eq_of_lt, hu₂, hu₃, huj, hhalf]

/-- `splitAt` of a value between two multiples of `2 ^ q`. -/
theorem splitAt_between {u N : Nat} {e q : Int} (hlo : (N : Rat) * 2 ^ q ≤ u * 2 ^ e) (hhi : (u : Rat) * 2 ^ e < (N + 1) * 2 ^ q) :
    splitAt u e false q = (N, discarded (N * 2 ^ q) ((N + 1) * 2 ^ q) (u * 2 ^ e)) := by
  rcases le_or_gt q e with h | h
  · obtain ⟨j, rfl⟩ := Int.le.dest h
    have hx : (u : Rat) * 2 ^ (q + j) = (u * 2 ^ j : Nat) * 2 ^ q := by
      rw [zpow_add₀ (by norm_num)]; push_cast; rw [zpow_natCast]; ring
    have hpos : (0 : Rat) < 2 ^ q := by positivity
    rw [hx] at hlo hhi ⊢
    have hN : N = u * 2 ^ j := by
      have h₁ := le_of_mul_le_mul_right hlo hpos
      have h₂ := lt_of_mul_lt_mul_right hhi hpos.le
      norm_cast at h₁ h₂
      omega
    rw [discarded_eq_zero.mpr (by rw [hN])]
    simp [splitAt, hN, Nat.shiftLeft_eq]
  · obtain ⟨j, rfl⟩ := Int.le.dest h.le
    have hj : 0 < j := by omega
    have hpos : (0 : Rat) < 2 ^ e := by positivity
    have hx : ∀ y : Rat, y * 2 ^ (e + j) = (y * 2 ^ j) * 2 ^ e := fun y => by
      rw [zpow_add₀ (by norm_num), zpow_natCast]; ring
    rw [hx] at hlo hhi
    have h₁ : N * 2 ^ j ≤ u := by exact_mod_cast le_of_mul_le_mul_right hlo hpos
    have h₂ : u < (N + 1) * 2 ^ j := by exact_mod_cast lt_of_mul_lt_mul_right hhi hpos.le
    have hdiv : u / 2 ^ j = N := Nat.div_eq_of_lt_le h₁ h₂
    have hmod : u = N * 2 ^ j + u % 2 ^ j := by rw [← hdiv, Nat.div_add_mod']
    rw [splitAt_above u e hj, hx, hx, discarded_mul _ _ _ hpos, hdiv]
    have heq : (u : Rat) = N * 2 ^ j ↔ u % 2 ^ j = 0 := by
      norm_cast; omega
    have hlt : 2 * (u : Rat) < N * 2 ^ j + (N + 1) * 2 ^ j ↔ 2 * (u % 2 ^ j) < 2 ^ j := by
      norm_cast; rw [Nat.add_mul]; omega
    have hmid : 2 * (u : Rat) = N * 2 ^ j + (N + 1) * 2 ^ j ↔ 2 * (u % 2 ^ j) = 2 ^ j := by
      norm_cast; rw [Nat.add_mul]; omega
    simp only [discarded, heq, hlt, hmid]

/-! ## The exponent of a value -/

/-- The leading bit of a value tells the powers of two above it. -/
theorem dyadic_lt_zpow_iff {u : Nat} (hu : u ≠ 0) (e c : Int) : (u : Rat) * 2 ^ e < 2 ^ c ↔ (Nat.log2 u : Int) + e < c := by
  have hpos : (0 : Rat) < u := by exact_mod_cast Nat.pos_of_ne_zero hu
  have h := Int.lt_zpow_iff_log_lt (b := 2) (by norm_num) (x := c - e) hpos
  rw [Int.log_natCast, ← Nat.log2_eq_log_two, zpow_sub₀ (by norm_num), Nat.cast_ofNat,
    lt_div_iff₀ (by positivity)] at h
  rw [h, lt_sub_iff_add_lt]

/-- The leading bit of a value tells the powers of two up to it. -/
theorem zpow_le_dyadic_iff {u : Nat} (hu : u ≠ 0) (e c : Int) : (2 : Rat) ^ c ≤ u * 2 ^ e ↔ c ≤ (Nat.log2 u : Int) + e := by
  rw [← not_lt, dyadic_lt_zpow_iff hu, not_lt]

/-! ## The integer and the place of the last bit that an encoding stands for -/

/-- The leading bit of a significand, which the exponent field 0 lacks. -/
def Fmt.lead (f : Fmt) (E : Nat) : Nat := if E = 0 then 0 else 2 ^ f.p

/-- The significand of an encoding, as an integer. -/
def Fmt.sig (f : Fmt) (n : Nat) : Nat := f.lead (n / 2 ^ f.p) + n % 2 ^ f.p

/-- The exponent of the last place of an encoding. -/
def Fmt.place (f : Fmt) (n : Nat) : Int := (max (n / 2 ^ f.p) 1 : Nat) - (f.bias : Int) - f.p

section
variable (f : Fmt)

@[simp] theorem Fmt.lead_zero : f.lead 0 = 0 := rfl

theorem Fmt.lead_of_pos {E : Nat} (h : 0 < E) : f.lead E = 2 ^ f.p := if_neg h.ne'

variable (n : Nat)

theorem Fmt.mod_lt : n % 2 ^ f.p < 2 ^ f.p := Nat.mod_lt _ (by positivity)

/-- The significand and the exponent field put together again. -/
theorem Fmt.encode_sig (j : Nat) : ((f.place n + f.p + f.bias).toNat <<< f.p) + (f.sig n + j) - 2 ^ f.p = n + j := by
  have hE : (f.place n + f.p + f.bias).toNat = max (n / 2 ^ f.p) 1 := by
    rw [Fmt.place]; omega
  have hn : n / 2 ^ f.p * 2 ^ f.p + n % 2 ^ f.p = n := Nat.div_add_mod' ..
  rw [hE, Nat.shiftLeft_eq, Fmt.sig]
  rcases Nat.eq_zero_or_pos (n / 2 ^ f.p) with h | h
  · rw [h] at hn ⊢
    simp only [Fmt.lead_zero, Nat.max_eq_right zero_le_one]
    omega
  · rw [f.lead_of_pos h, Nat.max_eq_left h]
    omega

/-- The last bit of an encoding is that of its significand, where the format has a fraction. -/
theorem Fmt.sig_mod_two (hp : 0 < f.p) : f.sig n % 2 = n % 2 := by
  have hd : 2 ∣ 2 ^ f.p := dvd_pow_self 2 hp.ne'
  have hl : f.lead (n / 2 ^ f.p) % 2 = 0 := by
    unfold Fmt.lead
    split
    · rfl
    · exact Nat.mod_eq_zero_of_dvd hd
  rw [Fmt.sig, Nat.add_mod, hl, Nat.mod_mod_of_dvd _ hd, Nat.zero_add, Nat.mod_mod]

end

end Sys2Proof.Machine

namespace Sys2Proof.Claims
open Sys2Proof.Machine

/-! ## Magnitudes and their neighbours -/

section
variable (f : Fmt) (n : Nat)

/-- The magnitude of an exponent field and a fraction, also where the fraction carries into the field. -/
theorem magnitude_fields (E : Nat) {M : Nat} (hM : M ≤ 2 ^ f.p) :
    magnitude f (E * 2 ^ f.p + M) = ((f.lead E + M : Nat) : Rat) * 2 ^ ((max E 1 : Nat) - (f.bias : Int) - f.p) := by
  have hP : 0 < 2 ^ f.p := by positivity
  rcases Nat.lt_or_eq_of_le hM with h | rfl
  · have hdiv : (E * 2 ^ f.p + M) / 2 ^ f.p = E := by
      rw [Nat.add_comm, Nat.add_mul_div_right _ _ hP, Nat.div_eq_of_lt h, Nat.zero_add]
    have hmod : (E * 2 ^ f.p + M) % 2 ^ f.p = M := by rw [Nat.mul_add_mod', Nat.mod_eq_of_lt h]
    rw [magnitude, hdiv, hmod]
    rcases Nat.eq_zero_or_pos E with rfl | hE
    · simp
    · rw [if_neg hE.ne', f.lead_of_pos hE, Nat.max_eq_left hE]
  · rw [← Nat.succ_mul, magnitude, Nat.mul_div_cancel _ hP, Nat.mul_mod_left, if_neg (Nat.succ_ne_zero E)]
    rcases Nat.eq_zero_or_pos E with rfl | hE
    · simp
    · have hcarry : ((E.succ : Nat) : Int) - f.bias - f.p = (E : Int) - f.bias - f.p + 1 := by push_cast; ring
      rw [f.lead_of_pos hE, Nat.max_eq_left hE, hcarry, zpow_add_one₀ (by norm_num)]
      push_cast; ring

theorem magnitude_eq : magnitude f n = f.sig n * 2 ^ f.place n := by
  have h := magnitude_fields f (n / 2 ^ f.p) (f.mod_lt n).le
  rwa [Nat.div_add_mod'] at h

/-- The magnitude of the next encoding is one unit in the last place above. -/
theorem magnitude_succ : magnitude f (n + 1) = (f.sig n + 1) * 2 ^ f.place n := by
  have h := magnitude_fields f (n / 2 ^ f.p) (f.mod_lt n)
  rw [Nat.succ_eq_add_one, ← Nat.add_assoc, Nat.div_add_mod'] at h
  rw [h]
  push_cast [Fmt.sig, Fmt.place]
  ring

/-- The next encoding has a larger magnitude. -/
theorem magnitude_lt_succ : magnitude f n < magnitude f (n + 1) := by
  rw [magnitude_eq, magnitude_succ]
  have : (0 : Rat) < 2 ^ f.place n := by positivity
  linarith

/-- The magnitude at the lower end of an exponent field is a power of two. -/
theorem magnitude_binade {E : Nat} (hE : 0 < E) : magnitude f (E * 2 ^ f.p) = 2 ^ ((E : Int) - f.bias) := by
  have h := magnitude_fields f E (M := 0) (Nat.zero_le _)
  rw [Nat.add_zero, Nat.add_zero, f.lead_of_pos hE, Nat.max_eq_left hE] at h
  rw [h, Nat.cast_pow, Nat.cast_ofNat, ← zpow_natCast, ← zpow_add₀ (by norm_num)]
  congr 1; ring

theorem magnitude_zero : magnitude f 0 = 0 := by
  simp [magnitude]

theorem magnitude_mono : StrictMono (magnitude f) := strictMono_nat_of_lt_succ (magnitude_lt_succ f)

end

section
variable {f : Fmt} {u n : Nat} {e : Int}

/-- Every value lies between two neighbours. -/
theorem exists_neighbours (f : Fmt) (u : Nat) (e : Int) :
    ∃ n, magnitude f n ≤ (u : Rat) * 2 ^ e ∧ (u : Rat) * 2 ^ e < magnitude f (n + 1) := by
  have hex : ∃ k, (u : Rat) * 2 ^ e < magnitude f k := by
    refine ⟨(((Nat.log2 u : Int) + e + f.bias).toNat + 1) * 2 ^ f.p, ?_⟩
    rw [magnitude_binade f (Nat.succ_pos _)]
    rcases eq_or_ne u 0 with rfl | hu
    · rw [Nat.cast_zero, zero_mul]; positivity
    · rw [dyadic_lt_zpow_iff hu]; omega
  obtain ⟨n, hn⟩ : ∃ n, Nat.find hex = n + 1 := by
    refine Nat.exists_eq_succ_of_ne_zero fun h₀ => ?_
    have h := Nat.find_spec hex
    rw [h₀, magnitude_zero] at h
    exact h.not_ge (by positivity)
  exact ⟨n, not_lt.mp (Nat.find_min hex (by omega)), hn ▸ Nat.find_spec hex⟩

/-- A value between two neighbours has the last place of the lower one. -/
theorem lastPlace_eq_place (hu : u ≠ 0) (hlo : magnitude f n ≤ (u : Rat) * 2 ^ e) (hhi : (u : Rat) * 2 ^ e < magnitude f (n + 1)) :
    f.lastPlace u e = f.place n := by
  have hend : n + 1 ≤ (n / 2 ^ f.p + 1) * 2 ^ f.p := Nat.mul_comm .. ▸ Nat.lt_mul_div_succ n (by positivity)
  have htop : (Nat.log2 u : Int) + e < (n / 2 ^ f.p + 1 : Nat) - f.bias := by
    rw [← dyadic_lt_zpow_iff hu, ← magnitude_binade f (Nat.succ_pos _)]
    exact hhi.trans_le ((magnitude_mono f).monotone hend)
  rw [Fmt.lastPlace, Fmt.place]
  rcases Nat.eq_zero_or_pos (n / 2 ^ f.p) with h | h
  · rw [h] at htop ⊢
    omega
  · have hbot : ((n / 2 ^ f.p : Nat) : Int) - f.bias ≤ (Nat.log2 u : Int) + e := by
      rw [← zpow_le_dyadic_iff hu, ← magnitude_binade f h]
      exact ((magnitude_mono f).monotone (Nat.div_mul_le_self ..)).trans hlo
    omega

/-- The smallest normal value, as the exponent of a value tells it. -/
theorem lt_smallest_normal_iff (hu : u ≠ 0) :
    (u : Rat) * 2 ^ e < magnitude f (2 ^ f.p) ↔ (Nat.log2 u : Int) + e < 1 - (f.bias : Int) := by
  rw [← dyadic_lt_zpow_iff hu, ← Nat.cast_one (R := Int), ← magnitude_binade f one_pos, Nat.one_mul]

/-- Where a value between two neighbours lies, as the rounding to a format reads it. -/
theorem splitAt_neighbours (hlo : magnitude f n ≤ (u : Rat) * 2 ^ e) (hhi : (u : Rat) * 2 ^ e < magnitude f (n + 1)) :
    splitAt u e false (f.place n) = (f.sig n, discarded (magnitude f n) (magnitude f (n + 1)) (u * 2 ^ e)) := by
  rw [magnitude_eq] at hlo ⊢
  rw [magnitude_succ] at hhi ⊢
  exact splitAt_between hlo hhi

end

/-! ## The direction of a rounding (Table 7.4) -/

/-- Whether mode `m` takes a value `x` of sign `g` to the upper of its neighbours in magnitude; `n` is the lower one's integer or
encoding. -/
def RoundsAway (m : Rm) (g : Bool) (n : Nat) (lo hi x : Rat) : Prop :=
  if m = 0 then lo + hi < 2 * x ∨ (lo + hi = 2 * x ∧ n % 2 = 1) else x ≠ lo ∧ ((m = 2 ∧ g = true) ∨ (m = 3 ∧ g = false))

/-- Of the neighbours `n` and `n + 1`, the mode takes the value to `k`. -/
def RoundsTo (m : Rm) (g : Bool) (n : Nat) (lo hi x : Rat) (k : Nat) : Prop :=
  (RoundsAway m g n lo hi x ∧ k = n + 1) ∨ (¬RoundsAway m g n lo hi x ∧ k = n)

/-- The four modes. -/
theorem rm_cases : ∀ m : Rm, m = 0 ∨ m = 1 ∨ m = 2 ∨ m = 3 := by decide

/-- In round to nearest a value is rounded up from above the middle, and from the middle to the even neighbour. -/
theorem roundsUp_nearest {lo hi x : Rat} (h : lo < hi) (g : Bool) (n : Nat) :
    roundsUp 0 g (n % 2 == 1) (discarded lo hi x) = true ↔ lo + hi < 2 * x ∨ (lo + hi = 2 * x ∧ n % 2 = 1) := by
  rcases lt_trichotomy (2 * x) (lo + hi) with hx | hx | hx
  · have hd : discarded lo hi x < 2 := by unfold discarded; split_ifs <;> omega
    have : ¬ (discarded lo hi x = 3 ∨ discarded lo hi x = 2 ∧ n % 2 = 1) := by omega
    simpa [roundsUp, hx.ne', hx.not_gt] using this
  · have hlo : x ≠ lo := by rintro rfl; linarith
    have hd : discarded lo hi x = 2 := by simp [discarded, hlo, hx]
    simp [roundsUp, hd, hx]
  · have hlo : x ≠ lo := by rintro rfl; linarith
    have hd : discarded lo hi x = 3 := by simp [discarded, hlo, hx.not_gt, hx.ne']
    simp [roundsUp, hd, hx]

theorem roundsUp_iff {lo hi x : Rat} (h : lo < hi) (m : Rm) (g : Bool) (n : Nat) :
    roundsUp m g (n % 2 == 1) (discarded lo hi x) = true ↔ RoundsAway m g n lo hi x := by
  rcases rm_cases m with rfl | rfl | rfl | rfl
  · exact roundsUp_nearest h g n
  · simp [roundsUp, RoundsAway]
  · simp [roundsUp, RoundsAway, discarded_eq_zero, and_comm]
  · simp [roundsUp, RoundsAway, discarded_eq_zero, and_comm]

/-- The step from the lower neighbour `n` to the result `k`, taken from an integer `N`. -/
theorem roundsUp_step {lo hi x : Rat} (h : lo < hi) {m : Rm} {g : Bool} {n k : Nat}
    (hk : RoundsTo m g n lo hi x k) (N : Nat) :
    n ≤ k ∧ (if roundsUp m g (n % 2 == 1) (discarded lo hi x) then N + 1 else N) = N + (k - n) := by
  rcases hk with ⟨ha, hk⟩ | ⟨ha, hk⟩
  · rw [if_pos ((roundsUp_iff h m g n).mpr ha)]; omega
  · rw [if_neg (mt (roundsUp_iff h m g n).mp ha)]; omega

/-! ## Rounding to a format (R158) -/

/-- The result and the flags of an overflow. -/
def overflowed (f : Fmt) (g : Bool) (m : Rm) : Nat × Flags :=
  if f.hasInf then
    (f.signed g (if m = 0 ∨ m = 2 ∧ g = true ∨ m = 3 ∧ g = false then f.infEnc else f.maxEnc), Flags.nx ||| Flags.of)
  else (f.signed g f.maxEnc, Flags.nx ||| Flags.sat)

/-- The flags of an inexact result `k` of a value `x`. -/
def inexactFlags (f : Fmt) (x : Rat) (k : Nat) : Flags :=
  if k < 2 ^ f.p ∨ x < magnitude f (2 ^ f.p) then Flags.nx ||| Flags.uf else Flags.nx

section
variable {f : Fmt} {g : Bool} {u n k : Nat} {e : Int} {m : Rm}

theorem roundTo_zero (f : Fmt) (g : Bool) (e : Int) (m : Rm) : roundTo f (.dy g 0 e) m = (f.signed g 0, 0) := rfl

/-- `roundTo` of a number, from its last place, its split there and the encoding of the rounded significand. -/
theorem roundTo_number {q : Int} {N half : Nat} (hu : u ≠ 0) (hq : f.lastPlace u e = q) (hs : splitAt u e false q = (N, half))
    (hk : ((q + f.p + f.bias).toNat <<< f.p) + (if roundsUp m g (N % 2 == 1) half then N + 1 else N) - 2 ^ f.p = k) :
    roundTo f (.dy g u e) m =
      if f.maxEnc < k then overflowed f g m
      else (f.signed g k, if half = 0 then 0 else inexactFlags f (u * 2 ^ e) k) := by
  have hu' : ¬(u == 0 && !false) = true := by simpa using hu
  simp only [roundTo, XVal.dy, if_neg hu', hq, hs, hk]
  split
  · cases h : f.hasInf
    · simp [overflowed, h]
    · rcases rm_cases m with rfl | rfl | rfl | rfl <;> simp [overflowed, h]
  · simp only [inexactFlags, lt_smallest_normal_iff hu, beq_iff_eq, Bool.or_eq_true, decide_eq_true_eq]
    split <;> rfl

/-- A value between two neighbours is rounded to one of them or overflows. -/
theorem roundTo_between (hp : 0 < f.p) (hu : u ≠ 0) (hlo : magnitude f n ≤ (u : Rat) * 2 ^ e)
    (hhi : (u : Rat) * 2 ^ e < magnitude f (n + 1))
    (hk : RoundsTo m g n (magnitude f n) (magnitude f (n + 1)) (u * 2 ^ e) k) :
    roundTo f (.dy g u e) m =
      if f.maxEnc < k then overflowed f g m
      else (f.signed g k, if (u : Rat) * 2 ^ e = magnitude f n then 0 else inexactFlags f (u * 2 ^ e) k) := by
  obtain ⟨hnk, hstep⟩ := roundsUp_step (magnitude_lt_succ f n) hk (f.sig n)
  rw [roundTo_number hu (lastPlace_eq_place hu hlo hhi) (splitAt_neighbours hlo hhi) (k := k)
    (by rw [f.sig_mod_two n hp, hstep, f.encode_sig, Nat.add_sub_cancel' hnk])]
  simp only [discarded_eq_zero]

/-- A value of an exponent beyond the format's exponent field overflows. -/
theorem roundTo_beyond (hp : 0 < f.p) (hb : 0 < f.eb) (hmax : f.maxEnc < 2 ^ f.signAt) (hu : u ≠ 0)
    (he : (2 : Int) ^ f.eb ≤ (Nat.log2 u : Int) + e) : roundTo f (.dy g u e) m = overflowed f g m := by
  obtain ⟨n, hlo, hhi⟩ := exists_neighbours f u e
  have hn : f.maxEnc < n := by
    have hplace := lastPlace_eq_place hu hlo hhi
    rw [Fmt.lastPlace, Fmt.place] at hplace
    have h2 : 2 ≤ 2 ^ f.eb := Nat.le_self_pow hb.ne' 2
    have hE : 2 ^ f.eb ≤ n / 2 ^ f.p := by
      generalize n / 2 ^ f.p = E at hplace ⊢
      zify at h2 ⊢
      omega
    rw [Nat.le_div_iff_mul_le (by positivity), ← Nat.pow_add] at hE
    exact hmax.trans_le hE
  by_cases ha : RoundsAway m g n (magnitude f n) (magnitude f (n + 1)) (u * 2 ^ e)
  · rw [roundTo_between hp hu hlo hhi (.inl ⟨ha, rfl⟩), if_pos (by omega)]
  · rw [roundTo_between hp hu hlo hhi (.inr ⟨ha, rfl⟩), if_pos hn]

/-- A value that is the magnitude of a finite encoding is rounded to it. -/
theorem roundTo_magnitude (hp : 0 < f.p) (hn : n ≤ f.maxEnc) (g : Bool) (m : Rm) :
    roundTo f (.dy g (f.sig n) (f.place n)) m = (f.signed g n, 0) := by
  rcases eq_or_ne (f.sig n) 0 with h₀ | hu
  · have hn₀ : n = 0 := (magnitude_mono f).injective (by rw [magnitude_eq, h₀, magnitude_zero]; simp)
    rw [h₀, roundTo_zero, hn₀]
  · have hx := magnitude_eq f n
    have hlt := magnitude_lt_succ f n
    have ha : ¬RoundsAway m g n (magnitude f n) (magnitude f (n + 1)) (f.sig n * 2 ^ f.place n) := by
      rw [← hx, RoundsAway]
      split
      · rintro (h | ⟨h, -⟩) <;> linarith
      · exact fun h => h.1 rfl
    rw [roundTo_between hp hu hx.le (hx ▸ hlt) (.inr ⟨ha, rfl⟩), if_neg hn.not_gt, if_pos hx.symm]

end

/-- An encoding is put together from its sign and its magnitude. -/
theorem signed_of_bits (f : Fmt) {n : Nat} (hn : n < 2 ^ (f.signAt + 1)) :
    f.signed ((n >>> f.signAt) % 2 == 1) (n % 2 ^ f.signAt) = n := by
  rw [Nat.pow_succ', ← Nat.div_lt_iff_lt_mul (by positivity)] at hn
  have h := Nat.div_add_mod' n (2 ^ f.signAt)
  rw [Fmt.signed, Nat.shiftRight_eq_div_pow, Nat.mod_eq_of_lt hn]
  rcases Nat.lt_succ_iff_lt_or_eq.mp hn with h₀ | h₁
  · rw [Nat.lt_one_iff.mp h₀] at h ⊢
    simpa using h
  · rw [h₁] at h ⊢
    simpa [Nat.add_comm] using h

/-- What an encoding that is not a NaN denotes: an infinity, or the number of its fields (R151, R152). -/
theorem value_cases (f : Fmt) (n : Nat) (h : f.isNan n = false) :
    (f.hasInf = true ∧ n % 2 ^ f.signAt = f.infEnc ∧ f.value n = .inf ((n >>> f.signAt) % 2 == 1)) ∨
      (n % 2 ^ f.signAt ≤ f.maxEnc ∧
        f.value n = .dy ((n >>> f.signAt) % 2 == 1) (f.sig (n % 2 ^ f.signAt)) (f.place (n % 2 ^ f.signAt))) := by
  unfold Fmt.isNan at h
  unfold Fmt.value at h ⊢
  generalize n % 2 ^ f.signAt = a at h ⊢
  simp only [Nat.shiftRight_eq_div_pow] at h ⊢
  split at h
  · rename_i hi
    rw [Bool.and_eq_true, beq_iff_eq] at hi
    exact .inl ⟨hi.1, hi.2, if_pos (by simp [hi])⟩
  · rename_i hi
    rw [if_neg hi]
    split at h
    · cases h
    · rename_i hm
      refine .inr ⟨not_lt.mp hm, ?_⟩
      rw [if_neg hm, Fmt.sig, Fmt.place]
      split
      · rename_i h₀
        simp [beq_iff_eq.mp h₀]
      · rename_i h₀
        have hpos : 0 < a / 2 ^ f.p := Nat.pos_of_ne_zero (mt beq_iff_eq.mpr h₀)
        rw [f.lead_of_pos hpos, Nat.max_eq_left hpos]

/-! ## The floating formats -/

/-- What the rounding uses of a format: a fraction, an exponent field, and room for the largest finite value below the sign. -/
theorem format_facts : ∀ f ∈ [Fmt.f32, Fmt.bf16, Fmt.f16, Fmt.e4m3, Fmt.e5m2, Fmt.e3m2, Fmt.e2m3, Fmt.e2m1],
    0 < f.p ∧ 0 < f.eb ∧ f.maxEnc < 2 ^ f.signAt := by decide

/-- Every encoding of a format that is not a NaN is rounded to itself (R158). -/
theorem roundingExact : RoundingExact := by
  intro f hf n m hn hnan
  obtain ⟨hp, -, -⟩ := format_facts f hf
  rcases value_cases f n hnan with ⟨hinf, hmag, hv⟩ | ⟨hmag, hv⟩
  · rw [hv, roundTo, if_pos hinf, ← hmag, signed_of_bits f hn]
  · rw [hv, roundTo_magnitude hp hmag, signed_of_bits f hn]

/-- A zero, an overflow, and a value between two neighbours (R158). -/
theorem roundingEdges : RoundingEdges := by
  intro f hf
  obtain ⟨hp, hb, hmax⟩ := format_facts f hf
  refine ⟨roundTo_zero f, fun g u e m hu he => roundTo_beyond hp hb hmax hu he, ?_⟩
  intro g u e m n hu x hlo hhi up k hk
  have h := roundTo_between (g := g) (m := m) hp hu hlo hhi hk
  exact ⟨fun hle => h.trans (if_neg hle.not_gt), fun hgt => h.trans (if_pos hgt)⟩

/-! ## Rounding to an integer (R161) -/

/-- A value between two integers becomes one of them or a bound of the range. -/
theorem toInt_between (lo hi : Int) {m : Rm} {g : Bool} {u n k : Nat} {e : Int} (hlo : (n : Rat) ≤ u * 2 ^ e)
    (hhi : (u : Rat) * 2 ^ e < n + 1) (hk : RoundsTo m g n n (n + 1) (u * 2 ^ e) k) :
    toInt lo hi (.dy g u e) m =
      if (if g then -(k : Int) else k) < lo then (lo, Flags.sat ||| Flags.nx)
      else if hi < (if g then -(k : Int) else k) then (hi, Flags.sat ||| Flags.nx)
      else (if g then -(k : Int) else k, if (u : Rat) * 2 ^ e = n then 0 else Flags.nx) := by
  have hs : splitAt u e false 0 = (n, discarded n (n + 1) (u * 2 ^ e)) := by
    simpa using splitAt_between (q := 0) (by simpa using hlo) (by simpa using hhi)
  obtain ⟨hnk, hstep⟩ := roundsUp_step (by simp) hk n
  simp only [toInt, XVal.dy, hs, hstep, Nat.add_sub_cancel' hnk, beq_iff_eq, discarded_eq_zero]

/-! ## Stochastic rounding (R160) -/

section
variable {f : Fmt} {g : Bool} {u n k r : Nat} {e : Int}

/-- The first 16 bits of the discarded fraction, as the rounding reads them. -/
theorem splitAt_fraction {t : Nat} (hhi : (u : Rat) * 2 ^ e < magnitude f (n + 1))
    (ht₀ : (t : Rat) ≤ (u * 2 ^ e - magnitude f n) / (magnitude f (n + 1) - magnitude f n) * 65536)
    (ht₁ : (u * 2 ^ e - magnitude f n) / (magnitude f (n + 1) - magnitude f n) * 65536 < (t : Rat) + 1) :
    (splitAt u e false (f.place n - 16)).1 % 65536 = t := by
  have hpos : (0 : Rat) < 2 ^ (f.place n - 16) := by positivity
  have hplace : (2 : Rat) ^ f.place n = 65536 * 2 ^ (f.place n - 16) := by
    rw [zpow_sub₀ (by norm_num)]; norm_num; ring
  have hgap : magnitude f (n + 1) - magnitude f n = 65536 * 2 ^ (f.place n - 16) := by
    rw [magnitude_succ, magnitude_eq, ← hplace]; ring
  have hfrac : (u * 2 ^ e - magnitude f n) / (magnitude f (n + 1) - magnitude f n) * 65536 =
      (u * 2 ^ e - magnitude f n) / 2 ^ (f.place n - 16) := by
    rw [hgap]; field_simp
  rw [hfrac, le_div_iff₀ hpos] at ht₀
  rw [hfrac, div_lt_iff₀ hpos] at ht₁
  have hbase : magnitude f n = (f.sig n * 65536 : Nat) * 2 ^ (f.place n - 16) := by
    rw [magnitude_eq, hplace]; push_cast; ring
  have ht : t < 65536 := by
    have h : (t : Rat) * 2 ^ (f.place n - 16) < 65536 * 2 ^ (f.place n - 16) := by linarith
    exact_mod_cast lt_of_mul_lt_mul_right h hpos.le
  rw [splitAt_between (N := f.sig n * 65536 + t) (by rw [Nat.cast_add, add_mul, ← hbase]; linarith)
    (by rw [Nat.cast_add, add_assoc, add_mul, ← hbase]; linarith)]
  omega

/-- A value between two neighbours is rounded to nearest above the largest finite value, and else to the neighbour that the
random number takes. -/
theorem roundStoch_between {t : Nat} (hu : u ≠ 0) (hlo : magnitude f n ≤ (u : Rat) * 2 ^ e)
    (hhi : (u : Rat) * 2 ^ e < magnitude f (n + 1)) (ht : (splitAt u e false (f.place n - 16)).1 % 65536 = t)
    (hk : k = if 65536 ≤ t + r then n + 1 else n) :
    roundStoch f (.dy g u e) r =
      if f.maxEnc < n ∨ (n = f.maxEnc ∧ (u : Rat) * 2 ^ e ≠ magnitude f n) then roundTo f (.dy g u e) 0
      else (f.signed g k, if (u : Rat) * 2 ^ e = magnitude f n ∧ k = n then 0 else inexactFlags f (u * 2 ^ e) k) := by
  have henc : ((f.place n + f.p + f.bias).toNat <<< f.p) + f.sig n - 2 ^ f.p = n := f.encode_sig n 0
  simp only [roundStoch, XVal.dy, beq_iff_eq, if_neg hu, lastPlace_eq_place hu hlo hhi, splitAt_neighbours hlo hhi, henc, ht, ← hk]
  simp only [Bool.or_eq_true, Bool.and_eq_true, bne_iff_ne, ne_eq, decide_eq_true_eq, beq_iff_eq, discarded_eq_zero, inexactFlags,
    lt_smallest_normal_iff hu, ← not_and_or, ite_not]

/-- Of the two results between which a value is rounded, one is the value where it is the lower one and is kept. -/
theorem magnitude_eq_value_iff {x : Rat} (hhi : x < magnitude f (n + 1)) (hk : k = n ∨ k = n + 1) :
    magnitude f k = x ↔ x = magnitude f n ∧ k = n := by
  rcases hk with rfl | rfl
  · simp [eq_comm]
  · simp [hhi.ne']

end

/-- To an integer, between two integers and at the bounds of the range; and stochastically (R160, R161). -/
theorem roundingOthers : RoundingOthers := by
  refine ⟨fun lo hi m => ⟨rfl, fun g => rfl, ?integer⟩, fun f hf r hr => ⟨rfl, fun g => rfl, fun g e => rfl, ?stochastic⟩⟩
  case integer =>
    intro g u n k e x hlo hhi up hk v
    have hmid : (n : Rat) + (n + 1) = 2 * n + 1 := by ring
    rw [toInt_between lo hi (k := k) hlo hhi (by rw [RoundsTo, RoundsAway, hmid]; exact hk)]
    refine ⟨fun h => if_pos h, fun h₁ h₂ => ?_, fun h₁ h₂ => ?_⟩
    · exact (if_neg h₁.not_gt).trans (if_pos h₂)
    · exact (if_neg h₁.not_gt).trans (if_neg h₂.not_gt)
  case stochastic =>
    intro g u n e hu x hlo hhi
    refine ⟨fun h => ?above, fun t k hn hexact ht₀ ht₁ hk => ?between⟩
    case above => exact (roundStoch_between hu hlo hhi rfl rfl).trans (if_pos h)
    case between =>
      have hkt : k = if 65536 ≤ t + r then n + 1 else n := by split <;> omega
      have hfin : ¬(f.maxEnc < n ∨ (n = f.maxEnc ∧ x ≠ magnitude f n)) := by
        rintro (h | ⟨h, hx⟩)
        · exact hn.not_gt h
        · exact hx (hexact h)
      rw [roundStoch_between hu hlo hhi (splitAt_fraction hhi ht₀ ht₁) hkt, if_neg hfin]
      simp only [magnitude_eq_value_iff hhi (by omega : k = n ∨ k = n + 1)]
      rfl

/-- Settles O35: a value lies between two neighbours, whose place `splitAt` finds, and the mode takes one of them. -/
theorem rounding : Obligations.Rounding := ⟨roundingExact, roundingEdges, roundingOthers⟩

end Sys2Proof.Claims
end
